-- ==== Sys2Proof/Config.lean ====
section
/-! DEFINITION. The sizes and fixed times the manual gives the part, and the free values: constants
without a body, of which nothing can be proved. -/

namespace Sys2Proof.Config

/-- Longest payload of a frame (section 10.1). -/
def maxPayload : Nat := 48
/-- Capacity of the forward FIFO toward the cab (R156). -/
def cabFifoSize : Nat := 16
/-- Capacity of the field forward FIFO (R156). -/
def fieldFifoSize : Nat := 8
/-- Capacity of the urgent notice queue (R161). -/
def urgentSize : Nat := 8
/-- Capacity of the general notice queue (R161). -/
def generalSize : Nat := 24
/-- Records in a bank (R114). -/
def bankSize : Nat := 32
/-- Tickets in the store (R142). -/
def ticketStoreSize : Nat := 8
/-- Entries of the string stack (R56). -/
def stackSize : Nat := 128
/-- BHA entries of the string stack (R56). -/
def bhaSize : Nat := 4
/-- The running time of R14, in ms. -/
def runningTime : Nat := 2000
/-- The start hold timer of R173, in ms. -/
def startHold : Nat := 5000
/-- Movement above which a later encoder report is a jump, in mm (R81). -/
def jumpLimit : Nat := 2000
/-- Movement above which the first report after a reset is a jump, in mm (R82). -/
def firstReportLimit : Nat := 500
/-- Top of the head height's range, in mm (R80). -/
def maxHeadHeight : Int := 20000
/-- Distance off bottom below which the free hookload is not taken, in mm (R88). -/
def freeHookloadDistance : Int := 500
/-- Movement above which the head is moving, in mm (R92). -/
def movingLimit : Int := 200
/-- The last interval number of a job (R98). -/
def maxIntervals : Nat := 65535
/-- The ticket counter from which no ordinary ticket is issued (R147). -/
def ticketCounterStop : Nat := 65534
/-- The largest money amount, 2^48 − 1 units (section 6.2, R148). -/
def moneyMax : Nat := 2 ^ 48 - 1
/-- The largest 32-bit count, at which the second and millimetre counts saturate. -/
def count32Max : Nat := 2 ^ 32 - 1
/-- The largest 16-bit count, at which the error counts saturate. -/
def count16Max : Nat := 65535
/-- Bytes of fields in one part of a reply: 48 less the code, the part, the number of parts and the
two bytes of the presence mask (R177). -/
def partBytes : Nat := 43
/-- Identity, vendor code (R168). -/
def vendorCode : Nat := 90
/-- Identity, part code (R168). -/
def partCode : Nat := 560
/-- Identity, revision (R168). -/
def revision : Nat := 1

/-- FREE VALUE. One less than the part's serial number, 1–16,777,215, given at manufacture (R168). -/
opaque serialBelow : Fin 16777215
/-- The part's serial number (R168). -/
def serial : Nat := serialBelow.val + 1

/-- FREE VALUE. What a field of a frame of the given width in bytes carries when the number to send
does not fit that width: the manual states no value (log 10). -/
opaque unheldField : (width : Nat) → (value : Int) → Nat

/-- FREE VALUES. Reply codes of states whose owning chapter gives no code (log 11). The argument is the
position of the name in the list its chapter gives. -/
opaque inputKindCode : Nat → Fin 256
opaque inputStateCode : Nat → Fin 256
opaque intervalStateCode : Nat → Fin 256
opaque extensionStateCode : Nat → Fin 256
opaque rodKindCode : Nat → Fin 256
opaque holdSourceCode : Nat → Fin 256

end Sys2Proof.Config
end

