-- ==== Sys2Proof/Word.lean ====
section
/-! DEFINITION. The plain data every other file speaks of: bytes, trunk addresses, input and pump
indices, frame kinds and frames. -/

namespace Sys2Proof

/-- One byte of the trunk. -/
abbrev Byte := BitVec 8

/-- A trunk address, 0–63: 0 is broadcast, 1 to 62 are nodes (R153). -/
abbrev Addr := Fin 64

/-- The index of a logical input, the row index of the Channel Map (section 1.1). -/
abbrev InputId := Fin 13

/-- A pump: 0 is pump 1 (row 0 of the Pump Table), 1 is pump 2 (R38). -/
abbrev PumpId := Fin 2

/-- The six kinds of frame of section 10.1. -/
inductive FrameKind where
  | sample | status | setpoint | notice | request | reply
  deriving DecidableEq, Repr

/-- A well-formed frame (section 10.1). Its check is not a field: R153 lets a frame in only when the
check equals the CRC of the bytes before it, so the frame's bytes determine it. -/
structure Frame where
  dest : Addr
  src : Addr
  kind : FrameKind
  tag : Byte
  seq : Byte
  payload : List Byte
  deriving DecidableEq, Repr

end Sys2Proof
end

