-- ==== Sys2Proof/Syntax.lean ====
section
/-! DEFINITION. The commands of the part: one constructor of `Instr` per row of the table of operations
and events, with the row's operands at their wire widths. -/

namespace Sys2Proof

/-- What a request brings beside its code and arguments: the source address its reply goes to, and the
sequence number the reply carries (R157, R165). A request row is a REQUEST that R155 has handed to
Management, so it is addressed to the trunk address or to 63. -/
structure ReqHeader where
  src : Addr
  seq : Byte
  deriving DecidableEq, Repr

/-- The row form of table 1 as loaded (section 12.4). -/
structure SettingsForm where
  trunk : Byte
  startMode : Byte
  period : Byte
  window : Byte
  settle : Byte
  step : BitVec 16
  fillMark : Byte
  ticketBit : Byte
  flowback : Byte
  noiseFloor : BitVec 16
  deriving DecidableEq, Repr

/-- The row form of table 2 as loaded (section 12.4). -/
structure ChannelForm where
  enabled : Byte
  node : Byte
  kind : Byte
  channel : Byte
  gain : BitVec 16
  offset : BitVec 32
  low : BitVec 32
  high : BitVec 32
  depth : Byte
  stale : BitVec 16
  mandatory : Byte
  aux : BitVec 32
  deriving DecidableEq, Repr

/-- The row form of table 3 as loaded (section 12.4). -/
structure PumpForm where
  node : Byte
  displacement : BitVec 16
  efficiency : Byte
  maxRate : Byte
  rampRate : Byte
  plausibility : Byte
  deriving DecidableEq, Repr

/-- The row form of table 4 as loaded (section 12.4). -/
structure LimitsForm where
  trip : BitVec 16
  hysteresis : BitVec 16
  warn : BitVec 16
  bleed : BitVec 16
  stop : Byte
  wob : BitVec 16
  distance : BitVec 16
  handler : Byte
  timeout : BitVec 16
  deriving DecidableEq, Repr

/-- The row form of table 5 as loaded (section 12.4). -/
structure ThresholdForm where
  lossWatch : BitVec 32
  lossLevel : BitVec 32
  gainWatch : BitVec 32
  gainLevel : BitVec 32
  ratio : Byte
  deriving DecidableEq, Repr

/-- The row form of table 6 as loaded (section 12.4). -/
structure ClassForm where
  enabled : Byte
  code : Byte
  piLow : BitVec 16
  piHigh : BitVec 16
  trLow : BitVec 16
  trHigh : BitVec 16
  mask : BitVec 16
  value : BitVec 16
  deriving DecidableEq, Repr

/-- The row form of table 7 as loaded (section 12.4). -/
structure TariffForm where
  kind : Byte
  key : BitVec 16
  bandTo : BitVec 16
  rate : BitVec 32
  deriving DecidableEq, Repr

/-- Which retained areas fail their check at a reset (R174). -/
structure FailedAreas where
  tables : Bool
  string : Bool
  depth : Bool
  job : Bool
  deriving DecidableEq, Repr

/-- The part's commands, one constructor for each row of the table, in the table's order. -/
inductive Instr where
  /-- The byte sequence that ends at the field port (R153, R154). -/
  | fieldFrame (bytes : List Byte)
  /-- The byte sequence that ends at the cab port (R153, R155). -/
  | cabFrame (bytes : List Byte)
  /-- A SETPOINT frame from the cab to a pump node (R45). -/
  | pumpSetpoint (dest src : Addr) (tag seq : Byte) (payload : List Byte)
  /-- A SETPOINT frame from the cab to the handler node (R59). -/
  | handlerCommand (dest src : Addr) (tag seq : Byte) (payload : List Byte)
  | identify (h : ReqHeader)
  | readStatus (h : ReqHeader) (part : Byte)
  | loadRowSettings (h : ReqHeader) (row : Byte) (form : SettingsForm)
  | loadRowChannelMap (h : ReqHeader) (row : Byte) (form : ChannelForm)
  | loadRowPumpTable (h : ReqHeader) (row : Byte) (form : PumpForm)
  | loadRowInterlockLimits (h : ReqHeader) (row : Byte) (form : LimitsForm)
  | loadRowCirculationThresholds (h : ReqHeader) (row : Byte) (form : ThresholdForm)
  | loadRowStrataClassTable (h : ReqHeader) (row : Byte) (form : ClassForm)
  | loadRowTariffTable (h : ReqHeader) (row : Byte) (form : TariffForm)
  | readRow (h : ReqHeader) (table row part : Byte)
  | clearTables (h : ReqHeader)
  | setMode (h : ReqHeader) (mode : Byte)
  | setTime (h : ReqHeader) (seconds : BitVec 32)
  | restart (h : ReqHeader)
  | readInput (h : ReqHeader) (index part : Byte)
  | readBalance (h : ReqHeader) (index part : Byte)
  | tripReset (h : ReqHeader)
  | readPumps (h : ReqHeader) (part : Byte)
  | rackPut (h : ReqHeader) (slot : Byte) (serial : BitVec 32) (length : BitVec 16)
  | rackTake (h : ReqHeader) (slot : Byte)
  | bhaAdd (h : ReqHeader) (serial : BitVec 32) (length : BitVec 16)
  | bhaRemove (h : ReqHeader)
  | holdToSlot (h : ReqHeader) (slot : Byte)
  | tallyConfirm (h : ReqHeader)
  | readRack (h : ReqHeader) (slot part : Byte)
  | readString (h : ReqHeader) (index part : Byte)
  | depthCorrect (h : ReqHeader) (depth : BitVec 32)
  | readDepth (h : ReqHeader) (part : Byte)
  | readInterval (h : ReqHeader) (part : Byte)
  | readRecord (h : ReqHeader) (bank index part : Byte)
  | releaseBank (h : ReqHeader) (bank : Byte)
  | jobOpen (h : ReqHeader) (number : BitVec 32) (customer : BitVec 16)
  | jobSuspend (h : ReqHeader)
  | jobResume (h : ReqHeader)
  | jobClose (h : ReqHeader)
  | readJob (h : ReqHeader) (part : Byte)
  | mudAddition (h : ReqHeader) (code : Byte) (quantity : BitVec 16)
  | ticketNow (h : ReqHeader)
  | releaseTicket (h : ReqHeader) (number : BitVec 16)
  | readTicket (h : ReqHeader) (number : BitVec 16) (part : Byte)
  | secondTick
  | cadenceTrigger
  | staleTimerExpiry (input : InputId)
  | runningTimerExpiry (pump : PumpId)
  | periodExpiry
  | handlerTimeout
  | settleTimerExpiry
  | startHoldTimerExpiry
  /-- The completion of the retained-area checks, with the areas that failed (R174). -/
  | checksComplete (failed : FailedAreas)
  | endOfStarting
  | powerOn
  | supplyDip
  | restartReset
  | cabSendComplete
  | fieldSendComplete
  deriving DecidableEq, Repr

end Sys2Proof
end

