-- ==== Sys2Proof/Decode.lean ====
section
/-! DEFINITION. Bytes and numbers, the check, frames and row forms: how the byte sequences of the trunk
are read and built (section 12.1, section 12.4, R153), and the table's words, of which there are none. -/

namespace Sys2Proof

/-- A number sent most significant byte first (chapter 12). -/
def natOfBytes (bs : List Byte) : Nat := bs.foldl (fun n b => n * 256 + b.toNat) 0

/-- The `width` bytes of a number, most significant first; higher bits are not sent. -/
def bytesOfNat : (width : Nat) → Nat → List Byte
  | 0, _ => []
  | w + 1, n => BitVec.ofNat 8 (n / 256 ^ w) :: bytesOfNat w n

/-- The two's complement reading of a number of `bits` bits. -/
def signedOf (bits n : Nat) : Int :=
  if n < 2 ^ (bits - 1) then (n : Int) else (n : Int) - 2 ^ bits

/-- A signed number read from its bytes (R2, chapter 12). -/
def intOfBytes (bs : List Byte) : Int := signedOf (8 * bs.length) (natOfBytes bs)

/-- One bit of the check: generator x^16 + x^12 + x^5 + 1, most significant bit first (R153). -/
def crcBit (r : BitVec 16) : BitVec 16 :=
  if r.msb then (r <<< 1) ^^^ 0x1021#16 else r <<< 1

/-- The check register after one byte (R153). -/
def crcByte (r : BitVec 16) (b : Byte) : BitVec 16 :=
  let r0 := r ^^^ (b.zeroExtend 16 <<< 8)
  crcBit (crcBit (crcBit (crcBit (crcBit (crcBit (crcBit (crcBit r0)))))))

/-- The check of R153 over a list of bytes: the register starts at all ones and is not inverted. -/
def crc16 (bs : List Byte) : BitVec 16 := bs.foldl crcByte 0xFFFF#16

/-- The code of a frame kind (section 10.1). -/
def FrameKind.code : FrameKind → Byte
  | .sample => 1 | .status => 2 | .setpoint => 3 | .notice => 4 | .request => 5 | .reply => 6

/-- The frame kind of a code, none outside 1 to 6 (R153). -/
def FrameKind.ofCode (b : Byte) : Option FrameKind :=
  match b.toNat with
  | 1 => some .sample | 2 => some .status | 3 => some .setpoint
  | 4 => some .notice | 5 => some .request | 6 => some .reply
  | _ => none

/-- The address of a byte, none above 63 (R153). -/
def addrOfByte (b : Byte) : Option Addr :=
  if h : b.toNat < 64 then some ⟨b.toNat, h⟩ else none

/-- The bytes of a frame before its check (section 12.1). -/
def Frame.body (f : Frame) : List Byte :=
  BitVec.ofNat 8 f.dest.val :: BitVec.ofNat 8 f.src.val :: f.kind.code :: f.tag :: f.seq ::
    BitVec.ofNat 8 f.payload.length :: f.payload

/-- The whole frame as it is sent, check included (section 12.1). -/
def Frame.bytes (f : Frame) : List Byte := f.body ++ bytesOfNat 2 (crc16 f.body).toNat

/-- The arrival check of R153: the frame of a byte sequence, or none when it is malformed. -/
def parseFrame : List Byte → Option Frame
  | d :: s :: k :: tag :: seq :: len :: rest =>
    if len.toNat ≤ Config.maxPayload ∧ rest.length = len.toNat + 2 then
      match addrOfByte d, addrOfByte s, FrameKind.ofCode k with
      | some dest, some src, some kind =>
        let payload := rest.take len.toNat
        if natOfBytes (rest.drop len.toNat) =
            (crc16 (d :: s :: k :: tag :: seq :: len :: payload)).toNat then
          some ⟨dest, src, kind, tag, seq, payload⟩
        else none
      | _, _, _ => none
    else none
  | _ => none

/-- The number at `offset` of a payload, `width` bytes long. -/
def fieldAt (p : List Byte) (offset width : Nat) : BitVec (8 * width) :=
  BitVec.ofNat _ (natOfBytes ((p.drop offset).take width))

/-- Table 1's form from its 12 bytes (section 12.4). -/
def SettingsForm.ofBytes (p : List Byte) : SettingsForm where
  trunk := fieldAt p 0 1
  startMode := fieldAt p 1 1
  period := fieldAt p 2 1
  window := fieldAt p 3 1
  settle := fieldAt p 4 1
  step := fieldAt p 5 2
  fillMark := fieldAt p 7 1
  ticketBit := fieldAt p 8 1
  flowback := fieldAt p 9 1
  noiseFloor := fieldAt p 10 2

/-- Table 2's form from its 26 bytes (section 12.4). -/
def ChannelForm.ofBytes (p : List Byte) : ChannelForm where
  enabled := fieldAt p 0 1
  node := fieldAt p 1 1
  kind := fieldAt p 2 1
  channel := fieldAt p 3 1
  gain := fieldAt p 4 2
  offset := fieldAt p 6 4
  low := fieldAt p 10 4
  high := fieldAt p 14 4
  depth := fieldAt p 18 1
  stale := fieldAt p 19 2
  mandatory := fieldAt p 21 1
  aux := fieldAt p 22 4

/-- Table 3's form from its 7 bytes (section 12.4). -/
def PumpForm.ofBytes (p : List Byte) : PumpForm where
  node := fieldAt p 0 1
  displacement := fieldAt p 1 2
  efficiency := fieldAt p 3 1
  maxRate := fieldAt p 4 1
  rampRate := fieldAt p 5 1
  plausibility := fieldAt p 6 1

/-- Table 4's form from its 16 bytes (section 12.4). -/
def LimitsForm.ofBytes (p : List Byte) : LimitsForm where
  trip := fieldAt p 0 2
  hysteresis := fieldAt p 2 2
  warn := fieldAt p 4 2
  bleed := fieldAt p 6 2
  stop := fieldAt p 8 1
  wob := fieldAt p 9 2
  distance := fieldAt p 11 2
  handler := fieldAt p 13 1
  timeout := fieldAt p 14 2

/-- Table 5's form from its 17 bytes (section 12.4). -/
def ThresholdForm.ofBytes (p : List Byte) : ThresholdForm where
  lossWatch := fieldAt p 0 4
  lossLevel := fieldAt p 4 4
  gainWatch := fieldAt p 8 4
  gainLevel := fieldAt p 12 4
  ratio := fieldAt p 16 1

/-- Table 6's form from its 14 bytes (section 12.4). -/
def ClassForm.ofBytes (p : List Byte) : ClassForm where
  enabled := fieldAt p 0 1
  code := fieldAt p 1 1
  piLow := fieldAt p 2 2
  piHigh := fieldAt p 4 2
  trLow := fieldAt p 6 2
  trHigh := fieldAt p 8 2
  mask := fieldAt p 10 2
  value := fieldAt p 12 2

/-- Table 7's form from its 9 bytes (section 12.4). -/
def TariffForm.ofBytes (p : List Byte) : TariffForm where
  kind := fieldAt p 0 1
  key := fieldAt p 1 2
  bandTo := fieldAt p 3 2
  rate := fieldAt p 5 4

/-- The bytes of a row form of table `n`, none outside the loadable tables (section 12.4). -/
def rowFormBytes : Nat → Option Nat
  | 1 => some 12 | 2 => some 26 | 3 => some 7 | 4 => some 16
  | 5 => some 17 | 6 => some 14 | 7 => some 9
  | _ => none

/-! ### The wire form of the requests (sections 12.2 and 12.4) -/

def SettingsForm.bytes (f : SettingsForm) : List Byte :=
  [f.trunk, f.startMode, f.period, f.window, f.settle] ++ bytesOfNat 2 f.step.toNat ++
    [f.fillMark, f.ticketBit, f.flowback] ++ bytesOfNat 2 f.noiseFloor.toNat

def ChannelForm.bytes (f : ChannelForm) : List Byte :=
  [f.enabled, f.node, f.kind, f.channel] ++ bytesOfNat 2 f.gain.toNat ++
    bytesOfNat 4 f.offset.toNat ++ bytesOfNat 4 f.low.toNat ++ bytesOfNat 4 f.high.toNat ++
    [f.depth] ++ bytesOfNat 2 f.stale.toNat ++ [f.mandatory] ++ bytesOfNat 4 f.aux.toNat

def PumpForm.bytes (f : PumpForm) : List Byte :=
  [f.node] ++ bytesOfNat 2 f.displacement.toNat ++
    [f.efficiency, f.maxRate, f.rampRate, f.plausibility]

def LimitsForm.bytes (f : LimitsForm) : List Byte :=
  bytesOfNat 2 f.trip.toNat ++ bytesOfNat 2 f.hysteresis.toNat ++ bytesOfNat 2 f.warn.toNat ++
    bytesOfNat 2 f.bleed.toNat ++ [f.stop] ++ bytesOfNat 2 f.wob.toNat ++
    bytesOfNat 2 f.distance.toNat ++ [f.handler] ++ bytesOfNat 2 f.timeout.toNat

def ThresholdForm.bytes (f : ThresholdForm) : List Byte :=
  bytesOfNat 4 f.lossWatch.toNat ++ bytesOfNat 4 f.lossLevel.toNat ++
    bytesOfNat 4 f.gainWatch.toNat ++ bytesOfNat 4 f.gainLevel.toNat ++ [f.ratio]

def ClassForm.bytes (f : ClassForm) : List Byte :=
  [f.enabled, f.code] ++ bytesOfNat 2 f.piLow.toNat ++ bytesOfNat 2 f.piHigh.toNat ++
    bytesOfNat 2 f.trLow.toNat ++ bytesOfNat 2 f.trHigh.toNat ++ bytesOfNat 2 f.mask.toNat ++
    bytesOfNat 2 f.value.toNat

def TariffForm.bytes (f : TariffForm) : List Byte :=
  [f.kind] ++ bytesOfNat 2 f.key.toNat ++ bytesOfNat 2 f.bandTo.toNat ++ bytesOfNat 4 f.rate.toNat

/-- A request row as it travels: its header, its request code and its payload; none for a row that is
no request (section 12.2). -/
def Instr.request : Instr → Option (ReqHeader × Byte × List Byte)
  | .identify h => some (h, 1, [])
  | .readStatus h part => some (h, 2, [part])
  | .loadRowSettings h row f => some (h, 3, [1, row] ++ f.bytes)
  | .loadRowChannelMap h row f => some (h, 3, [2, row] ++ f.bytes)
  | .loadRowPumpTable h row f => some (h, 3, [3, row] ++ f.bytes)
  | .loadRowInterlockLimits h row f => some (h, 3, [4, row] ++ f.bytes)
  | .loadRowCirculationThresholds h row f => some (h, 3, [5, row] ++ f.bytes)
  | .loadRowStrataClassTable h row f => some (h, 3, [6, row] ++ f.bytes)
  | .loadRowTariffTable h row f => some (h, 3, [7, row] ++ f.bytes)
  | .readRow h table row part => some (h, 4, [table, row, part])
  | .clearTables h => some (h, 5, [])
  | .setMode h mode => some (h, 6, [mode])
  | .setTime h seconds => some (h, 7, bytesOfNat 4 seconds.toNat)
  | .restart h => some (h, 8, [])
  | .readInput h index part => some (h, 16, [index, part])
  | .readBalance h index part => some (h, 17, [index, part])
  | .tripReset h => some (h, 24, [])
  | .readPumps h part => some (h, 25, [part])
  | .rackPut h slot serial length =>
    some (h, 32, [slot] ++ bytesOfNat 4 serial.toNat ++ bytesOfNat 2 length.toNat)
  | .rackTake h slot => some (h, 33, [slot])
  | .bhaAdd h serial length =>
    some (h, 34, bytesOfNat 4 serial.toNat ++ bytesOfNat 2 length.toNat)
  | .bhaRemove h => some (h, 35, [])
  | .holdToSlot h slot => some (h, 36, [slot])
  | .tallyConfirm h => some (h, 37, [])
  | .readRack h slot part => some (h, 38, [slot, part])
  | .readString h index part => some (h, 39, [index, part])
  | .depthCorrect h depth => some (h, 48, bytesOfNat 4 depth.toNat)
  | .readDepth h part => some (h, 49, [part])
  | .readInterval h part => some (h, 56, [part])
  | .readRecord h bank index part => some (h, 64, [bank, index, part])
  | .releaseBank h bank => some (h, 65, [bank])
  | .jobOpen h number customer =>
    some (h, 72, bytesOfNat 4 number.toNat ++ bytesOfNat 2 customer.toNat)
  | .jobSuspend h => some (h, 73, [])
  | .jobResume h => some (h, 74, [])
  | .jobClose h => some (h, 75, [])
  | .readJob h part => some (h, 76, [part])
  | .mudAddition h code quantity => some (h, 77, [code] ++ bytesOfNat 2 quantity.toNat)
  | .ticketNow h => some (h, 80, [])
  | .releaseTicket h number => some (h, 81, bytesOfNat 2 number.toNat)
  | .readTicket h number part => some (h, 82, bytesOfNat 2 number.toNat ++ [part])
  | .fieldFrame _ | .cabFrame _ | .pumpSetpoint _ _ _ _ _ | .handlerCommand _ _ _ _ _ => none
  | .secondTick | .cadenceTrigger | .staleTimerExpiry _ | .runningTimerExpiry _ => none
  | .periodExpiry | .handlerTimeout | .settleTimerExpiry | .startHoldTimerExpiry => none
  | .checksComplete _ | .endOfStarting | .powerOn | .supplyDip | .restartReset => none
  | .cabSendComplete | .fieldSendComplete => none

/-- The REQUEST frame of a request row, sent to `dest` (section 12.1, R165). -/
def Instr.requestFrame (c : Instr) (dest : Addr) : Option Frame :=
  c.request.map fun q => ⟨dest, q.1.src, .request, q.2.1, q.1.seq, q.2.2⟩

/-- The command a table word spells. No row of the part's table gives bits: the part takes frames and
events, and none of them is a word. So no word spells a command. -/
def decodeTableWord (_nbits _w : Nat) : Option Instr := none

end Sys2Proof
end

