-- ==== Sys2Proof/Machine/Types.lean ====
section
/-! DEFINITION. The names and records the blocks' state is made of: modes, states, table rows, rod
records, interval records, tickets, notices. -/

namespace Sys2Proof.Machine

/-- The modes of section 11.6. -/
inductive Mode where
  | starting | monitor | supervised | standby
  deriving DecidableEq, Repr

/-- The kinds of reset of R174. -/
inductive ResetCause where
  | powerOn | supplyDip | restart
  deriving DecidableEq, Repr

/-- The states of a logical input (R9). -/
inductive Freshness where
  | never | fresh | stale
  deriving DecidableEq, Repr

/-- The circulation states of section 2.5. -/
inductive CircState where
  | pumpsOff | filling | normal | lossWatch | loss | totalLoss | gainWatch | gain | flowing | blind
  deriving DecidableEq, Repr

/-- The control states of a pump (section 3.2). -/
inductive Control where
  | stopped | ramping | rampHeld | steady | forcedOff
  deriving DecidableEq, Repr

/-- The connection states of section 4.3. -/
inductive Conn where
  | headOn | headOffEmpty | headOffHolding
  deriving DecidableEq, Repr

/-- The kinds of rod record (R54). -/
inductive RodKind where
  | rod | bha
  deriving DecidableEq, Repr

/-- Where the record in the handler hold came from (R57). -/
inductive Source where
  | rack | string
  deriving DecidableEq, Repr

/-- The handler commands of section 4.4. -/
inductive HandlerCode where
  | breakHead | makeHead | pick | makeRod | breakRod | lay
  deriving DecidableEq, Repr

/-- The rig activities of section 5.1. -/
inductive Activity where
  | idle | drilling | reaming | circulating | tripping | connection | shutDown
  deriving DecidableEq, Repr

/-- The states of a record bank (R114). -/
inductive BankState where
  | free | filling | full
  deriving DecidableEq, Repr

/-- The job states of section 8.1: NONE, OPEN, SUSPENDED, CLOSING, CLOSED. -/
inductive JobState where
  | noJob | opened | suspended | closing | closed
  deriving DecidableEq, Repr

/-- The notice kinds of section 10.6, urgent kinds first. -/
inductive NoticeKind where
  | pressureTrip | loss | gain | interlockRefused | banksExhausted | inputLost | tallyMismatch
  | circulationState | pumpNotFollowing | pumpCountJump | bankReady | bankFillMark | ticketReady
  | ticketDeferred | activity | handlerFailed | handlerTimeout | wake | startComplete | depthJump
  deriving DecidableEq, Repr

/-- The refusal reasons of section 12.1. -/
inductive Reason where
  | slipsOpen | rotating | pumpsOn | pressureHigh | pressureUnknown | wrongState | slotEmpty
  | slotFull | stringFull | noRodOnTop | handlerBusy | tripped | stringOpen
  deriving DecidableEq, Repr

/-- The reply codes of section 11.1. -/
inductive ReplyCode where
  | done | doneClamped | refusedState | refusedValue | refusedUnknown
  deriving DecidableEq, Repr

/-- The causes of a wake (R172). -/
inductive WakeCause where
  | rotation | strokes | request
  deriving DecidableEq, Repr

/-- A site time with its TIME_UNSET mark (R170). -/
structure Stamp where
  time : BitVec 32
  unset : Bool
  deriving DecidableEq, Repr

/-- The ten interval flags, bit k being the flag of bit k in section 12.3. -/
abbrev FlagSet := BitVec 10

/-- Table 1, Settings (section 11.3). -/
structure Settings where
  trunk : Nat
  startMode : Mode
  period : Nat
  window : Nat
  settle : Nat
  step : Nat
  fillMark : Nat
  ticketBit : Nat
  flowback : Nat
  noiseFloor : Nat
  deriving DecidableEq, Repr

/-- A row of table 2, the Channel Map (section 1.2). `kind` is the code of the frame kind, 1 SAMPLE or
2 STATUS, and 0 in a default row. -/
structure ChannelRow where
  enabled : Bool
  node : Nat
  kind : Nat
  channel : Nat
  gain : Int
  offset : Int
  low : Int
  high : Int
  depth : Nat
  stale : Nat
  mandatory : Bool
  aux : Nat
  deriving DecidableEq, Repr

/-- A row of table 3, the Pump Table (section 3.1). -/
structure PumpRow where
  node : Nat
  displacement : Nat
  efficiency : Nat
  maxRate : Nat
  rampRate : Nat
  plausibility : Nat
  deriving DecidableEq, Repr

/-- Table 4, Interlock Limits (section 3.1). -/
structure Limits where
  trip : Nat
  hysteresis : Nat
  warn : Nat
  bleed : Nat
  stop : Nat
  wob : Nat
  distance : Nat
  handler : Nat
  timeout : Nat
  deriving DecidableEq, Repr

/-- A row of table 5, Circulation Thresholds (section 2.6). -/
structure Thresholds where
  lossWatch : Nat
  lossLevel : Nat
  gainWatch : Nat
  gainLevel : Nat
  ratio : Nat
  deriving DecidableEq, Repr

/-- A row of table 6, the Strata Class Table (section 6.4). -/
structure ClassRow where
  enabled : Bool
  code : Nat
  piLow : Nat
  piHigh : Nat
  trLow : Nat
  trHigh : Nat
  mask : FlagSet
  value : FlagSet
  deriving DecidableEq, Repr

/-- A row of table 7, the Tariff Table (section 8.3). -/
inductive Tariff where
  | empty
  | activity (code rate : Nat)
  | band (fromM toM rate : Nat)
  | surcharge (cls percent : Nat)
  | mudLost (rate : Nat)
  | product (code rate : Nat)
  deriving DecidableEq, Repr

/-- The loadable tables 1 to 7, the TABLES area (R166). -/
structure Tables where
  settings : Settings
  channels : Vector ChannelRow 13
  pumps : Vector PumpRow 2
  limits : Limits
  thresholds : Vector Thresholds 16
  classes : Vector ClassRow 16
  tariff : Vector Tariff 24
  deriving DecidableEq, Repr

/-- The state of one logical input (sections 1.3, 1.5). Timers are deadlines on the millisecond
timer; a stopped timer is none. -/
structure Input where
  state : Freshness
  staleDue : Option Nat
  acceptedAt : Option Nat
  refused : Nat
  lastRaw : Option Int
  lastConditioned : Option Int
  clamped : Bool
  ring : List Int
  smoothed : Option Int
  lastCount : Option Nat
  runningDue : Option Nat
  historyDropped : Bool
  deriving DecidableEq, Repr

/-- A period record of the balance window (R24). Its ΔV is `vin - vout` (R23). -/
structure PeriodRecord where
  vin : Nat
  vout : Int
  held : Bool
  pitDerived : Bool
  deriving DecidableEq, Repr

/-- The Circulation Monitor (section 2.1). -/
structure Circulation where
  window : List PeriodRecord
  carryIn : Nat
  carryOut : Nat
  sumR : Int
  sumIn : Int
  sumOut : Int
  state : CircState
  flowing : Nat
  held : Nat
  pumpsOffAt : Option Nat
  heldMean : Option Nat
  strokes1 : Nat
  strokes2 : Nat
  flowSum : Int
  flowCount : Nat
  periodHeld : Bool
  pits : Vector (Option Int) 4
  periodDue : Option Nat
  deriving DecidableEq, Repr

/-- The state of one pump (section 3.2). -/
structure Pump where
  requested : Nat
  commanded : Nat
  control : Control
  notFollowing : Nat
  saturated : Bool
  nodeRate : Option Nat
  measured : Option Nat
  deriving DecidableEq, Repr

/-- Pump Control (section 3.2). -/
structure PumpControl where
  pumps : Vector Pump 2
  tripLatch : Bool
  tripPressure : Option Int
  badSetpoints : Nat
  deriving DecidableEq, Repr

/-- A rod record (R54). -/
structure Rod where
  serial : Nat
  kind : RodKind
  length : Nat
  seconds : Nat
  runs : Nat
  deriving DecidableEq, Repr

/-- The pending handler command (R60): `slot` for PICK and LAY only; `timeout` is the handler timeout
in seconds with which the timer was started. -/
structure PendingCommand where
  code : HandlerCode
  slot : Option Nat
  recordedAt : Nat
  timeout : Nat
  due : Nat
  deriving DecidableEq, Repr

/-- The String Tracker (chapter 4). The stack's first entry is its bottom entry, index 0 (R56). -/
structure Tracker where
  rack : Vector (Option Rod) 64
  stack : List Rod
  hold : Option (Rod × Source)
  conn : Conn
  tallyUncertain : Bool
  command : Option PendingCommand
  frameErrors : Nat
  deriving DecidableEq, Repr

/-- The Depth and Activity Unit (section 5.1). -/
structure Depth where
  head : Int
  residue : Int
  lastCount : Int
  corr : Int
  hole : Int
  freeHookload : Int
  encoderUncertain : Bool
  anchorUncertain : Bool
  stringLength : Int
  freeze : Option Int
  awaitSlips : Bool
  firstReport : Bool
  periodHead : Option Int
  lastMovement : Option Int
  indicated : Activity
  taken : Activity
  settleDue : Option Nat
  deriving DecidableEq, Repr

/-- The open interval record (section 6.2). TIME_UNSET of its open site time is its flag. -/
structure Interval where
  number : Nat
  top : Int
  target : Int
  seconds : Nat
  wobSum : Int
  torqueSum : Int
  rpmSum : Int
  pressureSum : Int
  loss : Nat
  gain : Nat
  flags : FlagSet
  openTime : BitVec 32
  deriving DecidableEq, Repr

/-- The values a close computes from drilling seconds above 0 (R103). -/
structure Means where
  wob : Int
  torque : Int
  rpm : Int
  pressure : Int
  rop : Nat
  pi : Nat
  tr : Nat
  deriving DecidableEq, Repr

/-- A closed record (R103): the open record with its final flags, and what the close adds. -/
structure ClosedRecord where
  interval : Interval
  bottom : Int
  means : Option Means
  cls : Fin 16
  closeTime : BitVec 32
  deriving DecidableEq, Repr

/-- The Strata Recorder (section 6.1): NO_INTERVAL is `interval = none`. -/
structure Recorder where
  interval : Option Interval
  currentClass : Fin 16
  extending : Bool
  overdue : Bool
  closingMark : Bool
  closedCount : Nat
  deriving DecidableEq, Repr

/-- A record bank (section 7.1). Its count is the number of its records. -/
structure Bank where
  state : BankState
  records : List ClosedRecord
  fillMarked : Bool
  deriving DecidableEq, Repr

/-- The job record (section 8.1). `lastTicketTo` is the to site time of the newest ticket of the job,
which the next ticket takes as its from site time (R147). -/
structure Job where
  number : Nat
  customer : Nat
  state : JobState
  opened : Stamp
  startDepth : Int
  billedMark : Int
  metered : Nat
  closingInterval : Bool
  ticketCounter : Nat
  billedTotal : Nat
  lastTicketTo : Stamp
  deriving DecidableEq, Repr

/-- The unbilled accumulators of section 8.4. -/
structure Accumulators where
  seconds : Vector Nat 7
  carries : Vector Nat 7
  bands : Vector Nat 8
  unbanded : Nat
  footageCharge : Nat
  lostMud : Nat
  mudCarry : Nat
  products : Nat
  additions : Nat
  deriving DecidableEq, Repr

/-- A ticket (section 9.1). A stored ticket never changes (R142), so it holds the number of bands the
Tariff Table had at its issue; bands beyond that number hold 0. -/
structure Ticket where
  jobNumber : Nat
  number : Nat
  final : Bool
  fromTime : BitVec 32
  toTime : BitVec 32
  timeUnset : Bool
  seconds : Vector Nat 7
  charges : Vector Nat 7
  bandCount : Nat
  bands : Vector Nat 8
  unbanded : Nat
  footageCharge : Nat
  lostMud : Nat
  mudCharge : Nat
  products : Nat
  additions : Nat
  total : Nat
  runningTotal : Nat
  deriving DecidableEq, Repr

/-- The Billing Meter (chapters 8 and 9). `cadencePending` is the model's own mark of a trigger that
has fired and whose ticket has not been made due (log 6). -/
structure Billing where
  job : Job
  acc : Accumulators
  deferred : Bool
  tickets : List Ticket
  cadencePending : Bool
  deriving DecidableEq, Repr

/-- A waiting notice (R161), with the source address it was built with (R157). -/
structure Notice where
  kind : NoticeKind
  subject : Nat
  value : Int
  stamp : Stamp
  src : Addr
  deriving DecidableEq, Repr

/-- An entry of the field setpoint queue (R158), with the source address it was built with (R157). -/
structure SetpointEntry where
  node : Nat
  rate : Nat
  src : Addr
  deriving DecidableEq, Repr

/-- The four sources of the cab transmitter (R163). -/
inductive CabSource where
  | reply | urgent | forward | general
  deriving DecidableEq, Repr

/-- A frame being sent at the cab port, with the source it was taken from (R163). -/
structure CabSend where
  source : CabSource
  frame : Frame
  deriving DecidableEq, Repr

/-- The Trunk Ports (chapter 10). A transmitter that sends nothing is idle. -/
structure Trunk where
  cabFifo : List Frame
  fieldFifo : List Frame
  setpoints : List SetpointEntry
  replySlot : Option Frame
  urgent : List Notice
  general : List Notice
  overflow : Bool
  fieldErrors : Nat
  cabErrors : Nat
  dropsToCab : Nat
  dropsToField : Nat
  fieldSeq : Byte
  noticeSeq : Byte
  cabSending : Option CabSend
  fieldSending : Option Frame
  deriving DecidableEq, Repr

/-- Management (chapter 11) and the two time sources (section 6.4). -/
structure Management where
  mode : Mode
  remembered : Option Mode
  siteTime : BitVec 32
  timeUnset : Bool
  cause : ResetCause
  lost : FailedAreas
  checksDone : Bool
  holdDue : Option Nat
  holdExpired : Bool
  restartDue : Bool
  clock : Nat
  secondDue : Nat
  deriving DecidableEq, Repr

end Sys2Proof.Machine
end

