-- ==== Sys2Proof/Machine/Flags.lean ====
section
/-! DEFINITION. The interval flags as a set, and the codes by which states, modes, kinds, causes and
reasons travel (chapter 12 and the chapters that own them). -/

namespace Sys2Proof.Machine

/-- The interval flags, at their bits of section 12.3. -/
def flagLossSeen : FlagSet := 0x001#10
def flagGainSeen : FlagSet := 0x002#10
def flagFlowingSeen : FlagSet := 0x004#10
def flagHeldInputs : FlagSet := 0x008#10
def flagDepthUncertain : FlagSet := 0x010#10
def flagCorrected : FlagSet := 0x020#10
def flagExtended : FlagSet := 0x040#10
def flagPartial : FlagSet := 0x080#10
def flagNoData : FlagSet := 0x100#10
def flagTimeUnset : FlagSet := 0x200#10

/-- The given flag when the condition holds, and no flag otherwise. -/
def flagIf (c : Bool) (f : FlagSet) : FlagSet := if c then f else 0

/-- A set that holds the given flag. -/
def hasFlag (s f : FlagSet) : Bool := s &&& f == f

/-- Section 11.6. -/
def Mode.code : Mode → Nat
  | .starting => 0 | .monitor => 1 | .supervised => 2 | .standby => 3

/-- The mode of a code of section 11.6. -/
def Mode.ofCode : Nat → Option Mode
  | 0 => some .starting | 1 => some .monitor | 2 => some .supervised | 3 => some .standby
  | _ => none

/-- R174. -/
def ResetCause.code : ResetCause → Nat
  | .powerOn => 1 | .supplyDip => 2 | .restart => 3

/-- Section 2.5. -/
def CircState.code : CircState → Nat
  | .pumpsOff => 0 | .filling => 1 | .normal => 2 | .lossWatch => 3 | .loss => 4
  | .totalLoss => 5 | .gainWatch => 6 | .gain => 7 | .flowing => 8 | .blind => 9

/-- Section 3.2. -/
def Control.code : Control → Nat
  | .stopped => 0 | .ramping => 1 | .rampHeld => 2 | .steady => 3 | .forcedOff => 4

/-- Section 4.3. -/
def Conn.code : Conn → Nat
  | .headOn => 0 | .headOffEmpty => 1 | .headOffHolding => 2

/-- Section 4.4. -/
def HandlerCode.code : HandlerCode → Nat
  | .breakHead => 1 | .makeHead => 2 | .pick => 3 | .makeRod => 4 | .breakRod => 5 | .lay => 6

/-- The handler command of a code, none outside 1 to 6 (R59). -/
def HandlerCode.ofCode : Nat → Option HandlerCode
  | 1 => some .breakHead | 2 => some .makeHead | 3 => some .pick
  | 4 => some .makeRod | 5 => some .breakRod | 6 => some .lay
  | _ => none

/-- PICK and LAY carry a slot (R59). -/
def HandlerCode.hasSlot : HandlerCode → Bool
  | .pick | .lay => true
  | _ => false

/-- Section 5.1. -/
def Activity.code : Activity → Fin 7
  | .idle => 0 | .drilling => 1 | .reaming => 2 | .circulating => 3 | .tripping => 4
  | .connection => 5 | .shutDown => 6

/-- Section 7.1. -/
def BankState.code : BankState → Nat
  | .free => 0 | .filling => 1 | .full => 2

/-- Section 8.1. -/
def JobState.code : JobState → Nat
  | .noJob => 0 | .opened => 1 | .suspended => 2 | .closing => 3 | .closed => 4

/-- Section 12.1. -/
def NoticeKind.code : NoticeKind → Nat
  | .pressureTrip => 1 | .loss => 2 | .gain => 3 | .interlockRefused => 4 | .banksExhausted => 5
  | .inputLost => 6 | .tallyMismatch => 7 | .circulationState => 16 | .pumpNotFollowing => 17
  | .pumpCountJump => 18 | .bankReady => 19 | .bankFillMark => 20 | .ticketReady => 21
  | .ticketDeferred => 22 | .activity => 23 | .handlerFailed => 24 | .handlerTimeout => 25
  | .wake => 26 | .startComplete => 27 | .depthJump => 28

/-- The queue a kind belongs to (section 10.6). -/
def NoticeKind.isUrgent : NoticeKind → Bool
  | .pressureTrip | .loss | .gain | .interlockRefused | .banksExhausted | .inputLost
  | .tallyMismatch => true
  | _ => false

/-- Section 12.1. -/
def Reason.code : Reason → Nat
  | .slipsOpen => 1 | .rotating => 2 | .pumpsOn => 3 | .pressureHigh => 4 | .pressureUnknown => 5
  | .wrongState => 6 | .slotEmpty => 7 | .slotFull => 8 | .stringFull => 9 | .noRodOnTop => 10
  | .handlerBusy => 11 | .tripped => 12 | .stringOpen => 13

/-- Section 11.1. -/
def ReplyCode.code : ReplyCode → Byte
  | .done => 0 | .doneClamped => 1 | .refusedState => 2 | .refusedValue => 3 | .refusedUnknown => 4

/-- R172. -/
def WakeCause.code : WakeCause → Nat
  | .rotation => 1 | .strokes => 2 | .request => 3

/-- The sum of the codes of the lost areas: TABLES 1, STRING 2, DEPTH 4, JOB 8 (R173). -/
def lostCode (f : FailedAreas) : Nat :=
  f.tables.toNat + 2 * f.string.toNat + 4 * f.depth.toNat + 8 * f.job.toNat

/-- The chapter gives these states no code: the reply carries a free value (log 11). -/
def Freshness.freeCode : Freshness → Nat
  | .never => (Config.inputStateCode 0).val
  | .fresh => (Config.inputStateCode 1).val
  | .stale => (Config.inputStateCode 2).val
def RodKind.freeCode : RodKind → Nat
  | .rod => (Config.rodKindCode 0).val
  | .bha => (Config.rodKindCode 1).val
def Source.freeCode : Source → Nat
  | .rack => (Config.holdSourceCode 0).val
  | .string => (Config.holdSourceCode 1).val

end Sys2Proof.Machine
end

