-- ==== Sys2Proof/Machine/Operands.lean ====
section
/-! DEFINITION. How numbers are brought into range, how a reply's fields are laid out in parts (R177),
and how stored table rows are sent (section 12.4). -/

namespace Sys2Proof.Machine

/-- Clamped to [lo, hi] (section 6.3). -/
def clampN (lo hi x : Nat) : Nat := max lo (min x hi)
def clampZ (lo hi x : Int) : Int := max lo (min x hi)

/-- A count that stays at `top` once it has reached it (section 6.3). -/
def satAdd (top a b : Nat) : Nat := min top (a + b)

/-- A signed number of the wire (chapter 12). -/
def bvInt {w : Nat} (b : BitVec w) : Int := signedOf w b.toNat

/-- A yes/no field: 0 is no, any other value yes (R176). -/
def yesNo (b : Byte) : Bool := b != 0

/-- A number fits a field of `w` bytes. -/
def fitsField (w : Nat) (signed : Bool) (v : Int) : Bool :=
  if signed then decide (-(2 : Int) ^ (8 * w - 1) ≤ v ∧ v < (2 : Int) ^ (8 * w - 1))
  else decide (0 ≤ v ∧ v < (2 : Int) ^ (8 * w))

/-- A number in `w` bytes, two's complement when signed (chapter 12). Of a number that does not fit
the manual does not say what is sent: a free value (log 10). -/
def sendNumber (w : Nat) (signed : Bool) (v : Int) : List Byte :=
  if fitsField w signed v then bytesOfNat w (v % (2 : Int) ^ (8 * w)).toNat
  else bytesOfNat w (Config.unheldField w v)

/-- A field of a reply (R177): its width, whether it is signed, its value if present, and whether it is
one that may be absent. -/
structure Field where
  width : Nat
  signed : Bool
  value : Option Int
  optional : Bool
  deriving DecidableEq, Repr

/-- Fields that are always present. -/
def fN (w : Nat) (v : Nat) : Field := ⟨w, false, some (v : Int), false⟩
def fZ (w : Nat) (v : Int) : Field := ⟨w, true, some v, false⟩
def fB (b : Bool) : Field := ⟨1, false, some (b.toNat : Int), false⟩
/-- Fields that may be absent. -/
def oN (w : Nat) (v : Option Nat) : Field := ⟨w, false, v.map (fun n => (n : Int)), true⟩
def oZ (w : Nat) (v : Option Int) : Field := ⟨w, true, v, true⟩

/-- A field's bytes; an absent field is sent as zero bytes at its width (R177). -/
def Field.bytes (f : Field) : List Byte :=
  match f.value with
  | some v => sendNumber f.width f.signed v
  | none => List.replicate f.width 0

/-- The fields in parts: a new part begins at the field that would take the payload past 48 bytes
(R177). `used` is the number of bytes the current part already holds. -/
def splitFrom (used : Nat) : List Field → List (List Field)
  | [] => [[]]
  | f :: rest =>
    if used + f.width ≤ Config.partBytes then
      match splitFrom (used + f.width) rest with
      | [] => [[f]]
      | p :: ps => (f :: p) :: ps
    else
      match splitFrom f.width rest with
      | [] => [[], [f]]
      | p :: ps => [] :: (f :: p) :: ps

/-- The parts of a reply's data (R177). -/
def parts (fs : List Field) : List (List Field) := splitFrom 0 fs

/-- The presence mask of a part: bit k stands for the k-th field that may be absent (R177, log 14). -/
def presenceMask (fs : List Field) : Nat :=
  ((fs.filter (·.optional)).mapIdx (fun k f => if f.value.isSome then 2 ^ k else 0)).sum

/-- A reply: its code and, on DONE and DONE_CLAMPED, its data (section 11.1). -/
structure Reply where
  code : ReplyCode
  data : List Byte
  deriving DecidableEq, Repr

/-- A reply that carries its code alone. -/
def Reply.plain (c : ReplyCode) : Reply := ⟨c, []⟩

/-- The data of one part after the reply code: part, number of parts, presence mask, fields (R177). -/
def partData (part count : Nat) (fs : List Field) : List Byte :=
  bytesOfNat 1 part ++ bytesOfNat 1 count ++ bytesOfNat 2 (presenceMask fs) ++
    fs.flatMap Field.bytes

/-- The DONE reply that carries the part named, or REFUSED_VALUE when there is no such part (R177). -/
def replyPart (fs : List Field) (part : Nat) : Reply :=
  match (parts fs)[part]? with
  | some p => ⟨.done, partData part (parts fs).length p⟩
  | none => .plain .refusedValue

/-- A DONE reply of one part without a part argument (R177). -/
def replyWhole (fs : List Field) : Reply := ⟨.done, partData 0 1 fs⟩

/-- The answer DONE, or DONE_CLAMPED when a loaded field was changed. -/
def loadCode (changed : Bool) : ReplyCode := if changed then .doneClamped else .done

/-- Row forms as READ ROW sends them, every number at its width (section 12.4). -/
def formBytes (fs : List Field) : List Byte := fs.flatMap Field.bytes

def Settings.form (r : Settings) : List Byte := formBytes
  [fN 1 r.trunk, fN 1 r.startMode.code, fN 1 r.period, fN 1 r.window, fN 1 r.settle, fN 2 r.step,
   fN 1 r.fillMark, fN 1 r.ticketBit, fN 1 r.flowback, fN 2 r.noiseFloor]

def ChannelRow.form (r : ChannelRow) : List Byte := formBytes
  [fB r.enabled, fN 1 r.node, fN 1 r.kind, fN 1 r.channel, fZ 2 r.gain, fZ 4 r.offset, fZ 4 r.low,
   fZ 4 r.high, fN 1 r.depth, fN 2 r.stale, fB r.mandatory, fN 4 r.aux]

def PumpRow.form (r : PumpRow) : List Byte := formBytes
  [fN 1 r.node, fN 2 r.displacement, fN 1 r.efficiency, fN 1 r.maxRate, fN 1 r.rampRate,
   fN 1 r.plausibility]

def Limits.form (r : Limits) : List Byte := formBytes
  [fN 2 r.trip, fN 2 r.hysteresis, fN 2 r.warn, fN 2 r.bleed, fN 1 r.stop, fN 2 r.wob,
   fN 2 r.distance, fN 1 r.handler, fN 2 r.timeout]

def Thresholds.form (r : Thresholds) : List Byte := formBytes
  [fN 4 r.lossWatch, fN 4 r.lossLevel, fN 4 r.gainWatch, fN 4 r.gainLevel, fN 1 r.ratio]

def ClassRow.form (r : ClassRow) : List Byte := formBytes
  [fB r.enabled, fN 1 r.code, fN 2 r.piLow, fN 2 r.piHigh, fN 2 r.trLow, fN 2 r.trHigh,
   fN 2 r.mask.toNat, fN 2 r.value.toNat]

/-- A Tariff row's kind, key, band to and rate; what a kind does not use is 0 (R132). -/
def Tariff.form (r : Tariff) : List Byte :=
  let fields (kind key upTo rate : Nat) := formBytes [fN 1 kind, fN 2 key, fN 2 upTo, fN 4 rate]
  match r with
  | .empty => fields 0 0 0 0
  | .activity a rate => fields 1 a 0 rate
  | .band f t rate => fields 2 f t rate
  | .surcharge c pct => fields 3 c 0 pct
  | .mudLost rate => fields 4 0 0 rate
  | .product p rate => fields 5 p 0 rate

/-- Table 8, Identity (R168). -/
def identityForm : List Byte := formBytes
  [fN 1 Config.vendorCode, fN 2 Config.partCode, fN 1 Config.revision, fN 3 Config.serial]

end Sys2Proof.Machine
end

