-- ==== Sys2Proof/Machine/Defaults.lean ====
section
/-! DEFINITION. The default of every table and of every retained area, and the volatile state of every
block after a reset, as the manual gives them. -/

namespace Sys2Proof.Machine

/-- Table 1 by default (section 11.3). -/
def Settings.default : Settings where
  trunk := 60
  startMode := .monitor
  period := 5
  window := 8
  settle := 5
  step := 500
  fillMark := 0
  ticketBit := 12
  flowback := 30
  noiseFloor := 50

/-- A row of table 2 by default: disabled, zeros, smoothing depth 1 and stale time 1000 ms (section 1.2). -/
def ChannelRow.default : ChannelRow where
  enabled := false
  node := 0
  kind := 0
  channel := 0
  gain := 0
  offset := 0
  low := 0
  high := 0
  depth := 1
  stale := 1000
  mandatory := false
  aux := 0

/-- A row of table 3 by default (section 3.1). -/
def PumpRow.default : PumpRow where
  node := 0
  displacement := 5000
  efficiency := 95
  maxRate := 60
  rampRate := 5
  plausibility := 20

/-- Table 4 by default (section 3.1). -/
def Limits.default : Limits where
  trip := 7000
  hysteresis := 1000
  warn := 6000
  bleed := 100
  stop := 2
  wob := 20
  distance := 100
  handler := 0
  timeout := 60

/-- A row of table 5 by default (section 2.6). -/
def Thresholds.default : Thresholds where
  lossWatch := 20000
  lossLevel := 60000
  gainWatch := 20000
  gainLevel := 60000
  ratio := 10

/-- A row of table 6 by default (section 6.4). -/
def ClassRow.default : ClassRow where
  enabled := false
  code := 0
  piLow := 0
  piHigh := 0
  trLow := 0
  trHigh := 0
  mask := 0
  value := 0

/-- The TABLES area by default (R169). -/
def Tables.default : Tables where
  settings := .default
  channels := Vector.replicate 13 .default
  pumps := Vector.replicate 2 .default
  limits := .default
  thresholds := Vector.replicate 16 .default
  classes := Vector.replicate 16 .default
  tariff := Vector.replicate 24 .empty

/-- A logical input after any reset (R15). -/
def Input.afterReset : Input where
  state := .never
  staleDue := none
  acceptedAt := none
  refused := 0
  lastRaw := none
  lastConditioned := none
  clamped := false
  ring := []
  smoothed := none
  lastCount := none
  runningDue := none
  historyDropped := false

/-- The load state of an input (R5): as after a reset, but with the history of HEAD_POS dropped (R13). The
last conditioned value, which R5 does not name, is absent with the raw and the smoothed one (log 39). -/
def Input.afterLoad : Input := { Input.afterReset with historyDropped := true }

/-- The Circulation Monitor after any reset (R17). -/
def Circulation.afterReset : Circulation where
  window := []
  carryIn := 0
  carryOut := 0
  sumR := 0
  sumIn := 0
  sumOut := 0
  state := .pumpsOff
  flowing := 0
  held := 0
  pumpsOffAt := none
  heldMean := none
  strokes1 := 0
  strokes2 := 0
  flowSum := 0
  flowCount := 0
  periodHeld := false
  pits := Vector.replicate 4 none
  periodDue := none

/-- A pump after any reset (R40). -/
def Pump.afterReset : Pump where
  requested := 0
  commanded := 0
  control := .stopped
  notFollowing := 0
  saturated := false
  nodeRate := none
  measured := none

/-- Pump Control after any reset (R40). -/
def PumpControl.afterReset : PumpControl where
  pumps := Vector.replicate 2 .afterReset
  tripLatch := false
  tripPressure := none
  badSetpoints := 0

/-- The STRING area by default, with the tracker's volatile items as after a reset (R78). -/
def Tracker.default : Tracker where
  rack := Vector.replicate 64 none
  stack := []
  hold := none
  conn := .headOn
  tallyUncertain := false
  command := none
  frameErrors := 0

/-- The string length L: the sum of the lengths of the stack's entries (R56). -/
def Tracker.length (t : Tracker) : Int := ((t.stack.map Rod.length).sum : Nat)

/-- The tracker after any reset: its retained items stand (R78). -/
def Tracker.afterReset (t : Tracker) : Tracker := { t with command := none, frameErrors := 0 }

/-- The DEPTH area by default (R96), with the unit's volatile items as after a reset (R79). -/
def Depth.default : Depth where
  head := 0
  residue := 0
  lastCount := 0
  corr := 0
  hole := 0
  freeHookload := 0
  encoderUncertain := true
  anchorUncertain := false
  stringLength := 0
  freeze := none
  awaitSlips := true
  firstReport := true
  periodHead := none
  lastMovement := none
  indicated := .idle
  taken := .idle
  settleDue := none

/-- The unit after any reset: its retained items stand, the volatile ones take the values of R79, and
L is the length of the retained string. -/
def Depth.afterReset (d : Depth) (length : Int) : Depth :=
  { Depth.default with
    head := d.head, residue := d.residue, lastCount := d.lastCount, corr := d.corr, hole := d.hole,
    freeHookload := d.freeHookload, encoderUncertain := d.encoderUncertain,
    anchorUncertain := d.anchorUncertain, stringLength := length }

/-- The recorder when the JOB area holds its defaults (R97). -/
def Recorder.default : Recorder where
  interval := none
  currentClass := 15
  extending := false
  overdue := false
  closingMark := false
  closedCount := 0

/-- A bank that is FREE (R114, R115). -/
def Bank.free : Bank where
  state := .free
  records := []
  fillMarked := false

/-- The job record of state NONE (R126). Its two site times carry TIME_UNSET, which the rule does not
settle (log 23). -/
def Job.default : Job where
  number := 0
  customer := 0
  state := .noJob
  opened := ⟨0, true⟩
  startDepth := 0
  billedMark := 0
  metered := 0
  closingInterval := false
  ticketCounter := 0
  billedTotal := 0
  lastTicketTo := ⟨0, true⟩

/-- The accumulators and carries at 0 (R135). -/
def Accumulators.zero : Accumulators where
  seconds := Vector.replicate 7 0
  carries := Vector.replicate 7 0
  bands := Vector.replicate 8 0
  unbanded := 0
  footageCharge := 0
  lostMud := 0
  mudCarry := 0
  products := 0
  additions := 0

/-- The Billing Meter when the JOB area holds its defaults (R126). -/
def Billing.default : Billing where
  job := .default
  acc := .zero
  deferred := false
  tickets := []
  cadencePending := false

/-- The trunk ports after any reset (R164). -/
def Trunk.afterReset : Trunk where
  cabFifo := []
  fieldFifo := []
  setpoints := []
  replySlot := none
  urgent := []
  general := []
  overflow := false
  fieldErrors := 0
  cabErrors := 0
  dropsToCab := 0
  dropsToField := 0
  fieldSeq := 0
  noticeSeq := 0
  cabSending := none
  fieldSending := none

/-- No area lost (R174). -/
def noneLost : FailedAreas := ⟨false, false, false, false⟩

/-- Management after a reset of the given cause (R174); the start hold timer starts at the reset (R173). -/
def Management.afterReset (cause : ResetCause) : Management where
  mode := .starting
  remembered := none
  siteTime := 0
  timeUnset := true
  cause := cause
  lost := noneLost
  checksDone := false
  holdDue := some Config.startHold
  holdExpired := false
  restartDue := false
  clock := 0
  secondDue := 1000

end Sys2Proof.Machine
end

