-- ==== Sys2Proof/Machine/State.lean ====
section
/-! DEFINITION. The state of the part, one field for each block, and the state after a reset. -/

namespace Sys2Proof.Machine

/-- The whole part: each block's state, and the queue of the commands that wait, first in, first out. -/
structure State where
  /-- TABLES area (R166). -/
  tables : Tables
  /-- The thirteen logical inputs of the Channel Conditioner (R9). -/
  inputs : Vector Input 13
  /-- The Circulation Monitor (R17). -/
  circ : Circulation
  /-- Pump Control (R40). -/
  pumpCtl : PumpControl
  /-- The String Tracker; its first five items are the STRING area (R78). -/
  tracker : Tracker
  /-- The Depth and Activity Unit; its first eight items are the DEPTH area (R79). -/
  depth : Depth
  /-- The Strata Recorder, in the JOB area (R97). -/
  recorder : Recorder
  /-- Bank A (0) and bank B (1), in the JOB area (R115). -/
  banks : Vector Bank 2
  /-- The Billing Meter, in the JOB area (R126). -/
  billing : Billing
  /-- The Trunk Ports (R164). -/
  trunk : Trunk
  /-- Management and the timebase (R174). -/
  mgmt : Management
  /-- The commands that wait. -/
  pending : List Instr
  deriving DecidableEq, Repr

/-- Why the part stops. The manual gives every event an effect after which the part goes on, so there
is no such reason: safe, nobody raises it. -/
inductive Fault where
  deriving DecidableEq, Repr

/-- Why a command has no outcome in the model. -/
inductive Refusal where
  /-- Raised by an arm of `exec` for a command without a meaning; no arm is left so. Safe: the run stops. -/
  | notModelled (mnemonic : String)
  deriving DecidableEq, Repr

/-- The state right after a reset of the given cause of a part whose retained areas stand as in `s`
(R174): every block takes the values its chapter gives, and the waiting commands go on waiting. -/
def State.afterReset (cause : ResetCause) (s : State) : State where
  tables := s.tables
  inputs := Vector.replicate 13 .afterReset
  circ := .afterReset
  pumpCtl := .afterReset
  tracker := s.tracker.afterReset
  depth := s.depth.afterReset s.tracker.length
  recorder := s.recorder
  banks := s.banks
  billing := s.billing
  trunk := .afterReset
  mgmt := .afterReset cause
  pending := s.pending

/-- The part right after POWER_ON with every retained area at its default (log 9). -/
def State.reset : State where
  tables := .default
  inputs := Vector.replicate 13 .afterReset
  circ := .afterReset
  pumpCtl := .afterReset
  tracker := .default
  depth := .default
  recorder := .default
  banks := Vector.replicate 2 .free
  billing := .default
  trunk := .afterReset
  mgmt := .afterReset .powerOn
  pending := []

end Sys2Proof.Machine
end

