-- ==== Sys2Proof/Machine/Ops.lean ====
section
/-! DEFINITION. The named operations the blocks share: updates of one block, what other blocks read of
the inputs, notices and their queues, the FIFOs, the field setpoint queue, replies, and the choices of
the two transmitters. -/

namespace Sys2Proof.Machine

/-! ### Updates of one block -/

def State.onTables (s : State) (f : Tables → Tables) : State := { s with tables := f s.tables }
def State.onInput (s : State) (i : InputId) (f : Input → Input) : State :=
  { s with inputs := s.inputs.set i (f s.inputs[i]) }
def State.onCirc (s : State) (f : Circulation → Circulation) : State := { s with circ := f s.circ }
def State.onPumpCtl (s : State) (f : PumpControl → PumpControl) : State :=
  { s with pumpCtl := f s.pumpCtl }
def State.onPump (s : State) (p : PumpId) (f : Pump → Pump) : State :=
  s.onPumpCtl fun c => { c with pumps := c.pumps.set p (f c.pumps[p]) }
def State.onTracker (s : State) (f : Tracker → Tracker) : State := { s with tracker := f s.tracker }
def State.onDepth (s : State) (f : Depth → Depth) : State := { s with depth := f s.depth }
def State.onRecorder (s : State) (f : Recorder → Recorder) : State :=
  { s with recorder := f s.recorder }
def State.onBank (s : State) (b : Fin 2) (f : Bank → Bank) : State :=
  { s with banks := s.banks.set b (f s.banks[b]) }
def State.onBilling (s : State) (f : Billing → Billing) : State := { s with billing := f s.billing }
def State.onJob (s : State) (f : Job → Job) : State :=
  s.onBilling fun b => { b with job := f b.job }
def State.onTrunk (s : State) (f : Trunk → Trunk) : State := { s with trunk := f s.trunk }
def State.onMgmt (s : State) (f : Management → Management) : State := { s with mgmt := f s.mgmt }

/-! ### What blocks read of one another -/

def State.mode (s : State) : Mode := s.mgmt.mode
def State.settings (s : State) : Settings := s.tables.settings
def State.limits (s : State) : Limits := s.tables.limits
def State.pump (s : State) (p : PumpId) : Pump := s.pumpCtl.pumps[p]
def State.pumpRow (s : State) (p : PumpId) : PumpRow := s.tables.pumps[p]
def State.input (s : State) (i : InputId) : Input := s.inputs[i]
def State.channel (s : State) (i : InputId) : ChannelRow := s.tables.channels[i]
def State.job (s : State) : Job := s.billing.job

/-- The inputs by name (section 1.1). -/
def inHeadPos : InputId := 0
def inHookload : InputId := 1
def inRotary : InputId := 2
def inTorque : InputId := 3
def inPressure : InputId := 4
def inFlowOut : InputId := 5
def inSlips : InputId := 8

/-- The stroke input of a pump (section 1.1). -/
def strokeInput (p : PumpId) : InputId := ⟨6 + p.val, by omega⟩

/-- The pit input of a pit, 0 to 3 (section 1.1). -/
def pitInput (k : Fin 4) : InputId := ⟨9 + k.val, by omega⟩

/-- An input is FRESH (R9). -/
def State.fresh (s : State) (i : InputId) : Bool := (s.input i).state == .fresh

/-- The smoothed value a block reads, held through STALE; an input without one contributes 0 (R99). -/
def State.smoothedOr0 (s : State) (i : InputId) : Int := ((s.input i).smoothed).getD 0

/-- SLIPS as other blocks read it: 1 when the smoothed value equals 1, and 0 for any other (R8). -/
def State.slipsReadsOne (s : State) : Bool := (s.input inSlips).smoothed == some 1

/-- SLIPS is set: FRESH and reads 1 (R61). -/
def State.slipsSet (s : State) : Bool := s.fresh inSlips && s.slipsReadsOne

/-- ROTARY_SPEED is FRESH with a smoothed value above the rotation stop limit (R91). -/
def State.rotationAbove (s : State) : Bool :=
  s.fresh inRotary &&
    (match (s.input inRotary).smoothed with
     | some v => decide ((s.limits.stop : Int) < v)
     | none => false)

/-- Rotation is stopped: FRESH and at or below the rotation stop limit (R61). -/
def State.rotationStopped (s : State) : Bool :=
  s.fresh inRotary &&
    (match (s.input inRotary).smoothed with
     | some v => decide (v ≤ (s.limits.stop : Int))
     | none => false)

/-- A pump is running while its running timer runs (R14). -/
def State.running (s : State) (p : PumpId) : Bool := (s.input (strokeInput p)).runningDue.isSome
def State.anyRunning (s : State) : Bool := s.running 0 || s.running 1

/-- A pump is used when its row has a pump node (section 3). -/
def State.used (s : State) (p : PumpId) : Bool := (s.pumpRow p).node != 0

/-- The present site time with its mark (R170). -/
def State.now (s : State) : Stamp := ⟨s.mgmt.siteTime, s.mgmt.timeUnset⟩

/-- A node number as an address; nodes are 1 to 62. -/
def addrOf (n : Nat) : Addr := Fin.ofNat 64 n

/-- The part's trunk address (R155). -/
def State.trunkAddr (s : State) : Addr := addrOf s.settings.trunk

/-- Work done for pump 1 and then for pump 2. -/
def eachPump (f : PumpId → State → State) (s : State) : State := f 1 (f 0 s)

/-! ### Notices (R161, R162) -/

/-- A notice that a new general notice coalesces into. -/
def Notice.sameAs (n q : Notice) : Bool := q.kind == n.kind && q.subject == n.subject

/-- An urgent notice joins the tail, or is dropped with the overflow flag set (R161). -/
def Trunk.joinUrgent (t : Trunk) (n : Notice) : Trunk :=
  if t.urgent.length < Config.urgentSize then { t with urgent := t.urgent ++ [n] }
  else { t with overflow := true }

/-- A general notice is coalesced, joins the tail, or is dropped with the overflow flag set (R161). -/
def Trunk.joinGeneral (t : Trunk) (n : Notice) : Trunk :=
  if t.general.any n.sameAs then
    { t with general := t.general.map fun q =>
        if n.sameAs q then { q with value := n.value, stamp := n.stamp } else q }
  else if t.general.length < Config.generalSize then { t with general := t.general ++ [n] }
  else { t with overflow := true }

/-- The notice enters the queue of its kind. -/
def Trunk.join (t : Trunk) (n : Notice) : Trunk :=
  if n.kind.isUrgent then t.joinUrgent n else t.joinGeneral n

/-- The part sends a notice: it takes the site time at which it is raised and the trunk address in
force when it is built (R157, R161). -/
def State.raise (s : State) (kind : NoticeKind) (subject : Nat) (value : Int) : State :=
  s.onTrunk fun t => t.join ⟨kind, subject, value, s.now, s.trunkAddr⟩

/-- The frame of a notice, with the sequence number it takes when it is sent (R157, section 12.1). -/
def Notice.frame (n : Notice) (seq : Byte) : Frame where
  dest := 0
  src := n.src
  kind := .notice
  tag := if n.kind.isUrgent then 1 else 0
  seq := seq
  payload := bytesOfNat 1 n.kind.code ++ bytesOfNat 1 n.subject ++ sendNumber 4 true n.value ++
    bytesOfNat 4 n.stamp.time.toNat ++ bytesOfNat 1 n.stamp.unset.toNat

/-! ### The forward FIFOs (R156) -/

/-- The field forward FIFO has a place. -/
def State.fieldFifoHasRoom (s : State) : Bool :=
  s.trunk.fieldFifo.length < Config.fieldFifoSize

/-- A frame from the field is offered to the forward FIFO toward the cab. -/
def State.offerCab (s : State) (f : Frame) : State :=
  s.onTrunk fun t =>
    if t.cabFifo.length < Config.cabFifoSize then { t with cabFifo := t.cabFifo ++ [f] }
    else { t with dropsToCab := satAdd Config.count16Max t.dropsToCab 1 }

/-- A frame from the cab is offered to the forward FIFO toward the field. -/
def State.offerField (s : State) (f : Frame) : State :=
  s.onTrunk fun t =>
    if t.fieldFifo.length < Config.fieldFifoSize then { t with fieldFifo := t.fieldFifo ++ [f] }
    else { t with dropsToField := satAdd Config.count16Max t.dropsToField 1 }

/-- A frame discarded at the field port is counted (R153). -/
def State.countFieldError (s : State) : State :=
  s.onTrunk fun t => { t with fieldErrors := satAdd Config.count16Max t.fieldErrors 1 }

/-- A frame discarded at the cab port is counted (R153, R155). -/
def State.countCabError (s : State) : State :=
  s.onTrunk fun t => { t with cabErrors := satAdd Config.count16Max t.cabErrors 1 }

/-! ### The field setpoint queue (R158) -/

/-- A setpoint replaces the rate of its node's entry in place, or joins at the tail. -/
def Trunk.queueSetpoint (t : Trunk) (e : SetpointEntry) : Trunk :=
  if t.setpoints.any (·.node == e.node) then
    { t with setpoints := t.setpoints.map fun q =>
        if q.node == e.node then { q with rate := e.rate } else q }
  else { t with setpoints := t.setpoints ++ [e] }

/-- A zero placed at the head first removes any entry for its node. -/
def Trunk.headZero (t : Trunk) (node : Nat) (src : Addr) : Trunk :=
  { t with setpoints := ⟨node, 0, src⟩ :: t.setpoints.filter (·.node != node) }

/-- Any entry for a node is removed. -/
def Trunk.dropSetpoint (t : Trunk) (node : Nat) : Trunk :=
  { t with setpoints := t.setpoints.filter (·.node != node) }

/-- A setpoint for a pump is queued, and its node rate record takes the rate (R41). -/
def State.queueSetpoint (s : State) (p : PumpId) (rate : Nat) : State :=
  (s.onTrunk fun t => t.queueSetpoint ⟨(s.pumpRow p).node, rate, s.trunkAddr⟩).onPump p
    fun u => { u with nodeRate := some rate }

/-- A zero setpoint for a pump is placed at the head, and its node rate record takes it (R44, log 20). -/
def State.headZero (s : State) (p : PumpId) : State :=
  (s.onTrunk fun t => t.headZero (s.pumpRow p).node s.trunkAddr).onPump p
    fun u => { u with nodeRate := some 0 }

/-- The frame of a setpoint, with the sequence number it takes when it is sent (R157). -/
def SetpointEntry.frame (e : SetpointEntry) (seq : Byte) : Frame where
  dest := addrOf e.node
  src := e.src
  kind := .setpoint
  tag := 0
  seq := seq
  payload := sendNumber 2 false e.rate

/-! ### Replies (R157, R160) -/

/-- The frame of a reply, built when the request is executed (R157). -/
def replyFrame (s : State) (h : ReqHeader) (tag : Byte) (r : Reply) : Frame where
  dest := h.src
  src := s.trunkAddr
  kind := .reply
  tag := tag
  seq := h.seq
  payload := r.code.code :: r.data

/-- The execution of a request places its reply in the slot (R160). -/
def State.placeReply (s : State) (h : ReqHeader) (tag : Byte) (r : Reply) : State :=
  s.onTrunk fun t => { t with replySlot := some (replyFrame s h tag r) }

/-- A request finds the reply slot occupied (R160). While a restart is due the slot counts as occupied
until the reset, also once its reply is being sent (R174, log 7). -/
def State.slotOccupied (s : State) : Bool := s.trunk.replySlot.isSome || s.mgmt.restartDue

/-- A request handed to Management (R160, R165): lost when the slot is occupied, refused REFUSED_STATE
in STARTING unless it may run there, and otherwise executed; its one reply goes into the slot after
the state changes it makes. -/
def serve (early : Bool) (tag : Byte) (h : ReqHeader) (f : State → State × Reply) (s : State) :
    State :=
  if s.slotOccupied then s
  else if s.mode = .starting ∧ early = false then s.placeReply h tag (.plain .refusedState)
  else (f s).1.placeReply h tag (f s).2

/-- A refusal changes no state (R165). -/
def refuse (c : ReplyCode) (s : State) : State × Reply := (s, .plain c)

/-! ### The transmitters (R159, R163) -/

/-- The cab transmitter arbiter: an idle transmitter takes the reply, the urgent head, the forwarded
head or the general head, the first there is (R163). A notice carries the sequence counter as it stands
before the rise (R157, log 38). -/
def Trunk.cabArbiter (t : Trunk) : Trunk :=
  match t.cabSending, t.replySlot, t.urgent, t.cabFifo, t.general with
  | some _, _, _, _, _ => t
  | none, some f, _, _, _ => { t with replySlot := none, cabSending := some ⟨.reply, f⟩ }
  | none, none, n :: rest, _, _ =>
    { t with urgent := rest, noticeSeq := t.noticeSeq + 1,
             cabSending := some ⟨.urgent, n.frame t.noticeSeq⟩ }
  | none, none, [], f :: rest, _ => { t with cabFifo := rest, cabSending := some ⟨.forward, f⟩ }
  | none, none, [], [], n :: rest =>
    { t with general := rest, noticeSeq := t.noticeSeq + 1,
             cabSending := some ⟨.general, n.frame t.noticeSeq⟩ }
  | none, none, [], [], [] => t

/-- The field transmitter: an idle transmitter takes a queued setpoint before a forwarded frame (R159).
A setpoint carries the sequence counter as it stands before the rise (R157, log 38). -/
def Trunk.fieldArbiter (t : Trunk) : Trunk :=
  match t.fieldSending, t.setpoints, t.fieldFifo with
  | some _, _, _ => t
  | none, e :: rest, _ =>
    { t with setpoints := rest, fieldSeq := t.fieldSeq + 1,
             fieldSending := some (e.frame t.fieldSeq) }
  | none, [], f :: rest => { t with fieldFifo := rest, fieldSending := some f }
  | none, [], [] => t

/-- The end of an event: each idle transmitter makes its choice among the frames that wait (log 4). -/
def transmit (s : State) : State := s.onTrunk fun t => t.cabArbiter.fieldArbiter

/-! ### The timebase (section 6.4) -/

/-- The deadline of a timer of `ms` milliseconds that starts now. -/
def State.dueIn (s : State) (ms : Nat) : Nat := s.mgmt.clock + ms

/-- A timer's expiry: the millisecond timer stands at its deadline, or later (log 2). -/
def State.reach (s : State) (due : Nat) : State :=
  s.onMgmt fun m => { m with clock := max m.clock due }

end Sys2Proof.Machine
end

