-- ==== Sys2Proof/Machine/Banks.lean ====
section
/-! DEFINITION. The Record Banks: appending a closed record, and sealing at the end of a job (chapter 7). -/

namespace Sys2Proof.Machine

/-- The bank that is FILLING, if one is (R114). -/
def State.fillingBank (s : State) : Option (Fin 2) :=
  if s.banks[0].state = .filling then some 0
  else if s.banks[1].state = .filling then some 1
  else none

/-- A bank that has just become FILLING: count 0, fill-mark flag clear (R114). -/
def Bank.startFilling : Bank where
  state := .filling
  records := []
  fillMarked := false

/-- The other bank. -/
def otherBank (b : Fin 2) : Fin 2 := if b = 0 then 1 else 0

/-- The fill mark in force: 0 stands for 16 (R118). -/
def State.fillMark (s : State) : Nat := if s.settings.fillMark = 0 then 16 else s.settings.fillMark

/-- The test of the fill mark after an append to bank `b` (R118). -/
def testFillMark (b : Fin 2) (s : State) : State :=
  if s.banks[b].fillMarked = false ∧ s.fillMark ≤ s.banks[b].records.length then
    (s.onBank b fun k => { k with fillMarked := true }).raise .bankFillMark b.val
      s.banks[b].records.length
  else s

/-- The test of the count after an append to bank `b`: a 32nd record makes it FULL, sends BANK_READY,
and makes the other bank FILLING when it is FREE (R119). -/
def testBankFull (b : Fin 2) (s : State) : State :=
  if Config.bankSize ≤ s.banks[b].records.length then
    let s1 := (s.onBank b fun k => { k with state := .full }).raise .bankReady b.val Config.bankSize
    if s1.banks[otherBank b].state = .free then
      s1.onBank (otherBank b) fun _ => Bank.startFilling
    else s1
  else s

/-- A closed record is stored whole in the FILLING bank, at the index equal to its count, and the two
tests follow (R117). -/
def appendRecord (r : ClosedRecord) (s : State) : State :=
  match s.fillingBank with
  | some b =>
    testBankFull b (testFillMark b
      (s.onBank b fun k => { k with records := k.records ++ [r] }))
  | none => s

/-- When the job becomes CLOSED the FILLING bank is sealed: FULL with BANK_READY when it holds records,
FREE when it holds none (R123). -/
def sealBanks (s : State) : State :=
  match s.fillingBank with
  | some b =>
    if s.banks[b].records.length = 0 then s.onBank b fun _ => Bank.free
    else (s.onBank b fun k => { k with state := .full }).raise .bankReady b.val
      s.banks[b].records.length
  | none => s

end Sys2Proof.Machine
end

