-- ==== Sys2Proof/Machine/Billing.lean ====
section
/-! DEFINITION. The Billing Meter: reading the Tariff Table by key, footage, hours, lost mud, and the
building, issuing and deferring of tickets (chapters 8 and 9). -/

namespace Sys2Proof.Machine

/-! ### The Tariff Table by key (R134) -/

/-- A BAND row, in whole metres. -/
structure Band where
  fromM : Nat
  toM : Nat
  rate : Nat
  deriving DecidableEq, Repr

/-- A band takes its place in the order of the froms, shallowest first. -/
def insertBand (b : Band) : List Band → List Band
  | [] => [b]
  | c :: cs => if b.fromM ≤ c.fromM then b :: c :: cs else c :: insertBand b cs

/-- A row's band, if it is a BAND row. -/
def Tariff.band? : Tariff → Option Band
  | .band f t r => some ⟨f, t, r⟩
  | _ => none

/-- The bands in band order (R134). -/
def State.bands (s : State) : List Band :=
  (s.tables.tariff.toList.filterMap Tariff.band?).foldr insertBand []

/-- The index of the band of a depth: the last band whose from is at or above the depth, and band 0
for a depth shallower than every band (R134). -/
def bandIndex (bands : List Band) (x : Int) : Nat :=
  bands.countP (fun b => decide ((b.fromM : Int) * 1000 ≤ x)) - 1

/-- The rate of an activity, 0 without a row (R134). -/
def State.activityRate (s : State) (a : Nat) : Nat :=
  (s.tables.tariff.toList.findSome? fun
    | .activity c r => if c = a then some r else none
    | _ => none).getD 0

/-- The surcharge of a class in percent, 0 without a row (R134). -/
def State.surcharge (s : State) (c : Nat) : Nat :=
  (s.tables.tariff.toList.findSome? fun
    | .surcharge k p => if k = c then some p else none
    | _ => none).getD 0

/-- The lost-mud rate, 0 without a row (R134). -/
def State.mudRate (s : State) : Nat :=
  (s.tables.tariff.toList.findSome? fun
    | .mudLost r => some r
    | _ => none).getD 0

/-- The rate of a product, none for an unknown code (R134). -/
def State.productRate (s : State) (p : Nat) : Option Nat :=
  s.tables.tariff.toList.findSome? fun
    | .product c r => if c = p then some r else none
    | _ => none

/-! ### Footage (R137) -/

/-- The span from `lo` to `hi` cut at each of the given depths that lies strictly inside it. -/
def cutPieces (lo hi : Int) : List Int → List (Int × Int)
  | [] => [(lo, hi)]
  | c :: cs => if lo < c ∧ c < hi then (lo, c) :: cutPieces c hi cs else cutPieces lo hi cs

/-- One piece of the billed part: its length joins the footage of its band and its price the footage
charge. -/
def addPiece (bands : List Band) (percent : Nat) (a : Accumulators) (piece : Int × Int) :
    Accumulators :=
  let m := (piece.2 - piece.1).toNat
  let j := bandIndex bands piece.1
  { a with
    bands := a.bands.setIfInBounds j (satAdd Config.count32Max (a.bands[j]?.getD 0) m)
    footageCharge := a.footageCharge + m * ((bands[j]?.map Band.rate).getD 0) * (100 + percent) }

/-- The billed part of a closed interval is added to the accumulators (R137). -/
def addFootage (s : State) (lo hi : Int) (cls : Nat) (a : Accumulators) : Accumulators :=
  match s.bands with
  | [] => { a with unbanded := satAdd Config.count32Max a.unbanded (hi - lo).toNat }
  | bs => (cutPieces lo hi (bs.map fun b => (b.fromM : Int) * 1000)).foldl
      (addPiece bs (s.surcharge cls)) a

/-- A closed interval is handed on for footage: the part deeper than the billed depth mark is billed,
and the mark moves to the bottom (R137, R138). -/
def billFootage (top bottom : Int) (cls : Nat) (s : State) : State :=
  if bottom ≤ s.job.billedMark then s
  else
    s.onBilling fun b =>
      { b with
        acc := addFootage s (max top s.job.billedMark) bottom cls b.acc
        job := { b.job with billedMark := bottom } }

/-- Lost mud of a period is added while the job is OPEN, and dropped otherwise (R139). -/
def addLostMud (volume : Nat) (s : State) : State :=
  if s.job.state = .opened then
    s.onBilling fun b =>
      { b with acc := { b.acc with lostMud := satAdd Config.moneyMax b.acc.lostMud volume } }
  else s

/-! ### Tickets (R146 to R149) -/

/-- What a ticket issued now would charge, and the remainders it would leave (R148). -/
structure Charges where
  activity : Vector Nat 7
  activityCarry : Vector Nat 7
  footage : Nat
  footageLeft : Nat
  mud : Nat
  mudCarry : Nat
  products : Nat
  total : Nat
  deriving DecidableEq, Repr

/-- The numerator of an activity's division (R148). -/
def State.activityNumerator (s : State) (a : Fin 7) : Nat :=
  s.billing.acc.seconds[a] * s.activityRate a.val + s.billing.acc.carries[a]

/-- The numerator of the lost-mud division (R148). -/
def State.mudNumerator (s : State) : Nat :=
  s.billing.acc.lostMud * s.mudRate + s.billing.acc.mudCarry

/-- The charges of R148. -/
def State.charges (s : State) : Charges :=
  let act : Vector Nat 7 := Vector.ofFn fun a => s.activityNumerator a / 3600
  let footage := s.billing.acc.footageCharge / 100000
  let mud := s.mudNumerator / 1000000
  let products := s.billing.acc.products
  { activity := act
    activityCarry := Vector.ofFn fun a => s.activityNumerator a % 3600
    footage := footage
    footageLeft := s.billing.acc.footageCharge % 100000
    mud := mud
    mudCarry := s.mudNumerator % 1000000
    products := products
    total := min Config.moneyMax (act.toList.sum + footage + mud + products) }

/-- The number the next ticket carries: the counter plus 1, and for the final ticket at most 65535
(R147). -/
def State.nextTicketNumber (s : State) (final : Bool) : Nat :=
  if final then min Config.count16Max (s.job.ticketCounter + 1) else s.job.ticketCounter + 1

/-- The ticket built now (R147, R148), with its job running total (R149). -/
def buildTicket (final : Bool) (s : State) : Ticket :=
  let c := s.charges
  let a := s.billing.acc
  { jobNumber := s.job.number
    number := s.nextTicketNumber final
    final := final
    fromTime := s.job.lastTicketTo.time
    toTime := s.mgmt.siteTime
    timeUnset := s.job.lastTicketTo.unset || s.mgmt.timeUnset
    seconds := a.seconds
    charges := c.activity
    bandCount := s.bands.length
    bands := a.bands
    unbanded := a.unbanded
    footageCharge := c.footage
    lostMud := a.lostMud
    mudCharge := c.mud
    products := c.products
    additions := a.additions
    total := c.total
    runningTotal := satAdd Config.moneyMax s.job.billedTotal c.total }

/-- The accumulators after an issue: amounts 0, carries the remainders (R149). -/
def accAfterIssue (c : Charges) : Accumulators :=
  { Accumulators.zero with
    carries := c.activityCarry, footageCharge := c.footageLeft, mudCarry := c.mudCarry }

/-- The issue of a ticket: it joins the store, TICKET_READY is sent, and the final ticket closes the job
and seals the banks (R149). -/
def issueTicket (final : Bool) (s : State) : State :=
  let t := buildTicket final s
  let s1 := s.onBilling fun b =>
    { b with
      acc := accAfterIssue s.charges
      deferred := false
      tickets := b.tickets ++ [t]
      job := { b.job with
        ticketCounter := t.number
        billedTotal := t.runningTotal
        lastTicketTo := s.now } }
  let s2 := s1.raise .ticketReady final.toNat t.number
  if final then sealBanks (s2.onJob fun j => { j with state := .closed }) else s2

/-- A ticket is due: issued when the store has room, deferred when it is full (R146). -/
def ticketDue (final : Bool) (s : State) : State :=
  if s.billing.tickets.length < Config.ticketStoreSize then issueTicket final s
  else
    (s.onBilling fun b => { b with deferred := true }).raise .ticketDeferred final.toNat
      (s.nextTicketNumber final)

/-- The final ticket is due when the job is CLOSING and its closing-interval mark is set (R145). -/
def finalTicketIfDue (s : State) : State :=
  if s.job.state = .closing ∧ s.job.closingInterval = true then ticketDue true s else s

/-! ### Hours and the cadence (R136, R143) -/

/-- The cadence trigger fires on the metered seconds `m` with ticket bit `k` (R143). -/
def cadenceFires (k m : Nat) : Bool := m % 2 ^ (k + 1) == 2 ^ k

/-- A trigger that has fired makes an ordinary ticket due, once; from counter 65534 on it issues and
defers nothing (R143, R147). -/
def takeCadence (s : State) : State :=
  if s.billing.cadencePending then
    let s1 := s.onBilling fun b => { b with cadencePending := false }
    if s.job.state = .opened ∧ s.mode ≠ .starting ∧
        s.job.ticketCounter < Config.ticketCounterStop then
      ticketDue false s1
    else s1
  else s

/-- One metered second of an OPEN job (R136), with the cadence test on the new metered seconds in the
same event (R143). -/
def meterSecond (s : State) : State :=
  if s.job.state = .opened ∧ s.mode ≠ .starting then
    let m := satAdd Config.count32Max s.job.metered 1
    let a := s.depth.taken.code
    let s1 := s.onBilling fun b =>
      { b with
        job := { b.job with metered := m }
        acc := { b.acc with
          seconds := b.acc.seconds.set a (satAdd Config.count32Max b.acc.seconds[a] 1) }
        cadencePending := decide (s.job.metered < m) && cadenceFires s.settings.ticketBit m }
    takeCadence s1
  else s

end Sys2Proof.Machine
end

