-- ==== Sys2Proof/Machine/Strata.lean ====
section
/-! DEFINITION. The Strata Recorder: opening, gathering, closing and classifying intervals, correction,
extension, and the release of a bank (chapter 6, R122). -/

namespace Sys2Proof.Machine

/-! ### Opening (R98) -/

/-- The largest multiple of the step at or below a depth. -/
def stepFloor (step : Nat) (x : Int) : Int := x.fdiv step * step

/-- The target of a top: the smallest multiple of the step above it (R98). -/
def targetOf (step : Nat) (top : Int) : Int := stepFloor step top + step

/-- Any of the three flags by which the depth or the string cannot be trusted (R101). -/
def State.depthUncertain (s : State) : Bool :=
  s.depth.encoderUncertain || s.depth.anchorUncertain || s.tracker.tallyUncertain

/-- The interval that opens at `top` (R98). -/
def newInterval (top : Int) (corrected : Bool) (s : State) : Interval where
  number := s.recorder.closedCount + 1
  top := top
  target := targetOf s.settings.step top
  seconds := 0
  wobSum := 0
  torqueSum := 0
  rpmSum := 0
  pressureSum := 0
  loss := 0
  gain := 0
  flags := flagIf corrected flagCorrected ||| flagIf s.depthUncertain flagDepthUncertain |||
    flagIf s.mgmt.timeUnset flagTimeUnset
  openTime := s.mgmt.siteTime

/-- An interval opens at `top`; after the 65535th close of a job none does (R98). -/
def openInterval (top : Int) (corrected : Bool) (s : State) : State :=
  s.onRecorder fun r =>
    { r with interval :=
        if r.closedCount < Config.maxIntervals then some (newInterval top corrected s) else none }

/-- The open interval is changed, if there is one. -/
def State.onInterval (s : State) (f : Interval → Interval) : State :=
  s.onRecorder fun r => { r with interval := r.interval.map f }

/-- The open interval is marked DEPTH_UNCERTAIN (R101). -/
def markDepthUncertain (s : State) : State :=
  s.onInterval fun i => { i with flags := i.flags ||| flagDepthUncertain }

/-- The setting of an uncertainty flag is handed to the recorder outside STARTING (R76, R89). -/
def handUncertain (changed : Bool) (s : State) : State :=
  if changed ∧ s.mode ≠ .starting then markDepthUncertain s else s

/-! ### The closed record (R103, R104) -/

/-- The penetration index (R103). -/
def penetrationIndex (rop wob rpm : Int) : Nat :=
  if wob * rpm = 0 then 65535 else (clampZ 0 65535 ((rop * 1000).fdiv (wob * rpm))).toNat

/-- The torque ratio (R103). -/
def torqueRatio (torque wob : Int) : Nat :=
  if wob = 0 then 65535 else (clampZ 0 65535 ((torque * 10).fdiv wob)).toNat

/-- The values a close at `bottom` computes, absent when the drilling seconds are 0 (R103). -/
def meansOf (i : Interval) (bottom : Int) : Option Means :=
  if i.seconds = 0 then none
  else
    let wob := i.wobSum.fdiv i.seconds
    let torque := i.torqueSum.fdiv i.seconds
    let rpm := i.rpmSum.fdiv i.seconds
    let rop := (clampZ 0 65535 (((bottom - i.top) * 60).fdiv i.seconds)).toNat
    some {
      wob := wob
      torque := torque
      rpm := rpm
      pressure := i.pressureSum.fdiv i.seconds
      rop := rop
      pi := penetrationIndex rop wob rpm
      tr := torqueRatio torque wob }

/-- A row of the Strata Class Table matches (R104). -/
def ClassRow.matches (r : ClassRow) (flags : FlagSet) (m : Means) : Bool :=
  r.enabled && decide (r.piLow ≤ m.pi ∧ m.pi ≤ r.piHigh) &&
    decide (r.trLow ≤ m.tr ∧ m.tr ≤ r.trHigh) && (flags &&& r.mask == r.value &&& r.mask)

/-- The class of a closed record: the first matching row's code, 15 when no row matches and for a
NO_DATA record (R104). -/
def classify (rows : Vector ClassRow 16) (flags : FlagSet) (means : Option Means) : Fin 16 :=
  match means with
  | none => 15
  | some m =>
    match rows.toList.find? (·.matches flags m) with
    | some r => Fin.ofNat 16 r.code
    | none => 15

/-- The closed record of an interval closed at `bottom` now (R103). -/
def closedRecord (i : Interval) (bottom : Int) (s : State) : ClosedRecord :=
  let means := meansOf i bottom
  let flags := i.flags ||| flagIf means.isNone flagNoData ||| flagIf s.mgmt.timeUnset flagTimeUnset
  { interval := { i with flags := flags }
    bottom := bottom
    means := means
    cls := classify s.tables.classes flags means
    closeTime := s.mgmt.siteTime }

/-- Steps 1 to 3 of R106: the record goes to the FILLING bank and, while the job is OPEN, to the meter;
the current class becomes its class and the closed count rises. The interval is then no longer open;
the closing rule opens the next one. -/
def handOnRecord (r : ClosedRecord) (s : State) : State :=
  let s1 := appendRecord r s
  let s2 := if s1.job.state = .opened then billFootage r.interval.top r.bottom r.cls.val s1 else s1
  s2.onRecorder fun k =>
    { k with interval := none, currentClass := r.cls, closedCount := k.closedCount + 1 }

/-- The open interval closes at `bottom` with the given flags set by the closing rule (R103 to R106). -/
def closeInterval (bottom : Int) (added : FlagSet) (s : State) : State :=
  match s.recorder.interval with
  | some i => handOnRecord (closedRecord { i with flags := i.flags ||| added } bottom s) s
  | none => s

/-- The open interval is dropped without a record (R107). -/
def discardInterval (s : State) : State := s.onRecorder fun r => { r with interval := none }

/-! ### Extension and boundaries (R102, R108) -/

/-- While EXTENDING, D at or above the target sets the overdue mark, once for each extension (R108). -/
def testOverdue (s : State) : State :=
  match s.recorder.interval with
  | some i =>
    if s.recorder.extending = true ∧ s.recorder.overdue = false ∧ i.target ≤ s.depth.hole then
      (s.onRecorder fun r => { r with overdue := true }).raise .banksExhausted 1 s.depth.hole
    else s
  | none => s

/-- The extension state is tested after an opening: with no bank FILLING the recorder enters EXTENDING
(R106 step 4, R108). -/
def testExtension (s : State) : State :=
  match s.recorder.interval with
  | some i =>
    if s.fillingBank = none ∧ s.recorder.extending = false then
      testOverdue ((s.onRecorder fun r => { r with extending := true }).raise .banksExhausted 0
        i.number)
    else s
  | none => s

/-- An interval opens where another has closed: the opening and the extension test of R106 step 4. -/
def reopen (top : Int) (corrected : Bool) (s : State) : State :=
  testExtension (openInterval top corrected s)

/-- The boundary check closes the open interval at its target (R102). -/
def atBoundary (s : State) : Option Interval :=
  match s.recorder.interval with
  | some i =>
    if s.recorder.extending = false ∧ s.recorder.closingMark = false ∧ i.target ≤ s.depth.hole then
      some i
    else none
  | none => none

/-- The boundary check, made again for each interval it opens (R102). Each close fills one place of the
two banks, so 64 closes leave no bank FILLING and 65 rounds are enough. -/
def boundaryLoop : Nat → State → State
  | 0, s => s
  | n + 1, s =>
    match atBoundary s with
    | some i => boundaryLoop n (reopen i.target false (closeInterval i.target 0 s))
    | none => s

/-- The boundary check (R102). -/
def boundaryCheck (s : State) : State := boundaryLoop (2 * Config.bankSize + 1) s

/-- A hole advance reaches the recorder (R102, R108). -/
def onHoleAdvance (s : State) : State := boundaryCheck (testOverdue s)

/-! ### Correction (R107) -/

/-- A correction closes the open interval at the old D, or discards it, and opens a CORRECTED interval
at the new D (R107). -/
def onCorrection (oldD newD : Int) (s : State) : State :=
  match s.recorder.interval with
  | some i =>
    if s.recorder.closingMark then s
    else
      let s1 := if i.top < oldD then closeInterval oldD 0 s else discardInterval s
      boundaryCheck (reopen newD true s1)
  | none => s

/-! ### Job open and close (R110, R111) -/

/-- The recorder at JOB OPEN (R110). -/
def recorderJobOpen (s : State) : State :=
  openInterval s.depth.hole false (s.onRecorder fun _ => Recorder.default)

/-- The close at job end: PARTIAL at D, or a discard, and the report that sets the closing-interval mark
(R111). -/
def closeForJob (added : FlagSet) (s : State) : State :=
  let s1 :=
    match s.recorder.interval with
    | some i =>
      if i.top < s.depth.hole then closeInterval s.depth.hole (flagPartial ||| added) s
      else discardInterval s
    | none => s
  (s1.onRecorder fun r => { r with closingMark := false }).onJob
    fun j => { j with closingInterval := true }

/-- JOB CLOSE reaches the recorder: it closes now, or waits for a bank (R111). -/
def recorderJobClose (s : State) : State :=
  if s.recorder.extending then s.onRecorder fun r => { r with closingMark := true }
  else closeForJob 0 s

/-! ### Release (R109, R122) -/

/-- The bottom at which an extended interval closes: the largest multiple of the step at or below D, or
the target when that is not below the interval's top (R109). -/
def extensionBottom (i : Interval) (s : State) : Int :=
  if i.top < stepFloor s.settings.step s.depth.hole then stepFloor s.settings.step s.depth.hole
  else i.target

/-- A bank became FILLING while the recorder was EXTENDING: the extension ends (R109). -/
def endExtension (s : State) : State :=
  let overdue := s.recorder.overdue
  let s1 := s.onRecorder fun r => { r with extending := false, overdue := false }
  if s.recorder.closingMark then finalTicketIfDue (closeForJob (flagIf overdue flagExtended) s1)
  else if overdue then
    match s.recorder.interval with
    | some i =>
      let bottom := extensionBottom i s
      boundaryCheck (reopen bottom false (closeInterval bottom flagExtended s1))
    | none => s1
  else boundaryCheck s1

/-- The job is in progress: OPEN, SUSPENDED or CLOSING. -/
def State.jobInProgress (s : State) : Bool :=
  s.job.state == .opened || s.job.state == .suspended || s.job.state == .closing

/-- The release of a FULL bank (R122). -/
def releaseFullBank (b : Fin 2) (s : State) : State :=
  let s1 := s.onBank b fun _ => Bank.free
  if s1.fillingBank = none ∧ s.jobInProgress = true then
    let s2 := s1.onBank b fun _ => Bank.startFilling
    if s.recorder.extending then endExtension s2 else s2
  else s1

/-! ### Gathering (R99, R100) -/

/-- Weight on bit, 0 while HOOKLOAD has no value (R88). -/
def State.wob (s : State) : Int :=
  match (s.input inHookload).smoothed with
  | some v => max (s.depth.freeHookload - v) 0
  | none => 0

/-- A second of taken DRILLING joins the open interval (R99). -/
def drillingSecond (s : State) : State :=
  if s.mode ≠ .starting ∧ s.depth.taken = .drilling then
    let held := !(s.fresh inHookload && s.fresh inTorque && s.fresh inRotary && s.fresh inPressure)
    s.onInterval fun i =>
      { i with
        seconds := satAdd Config.count32Max i.seconds 1
        wobSum := i.wobSum + s.wob
        torqueSum := i.torqueSum + s.smoothedOr0 inTorque
        rpmSum := i.rpmSum + s.smoothedOr0 inRotary
        pressureSum := i.pressureSum + s.smoothedOr0 inPressure
        flags := i.flags ||| flagIf held flagHeldInputs }
  else s

/-- A period's result joins the open interval (R35, R100). -/
def onPeriodResult (loss gain : Nat) (held : Bool) (state : CircState) (s : State) : State :=
  s.onInterval fun i =>
    { i with
      loss := satAdd Config.count32Max i.loss loss
      gain := satAdd Config.count32Max i.gain gain
      flags := i.flags ||| flagIf held flagHeldInputs |||
        flagIf (state == .loss || state == .totalLoss) flagLossSeen |||
        flagIf (state == .gain) flagGainSeen |||
        flagIf (state == .flowing) flagFlowingSeen }

end Sys2Proof.Machine
end

