-- ==== Sys2Proof/Machine/DepthUnit.lean ====
section
/-! DEFINITION. The Depth and Activity Unit: head height, bit depth, hole depth, weight on bit, the
on-bottom condition, and the rig activity (chapter 5). -/

namespace Sys2Proof.Machine

/-! ### Bit depth and the on-bottom condition (R83, R86) -/

/-- Bit depth B: the frozen value while the slips freeze is set, and L − H + C otherwise (R83). -/
def Depth.bit (d : Depth) : Int := d.freeze.getD (d.stringLength - d.head + d.corr)

/-- The on-bottom condition (R86). -/
def State.onBottom (s : State) : Bool :=
  s.rotationAbove && s.anyRunning && s.fresh inHookload &&
    decide ((s.limits.wob : Int) ≤ s.wob) && s.fresh inHeadPos &&
    decide (s.depth.hole - (s.limits.distance : Int) ≤ s.depth.bit)

/-- A hole advance: on bottom with B below D, outside STARTING, D becomes B, and the new D is handed to
the Strata Recorder (R87). -/
def advanceHole (s : State) : State :=
  if s.mode ≠ .starting ∧ s.onBottom = true ∧ s.depth.hole < s.depth.bit then
    onHoleAdvance (s.onDepth fun d => { d with hole := d.bit })
  else s

/-! ### Rig activity (R91 to R94) -/

/-- |H − period start height|: the movement of the period in progress (R92). -/
def Depth.movement (d : Depth) : Option Int := d.periodHead.map fun h => |d.head - h|

/-- The head is moving (R92). -/
def Depth.moving (d : Depth) : Bool :=
  decide (Config.movingLimit < d.lastMovement.getD 0) ||
    decide (Config.movingLimit < d.movement.getD 0)

/-- The table of R91. -/
def State.activityNow (s : State) : Activity :=
  if s.mode = .standby then .shutDown
  else if s.slipsSet then .connection
  else if s.rotationAbove then (if s.onBottom then .drilling else .reaming)
  else if s.anyRunning then .circulating
  else if s.depth.moving then .tripping
  else .idle

/-- The taken activity becomes `a` with the settle timer stopped; a change sends ACTIVITY (R93, R94). -/
def takeActivity (a : Activity) (s : State) : State :=
  let s1 := s.onDepth fun d => { d with taken := a, settleDue := none }
  if s.depth.taken = a then s1 else s1.raise .activity 0 a.code.val

/-- What a change of the indicated activity from `old` to `new` does (R93). -/
def onIndicated (old new : Activity) (s : State) : State :=
  if new = .connection ∨ new = .shutDown ∨ old = .shutDown then takeActivity new s
  else if new = s.depth.taken then s.onDepth fun d => { d with settleDue := none }
  else s.onDepth fun d => { d with settleDue := some (s.dueIn (1000 * s.settings.settle)) }

/-- The table is re-evaluated, outside STARTING, and a change is handed on (R91, R93). -/
def reindicate (s : State) : State :=
  if s.mode = .starting ∨ s.activityNow = s.depth.indicated then s
  else onIndicated s.depth.indicated s.activityNow
    (s.onDepth fun d => { d with indicated := s.activityNow })

/-- What the unit does at an event that can change a term of the on-bottom condition or a line of the
activity table: the advance first, then the activity (R86, R87, R91). -/
def react (s : State) : State := reindicate (advanceHole s)

/-! ### Uncertainty flags (R89) -/

/-- ENCODER_UNCERTAIN is set, and its setting handed on. -/
def setEncoderUncertain (s : State) : State :=
  handUncertain (!s.depth.encoderUncertain)
    (s.onDepth fun d => { d with encoderUncertain := true })

/-- ANCHOR_UNCERTAIN is set, and its setting handed on. -/
def setAnchorUncertain (s : State) : State :=
  handUncertain (!s.depth.anchorUncertain)
    (s.onDepth fun d => { d with anchorUncertain := true })

/-! ### Head height (R80 to R82) -/

/-- A difference of encoder counts, read as a signed 32-bit number (R13). -/
def countDifference (n last : Int) : Int := (n - last).bmod (2 ^ 32)

/-- A report handed on with a difference is applied (R80). -/
def applyReport (n mm residue : Int) (s : State) : State :=
  s.onDepth fun d =>
    { d with
      head := clampZ 0 Config.maxHeadHeight (d.head + mm)
      residue := residue
      lastCount := n
      firstReport := false }

/-- A jump: the movement is not applied, ENCODER_UNCERTAIN is set and DEPTH_JUMP sent, with subject 1
for the first report after a reset (R81, R82). -/
def rejectReport (n mm : Int) (s : State) : State :=
  (setEncoderUncertain
    (s.onDepth fun d => { d with lastCount := n, firstReport := false })).raise
    .depthJump s.depth.firstReport.toNat (clampZ (-2 ^ 31) (2 ^ 31 - 1) mm)

/-- The movement beyond which a report is a jump now, in mm (R81, R82). -/
def State.jumpLimit (s : State) : Nat :=
  if s.depth.firstReport then Config.firstReportLimit else Config.jumpLimit

/-- A HEAD_POS report with a difference (R80 to R82). -/
def onHeadReport (n : Int) (s : State) : State :=
  let ppm : Int := (s.channel inHeadPos).aux
  let numerator := countDifference n s.depth.lastCount * 1000 + s.depth.residue
  let mm := numerator.fdiv ppm
  if |mm| ≤ (s.jumpLimit : Int) then applyReport n mm (numerator.fmod ppm) s
  else rejectReport n mm s

/-- A resynchronising HEAD_POS report (R82). -/
def onHeadResync (n : Int) (s : State) : State :=
  s.onDepth fun d => { d with lastCount := n, residue := 0, firstReport := false }

/-! ### Slips, string length, hookload (R83 to R85, R88) -/

/-- A SLIPS acceptance with its reading (R84); the first after a reset re-derives the freeze (R85). -/
def onSlips (readsOne : Bool) (s : State) : State :=
  if s.depth.awaitSlips then
    let s1 := s.onDepth fun d => { d with awaitSlips := false }
    if readsOne then
      setAnchorUncertain (s1.onDepth fun d => { d with freeze := some d.bit })
    else s1
  else
    match s.depth.freeze, readsOne with
    | none, true => s.onDepth fun d => { d with freeze := some d.bit }
    | some b, false =>
      s.onDepth fun d => { d with freeze := none, corr := b - d.stringLength + d.head }
    | _, _ => s

/-- The tracker hands on its string length (R56, R83): a change while the freeze is not set marks
ANCHOR_UNCERTAIN, and the new B is handed to the tests. -/
def handLength (s : State) : State :=
  if s.tracker.length = s.depth.stringLength then s
  else
    let s1 := s.onDepth fun d => { d with stringLength := s.tracker.length }
    react (if s.depth.freeze = none then setAnchorUncertain s1 else s1)

/-- A HOOKLOAD acceptance off bottom with the slips out takes the free hookload, in every mode (R88,
log 17). -/
def onHookload (s : State) : State :=
  if s.fresh inSlips = true ∧ s.slipsReadsOne = false ∧ s.depth.freeze = none ∧
      s.depth.bit < s.depth.hole - Config.freeHookloadDistance then
    s.onDepth fun d => { d with freeHookload := s.smoothedOr0 inHookload }
  else s

/-! ### Correction and periods (R90, R92) -/

/-- DEPTH CORRECT's effect on the depths, and the hand-off of the correction (R90). -/
def correctDepth (newD : Int) (s : State) : State :=
  let δ := newD - s.depth.hole
  onCorrection s.depth.hole newD (s.onDepth fun d =>
    { d with
      corr := d.corr + δ
      freeze := d.freeze.map (· + δ)
      hole := newD
      residue := 0
      encoderUncertain := false
      anchorUncertain := false })

/-- A period ends: its movement is recorded and the next period's start height taken (R92). -/
def endMovementPeriod (s : State) : State :=
  s.onDepth fun d => { d with lastMovement := d.movement, periodHead := some d.head }

/-- The period timer restarts after a clearing by a load (R92). -/
def restartMovementPeriod (s : State) : State :=
  s.onDepth fun d => { d with periodHead := some d.head }

/-- The unit at the end of STARTING (R92). -/
def startMovementPeriod (s : State) : State :=
  s.onDepth fun d => { d with periodHead := some d.head, lastMovement := some 0 }

end Sys2Proof.Machine
end

