-- ==== Sys2Proof/Machine/Pumps.lean ====
section
/-! DEFINITION. Pump Control: rates and control states, the holds at zero, the pressure trip, cab
setpoints, ramps, the not-following test, and what a change of mode or of a Pump Table row does
(chapter 3). -/

namespace Sys2Proof.Machine

/-! ### Holds and control states (R41 to R43) -/

/-- The modes in which the part commands the pumps and judges the handler. -/
def State.commanding (s : State) : Bool := s.mode == .supervised || s.mode == .standby

/-- A hold of R43 applies: in SUPERVISED the trip latch or the open string, in STANDBY always. -/
def State.heldAtZero (s : State) : Bool :=
  match s.mode with
  | .supervised => s.pumpCtl.tripLatch || s.tracker.conn != .headOn
  | .standby => true
  | _ => false

/-- The rise of a ramp is held: STANDPIPE_PRESSURE not FRESH, or smoothed at or above the warn level
(R42). -/
def State.riseHeld (s : State) : Bool :=
  !s.fresh inPressure || decide ((s.limits.warn : Int) ≤ s.smoothedOr0 inPressure)

/-- The control state that follows from a pump's rates where no hold applies (R41). -/
def controlOf (requested commanded : Nat) (held : Bool) : Control :=
  if requested = 0 then .stopped
  else if commanded < requested then (if held then .rampHeld else .ramping)
  else .steady

/-- A pump at rates 0 in the given control state. -/
def Pump.atZero (control : Control) (u : Pump) : Pump :=
  { u with requested := 0, commanded := 0, control := control }

/-- A pump's rates change: its control state follows them, and in SUPERVISED and STANDBY a changed
commanded rate is queued (R41). The control state is set from the rates and the present pressure also where
the rates come out as they were, as at an accepted setpoint of the same rate (log 48). -/
def changeRates (p : PumpId) (requested commanded : Nat) (s : State) : State :=
  let s1 := s.onPump p fun u =>
    { u with
      requested := requested
      commanded := commanded
      control := if s.heldAtZero then .forcedOff else controlOf requested commanded s.riseHeld }
  if s.commanding = true ∧ commanded ≠ (s.pump p).commanded then s1.queueSetpoint p commanded
  else s1

/-- A hold begins for a used pump: rates 0, FORCED_OFF, and a zero in the normal place if it was
commanded above 0 (R43). -/
def forceZero (p : PumpId) (s : State) : State :=
  if s.used p then
    let s1 := s.onPump p (Pump.atZero .forcedOff)
    if 0 < (s.pump p).commanded then s1.queueSetpoint p 0 else s1
  else s

/-- A used pump is forced to zero with its zero at the head of the queue (R44). -/
def forceHead (p : PumpId) (s : State) : State :=
  if s.used p then (s.onPump p (Pump.atZero .forcedOff)).headZero p else s

/-- Both used pumps are forced to zero from the head of the queue; pump 1's zero stands first (R158). -/
def forceBothHead (s : State) : State := forceHead 0 (forceHead 1 s)

/-! ### The pressure trip (R44, R46) -/

/-- An acceptance of STANDPIPE_PRESSURE with its conditioned value, unsmoothed (R44). -/
def onPressure (v : Int) (s : State) : State :=
  if s.mode ≠ .starting ∧ s.pumpCtl.tripLatch = false ∧ (s.limits.trip : Int) ≤ v then
    let s1 := s.onPumpCtl fun c => { c with tripLatch := true, tripPressure := some v }
    (if s.commanding then forceBothHead s1 else s1).raise .pressureTrip 0 v
  else s

/-- The pressure test of TRIP RESET: FRESH, and last conditioned below the trip limit less the
hysteresis (R46). -/
def State.pressureBled (s : State) : Bool :=
  s.fresh inPressure &&
    (match (s.input inPressure).lastConditioned with
     | some v => decide (v < (s.limits.trip : Int) - (s.limits.hysteresis : Int))
     | none => false)

/-- A used pump after its latch has been cleared: STOPPED, or FORCED_OFF where another hold applies. -/
def stopAfterReset (p : PumpId) (s : State) : State :=
  if s.used p then s.onPump p (Pump.atZero (if s.heldAtZero then .forcedOff else .stopped)) else s

/-- TRIP RESET's effect when the pressure test passes (R46). -/
def resetTrip (s : State) : State :=
  if s.pumpCtl.tripLatch then
    let s1 := s.onPumpCtl fun c => { c with tripLatch := false }
    if s.mode = .standby then s1 else eachPump stopAfterReset s1
  else s

/-! ### The open-string hold (R47) -/

/-- The end of the open-string hold for one pump: in SUPERVISED a pump without another hold, and in
MONITOR a pump that is FORCED_OFF with the latch clear, becomes STOPPED. -/
def endOpenString (p : PumpId) (s : State) : State :=
  let ends :=
    match s.mode with
    | .supervised => !s.heldAtZero
    | .monitor => (s.pump p).control == .forcedOff && !s.pumpCtl.tripLatch
    | _ => false
  if s.used p && ends then s.onPump p (Pump.atZero .stopped) else s

/-- The tracker hands on a change of its connection state from `old` (R47, R58). Of two zeros that join
the queue pump 1's joins first (log 40). -/
def handConn (old : Conn) (s : State) : State :=
  if s.tracker.conn = old then s
  else if s.tracker.conn = .headOn then eachPump endOpenString s
  else if old = .headOn ∧ s.mode = .supervised then eachPump forceZero s
  else s

/-! ### Cab setpoints (R45) -/

/-- A setpoint with a payload of the wrong length is dropped and counted. -/
def countBadSetpoint (s : State) : State :=
  s.onPumpCtl fun c => { c with badSetpoints := satAdd Config.count16Max c.badSetpoints 1 }

/-- A refused setpoint changes nothing and is notified. -/
def refuseSetpoint (p : PumpId) (r : Reason) (s : State) : State :=
  s.raise .interlockRefused (129 + p.val) r.code

/-- An accepted setpoint of rate `v` (R45). R41 applies to it whether or not it changes a rate (DESIGN CHOICE,
log 48). -/
def acceptSetpoint (p : PumpId) (v : Nat) (s : State) : State :=
  let top := (s.pumpRow p).maxRate
  let requested := min v top
  changeRates p requested (min (s.pump p).commanded requested)
    (s.onPump p fun u => { u with saturated := decide (top < v) })

/-- A setpoint of 2 bytes judged in SUPERVISED. -/
def judgeSetpoint (p : PumpId) (v : Nat) (s : State) : State :=
  if s.pumpCtl.tripLatch = true ∧ 0 < v then refuseSetpoint p .tripped s
  else if s.tracker.conn ≠ .headOn ∧ 0 < v then refuseSetpoint p .stringOpen s
  else acceptSetpoint p v s

/-- A cab setpoint for a used pump, by the mode (R45). -/
def pumpSetpointFrame (p : PumpId) (f : Frame) (s : State) : State :=
  match s.mode with
  | .supervised =>
    if f.payload.length = 2 then judgeSetpoint p (natOfBytes f.payload) s else countBadSetpoint s
  | .standby => if f.payload.length = 2 then s else countBadSetpoint s
  | _ =>
    if s.fieldFifoHasRoom = true ∧ f.payload.length = 2 then
      (s.offerField f).onPump p fun u => { u with nodeRate := some (natOfBytes f.payload) }
    else s.offerField f

/-! ### Ramps and the not-following test (R42, R48) -/

/-- A second tick at one pump (R42). -/
def rampPump (p : PumpId) (s : State) : State :=
  let u := s.pump p
  if s.mode = .supervised ∧ s.used p = true ∧ s.heldAtZero = false ∧
      u.commanded < u.requested then
    if s.riseHeld then s.onPump p fun u => { u with control := .rampHeld }
    else changeRates p u.requested (min u.requested (u.commanded + (s.pumpRow p).rampRate)) s
  else s

/-- A period with `strokes` counted strokes and measured rate `m` does not follow the commanded rate
`c` (R48). -/
def doesNotFollow (c m strokes : Nat) : Bool :=
  (decide (0 < c) && decide (c < ((m : Int) - c).natAbs * 5)) || (c == 0 && decide (0 < strokes))

/-- The not-following test of one pump at a period expiry (R48). -/
def judgePeriod (p : PumpId) (strokes : Nat) (s : State) : State :=
  if s.commanding = true ∧ s.used p = true then
    let m := strokes * 60 / s.settings.period
    let n := if doesNotFollow (s.pump p).commanded m strokes then (s.pump p).notFollowing + 1 else 0
    let s1 := s.onPump p fun u =>
      { u with measured := some m, notFollowing := if 3 ≤ n then 0 else n }
    if 3 ≤ n then s1.raise .pumpNotFollowing (p.val + 1) m else s1
  else s

/-! ### Changes of mode (R49 to R51). The mode has already become the new one. -/

/-- A used pump adopts its node rate record (R49). -/
def adoptRecord (p : PumpId) (s : State) : State :=
  if s.used p then
    let top := (s.pumpRow p).maxRate
    s.onPump p fun u =>
      let rate := min (u.nodeRate.getD 0) top
      { u with
        requested := rate
        commanded := rate
        saturated := decide (top < u.nodeRate.getD 0)
        notFollowing := 0
        control := if rate = 0 then .stopped else .steady }
  else s

/-- The mode has become SUPERVISED from MONITOR or STARTING: adoption, then the holds (R49). The zeros of an
open string join with pump 1's first (log 40). -/
def enterSupervised (s : State) : State :=
  let s1 := eachPump adoptRecord s
  if s.pumpCtl.tripLatch then forceBothHead s1
  else if s.tracker.conn ≠ .headOn then eachPump forceZero s1
  else s1

/-- The mode has become MONITOR from SUPERVISED (R50). -/
def enterMonitor (s : State) : State :=
  eachPump (fun p s =>
    s.onPump p fun u =>
      { u with
        nodeRate := if s.used p then some u.commanded else u.nodeRate
        notFollowing := 0 }) s

/-- The mode has become STANDBY (R51). Of two zeros in the normal place pump 1's joins first (log 40). -/
def enterStandby (s : State) : State :=
  eachPump (fun p s =>
    if s.used p then
      (s.onPump p fun u => { u.atZero .forcedOff with saturated := false }).queueSetpoint p 0
    else s) s

/-- STANDBY has been left for the remembered mode (R51); a return to MONITOR sets the not-following
counts to 0 (R48). -/
def leaveStandby (s : State) : State :=
  eachPump (fun p s =>
    match s.mode with
    | .supervised =>
      if s.used p = true ∧ s.heldAtZero = false then s.onPump p (Pump.atZero .stopped) else s
    | _ =>
      s.onPump p fun u =>
        { (if s.used p then { u.atZero .stopped with nodeRate := some 0 } else u) with
          notFollowing := 0 }) s

/-! ### A load of a Pump Table row (R38). The row has already been stored. -/

/-- The pump of a row whose node has changed from `oldNode`. -/
def pumpNodeChanged (p : PumpId) (oldNode : Nat) (s : State) : State :=
  (s.onTrunk fun t => t.dropSetpoint oldNode).onPump p fun u =>
    { u.atZero (if s.used p && s.heldAtZero then .forcedOff else .stopped) with
      notFollowing := 0, saturated := false, nodeRate := none }

/-- The pump of a row whose node stands: its rates are lowered to the new max rate. -/
def pumpMaxLowered (p : PumpId) (s : State) : State :=
  let top := (s.pumpRow p).maxRate
  let u := s.pump p
  if top < u.requested ∨ top < u.commanded then
    changeRates p (min u.requested top) (min u.commanded top)
      (s.onPump p fun u => { u with saturated := u.saturated || decide (top < u.requested) })
  else s

/-- The effect of an accepted load on the pump of the row. -/
def onPumpRow (p : PumpId) (oldNode : Nat) (s : State) : State :=
  if (s.pumpRow p).node = oldNode then pumpMaxLowered p s else pumpNodeChanged p oldNode s

end Sys2Proof.Machine
end

