-- ==== Sys2Proof/Machine/CirculationMonitor.lean ====
section
/-! DEFINITION. The Circulation Monitor: what a period collects, the balance of a period, the window,
the circulation states, clearings by loads, and the period expiry (chapter 2). -/

namespace Sys2Proof.Machine

/-! ### What a period collects (R19 to R21) -/

/-- A stroke delta handed on for a pump; a resynchronising report hands on none (R19). -/
def collectStrokes (p : PumpId) (delta : Nat) (s : State) : State :=
  if s.mode = .starting ∨ s.used p = false then s
  else if delta ≤ (s.pumpRow p).plausibility then
    s.onCirc fun c =>
      if p = 0 then { c with strokes1 := c.strokes1 + delta }
      else { c with strokes2 := c.strokes2 + delta }
  else
    (s.onCirc fun c => { c with periodHeld := true }).raise .pumpCountJump (p.val + 1) delta

/-- A FLOW_OUT acceptance hands its smoothed value to the monitor (R20). -/
def collectFlow (s : State) : State :=
  if s.mode = .starting then s
  else
    s.onCirc fun c =>
      { c with flowSum := c.flowSum + s.smoothedOr0 inFlowOut, flowCount := c.flowCount + 1 }

/-- The return-flow mean of the period, none when no value was collected (R20). -/
def Circulation.qavg (c : Circulation) : Option Nat :=
  if c.flowCount = 0 then none
  else some (clampZ 0 20000 (c.flowSum.fdiv c.flowCount)).toNat

/-- A pit is enabled and FRESH (R21). -/
def State.pitGood (s : State) (k : Fin 4) : Bool :=
  (s.channel (pitInput k)).enabled && s.fresh (pitInput k)

/-- The pit levels taken at the start of a period (R21). -/
def State.takePits (s : State) : Vector (Option Int) 4 :=
  Vector.ofFn fun k => if s.pitGood k then some (s.smoothedOr0 (pitInput k)) else none

/-- A pit's volume at a level, in mL (R21). -/
def State.pitVolume (s : State) (k : Fin 4) (level : Int) : Int :=
  (level * (s.channel (pitInput k)).aux).fdiv 10

/-- The pits of the period's pit set, each with its level at the start (R21). -/
def State.pitSet (s : State) : List (Fin 4 × Int) :=
  (List.finRange 4).filterMap fun k =>
    if s.pitGood k then s.circ.pits[k].map fun h => (k, h) else none

/-- The change of the pit volume over the period, none when the pit set is empty (R23). -/
def State.pitChange (s : State) : Option Int :=
  if s.pitSet.isEmpty then none
  else some ((s.pitSet.map fun q =>
    s.pitVolume q.1 (s.smoothedOr0 (pitInput q.1)) - s.pitVolume q.1 q.2).sum)

/-! ### The balance of a period (R22, R23) -/

/-- The balance of a record: ΔV (R23). -/
def PeriodRecord.balance (r : PeriodRecord) : Int := (r.vin : Int) - r.vout

/-- A pump's part of the flow-in sum; an unused pump contributes 0 (R22). -/
def State.pumpFlow (s : State) (p : PumpId) (strokes : Nat) : Nat :=
  if s.used p then strokes * (s.pumpRow p).displacement * (s.pumpRow p).efficiency else 0

/-- The sum T of R22. -/
def State.flowInSum (s : State) : Nat :=
  s.pumpFlow 0 s.circ.strokes1 + s.pumpFlow 1 s.circ.strokes2 + s.circ.carryIn

/-- Vin of R22, in mL. -/
def State.vin (s : State) : Nat := s.flowInSum / 100

/-- What R23 computes. -/
structure FlowOut where
  vout : Int
  carry : Nat
  heldMean : Option Nat
  held : Bool
  pitDerived : Bool
  deriving DecidableEq, Repr

/-- The sum U of a mean flow over the period (R23). -/
def State.flowOutSum (s : State) (mean : Nat) : Nat :=
  mean * s.settings.period * 5 + s.circ.carryOut

/-- The mean of the period when FLOW_OUT is FRESH at the expiry and has one (R23, R28, R29). -/
def State.goodMean (s : State) : Option Nat := if s.fresh inFlowOut then s.circ.qavg else none

/-- The three cases of R23. -/
def State.flowOut (s : State) : FlowOut :=
  match s.goodMean, s.pitChange, s.circ.heldMean with
  | some q, _, _ => ⟨(s.flowOutSum q / 3 : Nat), s.flowOutSum q % 3, some q, false, false⟩
  | none, some d, m => ⟨s.vin + d, s.circ.carryOut, m, false, true⟩
  | none, none, some m => ⟨(s.flowOutSum m / 3 : Nat), s.flowOutSum m % 3, some m, true, false⟩
  | none, none, none => ⟨s.vin, s.circ.carryOut, none, true, false⟩

/-- The record of the pumped period that ends (R24). -/
def State.periodRecord (s : State) : PeriodRecord :=
  { vin := s.vin
    vout := s.flowOut.vout
    held := s.flowOut.held || s.circ.periodHeld
    pitDerived := s.flowOut.pitDerived }

/-! ### The window (R24 to R26) -/

/-- A window with a record joined as its newest (R24). -/
def joinWindow (w : Nat) (window : List PeriodRecord) (r : PeriodRecord) : List PeriodRecord :=
  if w ≤ window.length then window.tail ++ [r] else window ++ [r]

/-- The monitor with this window and its sums (R24). -/
def Circulation.setWindow (c : Circulation) (window : List PeriodRecord) : Circulation :=
  { c with
    window := window
    sumR := (window.map PeriodRecord.balance).sum
    sumIn := (window.map fun r => (r.vin : Int)).sum
    sumOut := (window.map PeriodRecord.vout).sum }

/-- A clearing: window, carries, sums and counts (R26). -/
def Circulation.cleared (c : Circulation) : Circulation :=
  { c with
    window := [], carryIn := 0, carryOut := 0, sumR := 0, sumIn := 0, sumOut := 0, flowing := 0,
    held := 0 }

/-- Division rounded half away from zero (section 6.3). -/
def roundAway (a : Int) (b : Nat) : Int := a.sign * ((2 * a.natAbs + b) / (2 * b) : Nat)

/-- The loss rate of a window sum over `n` records of `p` seconds, in L/h (R25). -/
def lossRateOf (r : Int) (n p : Nat) : Int :=
  if n = 0 then 0 else clampZ (-99999) 99999 (roundAway (r * 36) (10 * n * p))

/-- The loss rate as it stands (R25). -/
def State.lossRate (s : State) : Int :=
  lossRateOf s.circ.sumR s.circ.window.length s.settings.period

/-! ### Evaluation (R32) -/

/-- The first line of R32's table whose condition holds. -/
def evaluate (th : Thresholds) (before : CircState) (r vin vout : Int) : CircState :=
  let wasLoss := before == .loss || before == .totalLoss
  if 0 < th.ratio ∧ vout * 100 < vin * th.ratio then .totalLoss
  else if (th.lossLevel : Int) ≤ r then
    (if wasLoss || before == .lossWatch then .loss else .lossWatch)
  else if (th.lossWatch : Int) ≤ r then (if wasLoss then .loss else .lossWatch)
  else if (th.gainLevel : Int) ≤ -r then
    (if before == .gainWatch || before == .gain then .gain else .gainWatch)
  else if (th.gainWatch : Int) ≤ -r then (if before == .gain then .gain else .gainWatch)
  else if (wasLoss || before == .lossWatch) = true ∧ ((th.lossWatch / 2 : Nat) : Int) ≤ r then
    .lossWatch
  else if (before == .gain || before == .gainWatch) = true ∧ ((th.gainWatch / 2 : Nat) : Int) ≤ -r
    then .gainWatch
  else .normal

/-- The evaluation of the window against the row of the current class (R32). -/
def State.judged (s : State) (before : CircState) : CircState :=
  evaluate s.tables.thresholds[s.recorder.currentClass] before s.circ.sumR s.circ.sumIn s.circ.sumOut

/-- The notice of a change of circulation state; `q` is the Qavg that an entry into FLOWING carries
(R33). -/
def notifyState (old : CircState) (q : Nat) (s : State) : State :=
  if s.circ.state = old then s
  else
    match s.circ.state with
    | .loss => s.raise .loss 0 s.lossRate
    | .totalLoss => s.raise .loss 2 s.lossRate
    | .gain => s.raise .gain 0 s.lossRate
    | .flowing => s.raise .gain 1 q
    | st => s.raise .circulationState 0 st.code

/-! ### A no-pump period (R27 to R29) -/

/-- A period counts toward flowing (R28). -/
def State.countsFlowing (s : State) : Bool :=
  (match s.circ.pumpsOffAt with
   | some t => decide (t + 1000 * s.settings.flowback ≤ s.mgmt.clock)
   | none => false) &&
  (match s.goodMean with
   | some q => decide (s.settings.noiseFloor ≤ q)
   | none => false)

/-- The flowing test, in PUMPS_OFF (R28). -/
def flowingTest (s : State) : State :=
  let n := if s.countsFlowing then s.circ.flowing + 1 else 0
  if 3 ≤ n then s.onCirc fun c => { c with state := .flowing, flowing := 0 }
  else s.onCirc fun c => { c with flowing := n }

/-- The return test, in FLOWING (R29). -/
def returnTest (s : State) : State :=
  let n :=
    match s.goodMean with
    | some q => if q < s.settings.noiseFloor then s.circ.flowing + 1 else 0
    | none => s.circ.flowing
  if 3 ≤ n then s.onCirc fun c => { c with state := .pumpsOff, flowing := 0 }
  else s.onCirc fun c => { c with flowing := n }

/-- The clearing by a no-pump period, whose tests of R28 and R29 go on from the flowing count (log 15). -/
def clearNoPump (s : State) : State :=
  s.onCirc fun c => { c.cleared with flowing := c.flowing }

/-- The work of a no-pump period (R27). -/
def noPumpPeriod (s : State) : State :=
  let s1 := clearNoPump s
  match s.circ.state with
  | .flowing => returnTest s1
  | .pumpsOff => flowingTest s1
  | _ => flowingTest (s1.onCirc fun c =>
      { c with state := .pumpsOff, pumpsOffAt := some s.mgmt.clock, flowing := 0 })

/-! ### A pumped period (R24, R30, R31) -/

/-- The record joins the window, the carries and the held mean move, and the held count with them
(R22 to R24, R30). -/
def joinPeriod (s : State) : State :=
  s.onCirc fun c =>
    { c.setWindow (joinWindow s.settings.window c.window s.periodRecord) with
      carryIn := s.flowInSum % 100
      carryOut := s.flowOut.carry
      heldMean := s.flowOut.heldMean
      held := if s.periodRecord.held then c.held + 1 else 0 }

/-- The window is full. -/
def State.windowFull (s : State) : Bool := decide (s.settings.window ≤ s.circ.window.length)

/-- The state becomes `st`. -/
def setCircState (st : CircState) (s : State) : State := s.onCirc fun c => { c with state := st }

/-- The move of R30's table after the record has joined. -/
def movePumped (before : CircState) (r : PeriodRecord) (s : State) : State :=
  match before with
  | .pumpsOff | .flowing =>
    setCircState (if s.windowFull then s.judged .filling else .filling)
      (s.onCirc fun c => { c with flowing := 0 })
  | .blind =>
    if r.held then s
    else s.onCirc fun c => { c.cleared.setWindow [r] with state := .filling }
  | .filling =>
    if 3 ≤ s.circ.held then setCircState .blind s
    else if s.windowFull then setCircState (s.judged .filling) s
    else s
  | st =>
    if 3 ≤ s.circ.held then setCircState .blind s else setCircState (s.judged st) s

/-- The work of a pumped period (R30). -/
def pumpedPeriod (s : State) : State := movePumped s.circ.state s.periodRecord (joinPeriod s)

/-- The period that ends counted strokes (section 2.3). -/
def State.pumped (s : State) : Bool := decide (0 < s.circ.strokes1 + s.circ.strokes2)

/-! ### The expiry (R18, R33, R35, R36, R48) -/

/-- The collection is emptied, the pits are taken and the timer starts with the P in force (R18). -/
def beginPeriod (s : State) : State :=
  s.onCirc fun c =>
    { c with
      strokes1 := 0, strokes2 := 0, flowSum := 0, flowCount := 0, periodHeld := false
      pits := s.takePits
      periodDue := some (s.dueIn (1000 * s.settings.period)) }

/-- The period's result is handed on, with the state after the expiry (R35, R36). -/
def handPeriodResult (pumped : Bool) (r : PeriodRecord) (mark : Bool) (s : State) : State :=
  if pumped then
    let s1 := onPeriodResult r.balance.toNat (-r.balance).toNat r.held s.circ.state s
    if 0 < r.balance ∧ (s.circ.state = .loss ∨ s.circ.state = .totalLoss) then
      addLostMud r.balance.toNat s1
    else s1
  else onPeriodResult 0 0 mark s.circ.state s

/-- The period that ends is worked: its state move, the notice of it, and its result. -/
def workPeriod (s : State) : State :=
  let s1 := if s.pumped then pumpedPeriod s else noPumpPeriod s
  handPeriodResult s.pumped s.periodRecord s.circ.periodHeld
    (notifyState s.circ.state (s.circ.qavg.getD 0) s1)

/-- The end of a balance period: Pump Control's test of pump 1 and then of pump 2 (R48, log 44), the work of
the period, the next period, and the movement of the head (R18, R92). -/
def endPeriod (s : State) : State :=
  let s1 := judgePeriod 1 s.circ.strokes2 (judgePeriod 0 s.circ.strokes1 s)
  react (endMovementPeriod (beginPeriod (workPeriod s1)))

/-! ### Clearing by a load (R26) -/

/-- The circulation state after a clearing by a load, with the pumps-off mark. -/
def stateAfterLoad (s : State) : State :=
  let st : CircState := if s.anyRunning then .filling else .pumpsOff
  s.onCirc fun c =>
    { c with
      state := st
      pumpsOffAt :=
        if st = .pumpsOff ∧ c.state ≠ .pumpsOff ∧ c.state ≠ .flowing then some s.mgmt.clock
        else c.pumpsOffAt }

/-- The window is cleared by a load, and a new period begins; a load of the FLOW_OUT row drops the held
mean (R26). -/
def clearByLoad (dropMean : Bool) (s : State) : State :=
  let s1 := s.onCirc fun c =>
    { c.cleared with heldMean := if dropMean then none else c.heldMean }
  notifyState s.circ.state 0 (stateAfterLoad (restartMovementPeriod (beginPeriod s1)))

end Sys2Proof.Machine
end

