-- ==== Sys2Proof/Machine/StringTracker.lean ====
section
/-! DEFINITION. The String Tracker: the rods held, handler commands and their interlocks, handler
reports, rotating seconds, and the tracker's requests (chapter 4). -/

namespace Sys2Proof.Machine

/-! ### What the tracker holds (R54 to R57) -/

/-- The record of a rack slot; none for an empty slot. -/
def Tracker.slot (t : Tracker) (k : Nat) : Option Rod := t.rack[k]?.getD none

/-- The slot's content becomes `r`. -/
def Tracker.setSlot (t : Tracker) (k : Nat) (r : Option Rod) : Tracker :=
  { t with rack := t.rack.setIfInBounds k r }

/-- The record in the handler hold. -/
def Tracker.held (t : Tracker) : Option Rod := t.hold.map (·.1)

/-- Every record the part holds: the rack's, the string's and the hold's (R54). -/
def Tracker.rods (t : Tracker) : List Rod :=
  t.rack.toList.filterMap id ++ t.stack ++ t.held.toList

/-- A record with this serial is held somewhere. -/
def Tracker.holdsSerial (t : Tracker) (serial : Nat) : Bool := t.rods.any (·.serial == serial)

/-- The top entry of the stack. -/
def Tracker.top (t : Tracker) : Option Rod := t.stack.getLast?

/-- The stack holds an entry of kind ROD. -/
def Tracker.hasRod (t : Tracker) : Bool := t.stack.any (·.kind == .rod)

/-- The number of BHA entries. -/
def Tracker.bhaCount (t : Tracker) : Nat := t.stack.countP (·.kind == .bha)

/-- The connection state of an open string (R58). -/
def Tracker.headOff (t : Tracker) : Conn :=
  if t.hold.isSome then .headOffHolding else .headOffEmpty

/-- TALLY_UNCERTAIN is set, and its setting handed on (R76). -/
def setTallyUncertain (s : State) : State :=
  handUncertain (!s.tracker.tallyUncertain) (s.onTracker fun t => { t with tallyUncertain := true })

/-- The tracker's changes of string length and connection state are handed on (R56, R58). -/
def handMove (old : Conn) (s : State) : State := handConn old (handLength s)

/-! ### Handler commands (R59 to R64) -/

/-- A handler command of a payload, with its slot argument; none when it is malformed (R59). -/
def parseCommand : List Byte → Option (HandlerCode × Nat)
  | [c, slot] =>
    match HandlerCode.ofCode c.toNat with
    | some code => if code.hasSlot = true ∧ 63 < slot.toNat then none else some (code, slot.toNat)
    | none => none
  | _ => none

/-- The commands and reports with an error are counted (R59, R65). -/
def countHandlerError (s : State) : State :=
  s.onTracker fun t => { t with frameErrors := satAdd Config.count16Max t.frameErrors 1 }

/-- The reason of the first test that fails, none when all hold. -/
def firstFailing : List (Bool × Reason) → Option Reason
  | [] => none
  | (holds, reason) :: rest => if holds then firstFailing rest else some reason

/-- The pressure is at or below the bleed limit (R62). -/
def State.pressureBelowBleed (s : State) : Bool :=
  decide (s.smoothedOr0 inPressure ≤ (s.limits.bleed : Int))

/-- Neither pump is running and both commanded rates are 0 (R62). -/
def State.pumpsOff (s : State) : Bool :=
  !s.anyRunning && (s.pump 0).commanded == 0 && (s.pump 1).commanded == 0

/-- The hold's record came from `src`, in HEAD_OFF_HOLDING. -/
def Tracker.holdingFrom (t : Tracker) (src : Source) : Bool :=
  t.conn == .headOffHolding && t.hold.any (·.2 == src)

/-- The tests of a command in their order, each with the reason if it fails (R62, R63). -/
def commandTests (code : HandlerCode) (slot : Nat) (s : State) : List (Bool × Reason) :=
  let t := s.tracker
  let notBusy := (t.command.isNone, Reason.handlerBusy)
  let empty := (t.conn == .headOffEmpty, Reason.wrongState)
  let room := (decide (t.stack.length < Config.stackSize), Reason.stringFull)
  let slips := (s.slipsSet, Reason.slipsOpen)
  let still := (s.rotationStopped, Reason.rotating)
  match code with
  | .breakHead =>
    [notBusy, (t.conn == .headOn, .wrongState), slips, still, (s.pumpsOff, .pumpsOn),
     (s.fresh inPressure, .pressureUnknown), (s.pressureBelowBleed, .pressureHigh)]
  | .makeHead => [notBusy, empty]
  | .pick => [notBusy, empty, ((t.slot slot).isSome, .slotEmpty), room, slips]
  | .makeRod => [notBusy, (t.holdingFrom .rack, .wrongState), room, slips]
  | .breakRod => [notBusy, empty, (t.top.any (·.kind == .rod), .noRodOnTop), slips, still]
  | .lay => [notBusy, (t.holdingFrom .string, .wrongState), ((t.slot slot).isNone, .slotFull)]

/-- The refusal reason of a command, none when it passes (R61). -/
def judgeCommand (code : HandlerCode) (slot : Nat) (s : State) : Option Reason :=
  firstFailing (commandTests code slot s)

/-- The command is recorded as pending, and the handler timer started (R60, R64). -/
def recordCommand (code : HandlerCode) (slot : Nat) (s : State) : State :=
  s.onTracker fun t =>
    { t with command := some {
        code := code
        slot := if code.hasSlot then some slot else none
        recordedAt := s.mgmt.clock
        timeout := s.limits.timeout
        due := s.dueIn (1000 * s.limits.timeout) } }

/-- The pending command is cleared and its timer stopped (R60). -/
def clearCommand (s : State) : State := s.onTracker fun t => { t with command := none }

/-- A refused command is consumed and notified (R61). -/
def refuseCommand (code : HandlerCode) (r : Reason) (s : State) : State :=
  s.raise .interlockRefused code.code r.code

/-- A well-formed command in SUPERVISED or STANDBY: refused, or forwarded and recorded (R61, R64). -/
def judgedCommand (code : HandlerCode) (slot : Nat) (f : Frame) (s : State) : State :=
  match judgeCommand code slot s with
  | some r => refuseCommand code r s
  | none => recordCommand code slot (s.offerField f)

/-- A SETPOINT frame for the handler node, by the mode (R59). -/
def handlerFrame (f : Frame) (s : State) : State :=
  match s.mode with
  | .starting => s.offerField f
  | .monitor =>
    match parseCommand f.payload with
    | some (code, slot) => recordCommand code slot (s.offerField f)
    | none => s.offerField f
  | _ =>
    match parseCommand f.payload with
    | some (code, slot) => judgedCommand code slot f s
    | none => countHandlerError s

/-! ### Handler reports (R65 to R69) -/

/-- A handler report: code, slot argument, and whether the result is OK. -/
structure Report where
  code : HandlerCode
  slot : Nat
  ok : Bool
  deriving DecidableEq, Repr

/-- The report of a payload, none when it is not taken as one (R65). -/
def parseReport : List Byte → Option Report
  | [c, slot, result] =>
    match HandlerCode.ofCode c.toNat with
    | some code =>
      if result.toNat ≤ 1 then some ⟨code, slot.toNat, result.toNat == 0⟩ else none
    | none => none
  | _ => none

/-- The report matches the pending command (R65). -/
def Tracker.matchesReport (t : Tracker) (r : Report) : Bool :=
  match t.command with
  | some p => p.code == r.code && (p.slot == none || p.slot == some r.slot)
  | none => false

/-- The move of a matching OK report, none when its condition does not hold (R66). -/
def applyMove (code : HandlerCode) (slot : Nat) (t : Tracker) : Option Tracker :=
  match code with
  | .breakHead => if t.conn = .headOn then some { t with conn := t.headOff } else none
  | .makeHead => if t.conn = .headOffEmpty then some { t with conn := .headOn } else none
  | .pick =>
    match t.slot slot, t.hold with
    | some rod, none =>
      if t.conn = .headOffEmpty then
        some { t.setSlot slot none with hold := some (rod, .rack), conn := .headOffHolding }
      else none
    | _, _ => none
  | .makeRod =>
    match t.hold with
    | some (rod, .rack) =>
      if t.conn = .headOffHolding ∧ t.stack.length < Config.stackSize then
        some { t with
          stack := t.stack ++ [{ rod with runs := satAdd Config.count16Max rod.runs 1 }]
          hold := none
          conn := .headOffEmpty }
      else none
    | _ => none
  | .breakRod =>
    match t.top, t.hold with
    | some rod, none =>
      if t.conn = .headOffEmpty ∧ rod.kind = .rod then
        some { t with
          stack := t.stack.dropLast, hold := some (rod, .string), conn := .headOffHolding }
      else none
    | _, _ => none
  | .lay =>
    match t.hold with
    | some (rod, _) =>
      if (t.slot slot).isNone then
        some { t.setSlot slot (some rod) with
          hold := none, conn := if t.conn = .headOffHolding then .headOffEmpty else t.conn }
      else none
    | none => none

/-- The connection state after a mismatched OK report: the head commands are followed (R67). -/
def mismatchConn (code : HandlerCode) (t : Tracker) : Conn :=
  match code with
  | .breakHead => t.headOff
  | .makeHead => .headOn
  | _ => t.conn

/-- A mismatched OK report with its cause (R67). -/
def mismatch (code : HandlerCode) (cause : Nat) (s : State) : State :=
  let s1 := setTallyUncertain s
  let s2 := s1.onTracker fun t => { t with conn := mismatchConn code t }
  (handConn s.tracker.conn s2).raise .tallyMismatch code.code cause

/-- A matching OK report: the pending command is cleared, and its move applied where its condition
holds (R66), else it is a mismatch of cause CANNOT_APPLY. -/
def completeCommand (r : Report) (s : State) : State :=
  let s1 := clearCommand s
  match applyMove r.code r.slot s1.tracker with
  | some t => handMove s.tracker.conn (s1.onTracker fun _ => t)
  | none => mismatch r.code 3 s1

/-- An OK report (R66, R67). -/
def okReport (r : Report) (s : State) : State :=
  if s.tracker.matchesReport r then completeCommand r s
  else mismatch r.code (if s.tracker.command.isNone then 1 else 2) s

/-- A FAILED report (R68). -/
def failedReport (r : Report) (s : State) : State :=
  (if s.tracker.matchesReport r then clearCommand s else s).raise .handlerFailed r.code.code r.slot

/-- A STATUS frame from the handler node (R65). -/
def handlerReport (payload : List Byte) (s : State) : State :=
  match parseReport payload with
  | none => countHandlerError s
  | some r =>
    if s.mode = .starting then (if r.ok then setTallyUncertain s else s)
    else if r.ok then okReport r s
    else failedReport r s

/-- The expiry of the handler timer of the pending command (R69). -/
def handlerExpiry (p : PendingCommand) (s : State) : State :=
  (clearCommand s).raise .handlerTimeout p.code.code p.timeout

/-! ### Rotating seconds (R70) -/

/-- A second tick at the string stack. -/
def rotatingSecond (s : State) : State :=
  if s.mode ≠ .starting ∧ s.tracker.conn = .headOn ∧ s.rotationAbove = true then
    s.onTracker fun t =>
      { t with stack := t.stack.map fun r =>
          { r with seconds := satAdd Config.count32Max r.seconds 1 } }
  else s

/-! ### Requests (R71 to R76) -/

/-- A serial and a length that a record may have (R54). -/
def rodFits (serial length : Nat) : Bool :=
  decide (1 ≤ serial ∧ serial ≤ 999999 ∧ 300 ≤ length ∧ length ≤ 12000)

/-- The reply that carries a removed record (R72, R74). -/
def removedReply (r : Rod) : Reply :=
  replyWhole [fN 4 r.serial, fN 4 r.length, fN 4 r.seconds, fN 2 r.runs]

/-- RACK PUT (R71). -/
def doRackPut (slot serial length : Nat) (s : State) : State × Reply :=
  if 63 < slot ∨ rodFits serial length = false then refuse .refusedValue s
  else if s.tracker.command.isSome then refuse .refusedState s
  else if (s.tracker.slot slot).isSome then refuse .refusedState s
  else if s.tracker.holdsSerial serial then refuse .refusedValue s
  else (s.onTracker fun t => t.setSlot slot (some ⟨serial, .rod, length, 0, 0⟩), .plain .done)

/-- RACK TAKE (R72). -/
def doRackTake (slot : Nat) (s : State) : State × Reply :=
  if 63 < slot then refuse .refusedValue s
  else if s.tracker.command.isSome then refuse .refusedState s
  else
    match s.tracker.slot slot with
    | some r => (s.onTracker fun t => t.setSlot slot none, removedReply r)
    | none => refuse .refusedState s

/-- BHA ADD (R73). -/
def doBhaAdd (serial length : Nat) (s : State) : State × Reply :=
  if rodFits serial length = false then refuse .refusedValue s
  else if s.tracker.command.isSome then refuse .refusedState s
  else if s.tracker.conn ≠ .headOffEmpty ∨ s.tracker.hasRod = true ∨
      Config.bhaSize ≤ s.tracker.bhaCount then refuse .refusedState s
  else if s.tracker.holdsSerial serial then refuse .refusedValue s
  else
    (handLength (s.onTracker fun t => { t with stack := t.stack ++ [⟨serial, .bha, length, 0, 1⟩] }),
     .plain .done)

/-- BHA REMOVE (R74). -/
def doBhaRemove (s : State) : State × Reply :=
  if s.tracker.command.isSome then refuse .refusedState s
  else if s.tracker.conn ≠ .headOffEmpty ∨ s.tracker.hasRod = true then refuse .refusedState s
  else
    match s.tracker.top with
    | some r =>
      if r.kind = .bha then
        (handLength (s.onTracker fun t => { t with stack := t.stack.dropLast }), removedReply r)
      else refuse .refusedState s
    | none => refuse .refusedState s

/-- HOLD TO SLOT (R75). -/
def doHoldToSlot (slot : Nat) (s : State) : State × Reply :=
  if 63 < slot then refuse .refusedValue s
  else if s.tracker.command.isSome then refuse .refusedState s
  else
    match s.tracker.held with
    | some rod =>
      if (s.tracker.slot slot).isSome then refuse .refusedState s
      else
        (handConn s.tracker.conn (s.onTracker fun t =>
          { t.setSlot slot (some rod) with
            hold := none, conn := if t.conn = .headOffHolding then .headOffEmpty else t.conn }),
         .plain .done)
    | none => refuse .refusedState s

/-- TALLY CONFIRM (R76). -/
def doTallyConfirm (s : State) : State × Reply :=
  (s.onTracker fun t => { t with tallyUncertain := false }, .plain .done)

end Sys2Proof.Machine
end

