-- ==== Sys2Proof/Machine/TableLoads.lean ====
section
/-! DEFINITION. LOAD ROW of tables 1 to 7 and CLEAR TABLES: the row as loaded, the row as brought into
range, the refusals, and the effects of a load on the blocks. A reply is DONE_CLAMPED when the stored
row differs from the loaded one (R166). -/

namespace Sys2Proof.Machine

/-! ### Table 1, Settings (R167) -/

/-- The row as loaded. -/
def settingsLoaded (f : SettingsForm) (mode : Mode) : Settings where
  trunk := f.trunk.toNat
  startMode := mode
  period := f.period.toNat
  window := f.window.toNat
  settle := f.settle.toNat
  step := f.step.toNat
  fillMark := f.fillMark.toNat
  ticketBit := f.ticketBit.toNat
  flowback := f.flowback.toNat
  noiseFloor := f.noiseFloor.toNat

/-- The row brought into the ranges of section 11.3. -/
def Settings.inRange (r : Settings) : Settings where
  trunk := clampN 1 62 r.trunk
  startMode := r.startMode
  period := clampN 2 30 r.period
  window := clampN 4 16 r.window
  settle := clampN 1 30 r.settle
  step := clampN 250 2000 r.step
  fillMark := clampN 0 32 r.fillMark
  ticketBit := clampN 10 16 r.ticketBit
  flowback := clampN 0 120 r.flowback
  noiseFloor := clampN 0 2000 r.noiseFloor

/-- A start mode that may be loaded (R167). -/
def startModeOf (b : Byte) : Option Mode :=
  match b.toNat with
  | 1 => some .monitor
  | 2 => some .supervised
  | _ => none

/-- The Settings row is stored; a change of P or W clears the window and begins a period (R26, R167). -/
def storeSettings (r : Settings) (s : State) : State :=
  let s1 := s.onTables fun t => { t with settings := r }
  if r.period = s.settings.period ∧ r.window = s.settings.window then s1
  else react (clearByLoad false s1)

/-- LOAD ROW of table 1 (R167). -/
def doLoadSettings (row : Nat) (f : SettingsForm) (s : State) : State × Reply :=
  if 1 ≤ row then refuse .refusedUnknown s
  else
    match startModeOf f.startMode with
    | none => refuse .refusedValue s
    | some mode =>
      let r := settingsLoaded f mode
      (storeSettings r.inRange s, .plain (loadCode (decide (r.inRange ≠ r))))

/-! ### Table 2, Channel Map (R3 to R5) -/

/-- The row as loaded. -/
def channelLoaded (f : ChannelForm) : ChannelRow where
  enabled := yesNo f.enabled
  node := f.node.toNat
  kind := f.kind.toNat
  channel := f.channel.toNat
  gain := bvInt f.gain
  offset := bvInt f.offset
  low := bvInt f.low
  high := bvInt f.high
  depth := f.depth.toNat
  stale := f.stale.toNat
  mandatory := yesNo f.mandatory
  aux := f.aux.toNat

/-- The smoothing depth stored (R4). -/
def depthStored (n : Nat) : Nat :=
  if n ≤ 1 then 1 else if n < 4 then 2 else if n < 8 then 4 else 8

/-- The aux stored for an input (R4). -/
def auxStored (i : InputId) (a : Nat) : Nat :=
  if i = inHeadPos then clampN 100 20000 a
  else if 9 ≤ i.val then clampN 1 200000 a
  else a

/-- The row brought into range: the limits first, then the high limit against the low one (R4). -/
def ChannelRow.inRange (i : InputId) (r : ChannelRow) : ChannelRow :=
  let low := clampZ (-100000) 100000 r.low
  { r with
    offset := clampZ (-100000) 100000 r.offset
    low := low
    high := max low (clampZ (-100000) 100000 r.high)
    depth := depthStored r.depth
    stale := clampN 100 10000 r.stale
    aux := auxStored i r.aux }

/-- Two rows have the same source node, frame kind and channel (R3). -/
def ChannelRow.sameStream (a b : ChannelRow) : Bool :=
  a.node == b.node && a.kind == b.kind && a.channel == b.channel

/-- The identity checks of R3. -/
def State.channelFits (s : State) (i : InputId) (r : ChannelRow) : Bool :=
  decide (1 ≤ r.node ∧ r.node ≤ 62) && decide (r.kind = 1 ∨ r.kind = 2) && decide (r.channel ≤ 15) &&
    !(r.enabled && (List.finRange 13).any fun j =>
      j != i && (s.channel j).enabled && (s.channel j).sameStream r)

/-- The inputs whose load the Circulation Monitor is told of (R5). -/
def feedsBalance (i : InputId) : Bool :=
  i == inFlowOut || i == strokeInput 0 || i == strokeInput 1 || decide (9 ≤ i.val)

/-- The row is stored, and its input takes its load state with what follows from it (R5). -/
def storeChannel (i : InputId) (r : ChannelRow) (s : State) : State :=
  let s1 := (s.onTables fun t => { t with channels := t.channels.set i r }).onInput i
    fun _ => Input.afterLoad
  react (if feedsBalance i then clearByLoad (i == inFlowOut) s1 else s1)

/-- LOAD ROW of table 2 (R3 to R5). -/
def doLoadChannel (row : Nat) (f : ChannelForm) (s : State) : State × Reply :=
  if h : row < 13 then
    let r := channelLoaded f
    if s.channelFits ⟨row, h⟩ r then
      (storeChannel ⟨row, h⟩ (r.inRange ⟨row, h⟩) s,
       .plain (loadCode (decide (r.inRange ⟨row, h⟩ ≠ r))))
    else refuse .refusedValue s
  else refuse .refusedUnknown s

/-! ### Table 3, Pump Table (R38) -/

/-- The row as loaded. -/
def pumpLoaded (f : PumpForm) : PumpRow where
  node := f.node.toNat
  displacement := f.displacement.toNat
  efficiency := f.efficiency.toNat
  maxRate := f.maxRate.toNat
  rampRate := f.rampRate.toNat
  plausibility := f.plausibility.toNat

/-- The row brought into range (R38). -/
def PumpRow.inRange (r : PumpRow) : PumpRow :=
  { r with
    displacement := clampN 100 60000 r.displacement
    efficiency := clampN 50 100 r.efficiency
    maxRate := clampN 1 200 r.maxRate
    rampRate := clampN 1 50 r.rampRate
    plausibility := clampN 1 255 r.plausibility }

/-- The other pump. -/
def otherPump (p : PumpId) : PumpId := if p = 0 then 1 else 0

/-- The pump node may be stored in the row of pump `p` (R38). -/
def State.pumpNodeFits (s : State) (p : PumpId) (node : Nat) : Bool :=
  decide (node ≤ 62) &&
    (node == 0 || (node != (s.pumpRow (otherPump p)).node && node != s.limits.handler))

/-- The row is stored with the effects of R38 and R26. -/
def storePump (p : PumpId) (r : PumpRow) (s : State) : State :=
  let s1 := s.onTables fun t => { t with pumps := t.pumps.set p r }
  react (clearByLoad false (onPumpRow p (s.pumpRow p).node s1))

/-- LOAD ROW of table 3 (R38). -/
def doLoadPump (row : Nat) (f : PumpForm) (s : State) : State × Reply :=
  if h : row < 2 then
    let r := pumpLoaded f
    if s.pumpNodeFits ⟨row, h⟩ r.node then
      (storePump ⟨row, h⟩ r.inRange s, .plain (loadCode (decide (r.inRange ≠ r))))
    else refuse .refusedValue s
  else refuse .refusedUnknown s

/-! ### Table 4, Interlock Limits (R39) -/

/-- The row as loaded. -/
def limitsLoaded (f : LimitsForm) : Limits where
  trip := f.trip.toNat
  hysteresis := f.hysteresis.toNat
  warn := f.warn.toNat
  bleed := f.bleed.toNat
  stop := f.stop.toNat
  wob := f.wob.toNat
  distance := f.distance.toNat
  handler := f.handler.toNat
  timeout := f.timeout.toNat

/-- The row brought into range, in the order of R39. -/
def Limits.inRange (r : Limits) : Limits :=
  let trip := clampN 500 30000 r.trip
  { r with
    trip := trip
    hysteresis := min trip (clampN 100 5000 r.hysteresis)
    warn := clampN 0 trip r.warn
    bleed := clampN 0 1000 r.bleed
    stop := clampN 0 10 r.stop
    wob := clampN 5 500 r.wob
    distance := clampN 10 1000 r.distance
    timeout := clampN 10 300 r.timeout }

/-- The handler node may be stored (R39). -/
def State.handlerFits (s : State) (node : Nat) : Bool :=
  decide (node ≤ 62) &&
    (node == 0 || (node != (s.pumpRow 0).node && node != (s.pumpRow 1).node))

/-- The row is stored; a change of the handler node drops the pending command (R60), and the depth unit
re-evaluates (R86, R91). -/
def storeLimits (r : Limits) (s : State) : State :=
  let s1 := s.onTables fun t => { t with limits := r }
  react (if r.handler = s.limits.handler then s1 else clearCommand s1)

/-- LOAD ROW of table 4 (R39). -/
def doLoadLimits (row : Nat) (f : LimitsForm) (s : State) : State × Reply :=
  if 1 ≤ row then refuse .refusedUnknown s
  else
    let r := limitsLoaded f
    if s.handlerFits r.handler then
      (storeLimits r.inRange s, .plain (loadCode (decide (r.inRange ≠ r))))
    else refuse .refusedValue s

/-! ### Table 5, Circulation Thresholds (R34) -/

/-- The row as loaded. -/
def thresholdsLoaded (f : ThresholdForm) : Thresholds where
  lossWatch := f.lossWatch.toNat
  lossLevel := f.lossLevel.toNat
  gainWatch := f.gainWatch.toNat
  gainLevel := f.gainLevel.toNat
  ratio := f.ratio.toNat

/-- The row brought into range: the watch levels first (R34). -/
def Thresholds.inRange (r : Thresholds) : Thresholds :=
  let lossWatch := clampN 1000 10000000 r.lossWatch
  let gainWatch := clampN 1000 10000000 r.gainWatch
  { lossWatch := lossWatch
    lossLevel := clampN lossWatch 10000000 r.lossLevel
    gainWatch := gainWatch
    gainLevel := clampN gainWatch 10000000 r.gainLevel
    ratio := clampN 0 90 r.ratio }

/-- LOAD ROW of table 5 (R34). -/
def doLoadThresholds (row : Nat) (f : ThresholdForm) (s : State) : State × Reply :=
  if row < 16 then
    let r := thresholdsLoaded f
    (s.onTables fun t => { t with thresholds := t.thresholds.setIfInBounds row r.inRange },
     .plain (loadCode (decide (r.inRange ≠ r))))
  else refuse .refusedUnknown s

/-! ### Table 6, Strata Class Table (R105, R176) -/

/-- The row brought into range. -/
def classStored (f : ClassForm) : ClassRow where
  enabled := yesNo f.enabled
  code := min 14 f.code.toNat
  piLow := f.piLow.toNat
  piHigh := max f.piLow.toNat f.piHigh.toNat
  trLow := f.trLow.toNat
  trHigh := max f.trLow.toNat f.trHigh.toNat
  mask := f.mask.setWidth 10
  value := f.value.setWidth 10 &&& f.mask.setWidth 10

/-- A field of the loaded row was changed, the unassigned bits of the two flag sets among them (R176). -/
def classChanged (f : ClassForm) : Bool :=
  let r := classStored f
  r.code != f.code.toNat || r.piHigh != f.piHigh.toNat || r.trHigh != f.trHigh.toNat ||
    r.mask.toNat != f.mask.toNat || r.value.toNat != f.value.toNat

/-- LOAD ROW of table 6 (R105). -/
def doLoadClass (row : Nat) (f : ClassForm) (s : State) : State × Reply :=
  if row < 16 then
    (s.onTables fun t => { t with classes := t.classes.setIfInBounds row (classStored f) },
     .plain (loadCode (classChanged f)))
  else refuse .refusedUnknown s

/-! ### Table 7, Tariff Table (R131 to R133) -/

/-- The top of a money rate (section 8.3). -/
def rateTop : Nat := 1000000

/-- The row brought into range with the mark that the clamp changed a field; none for a kind or key out
of range (R131 test 4, R132). -/
def tariffStored (f : TariffForm) : Option (Tariff × Bool) :=
  let key := f.key.toNat
  let upTo := f.bandTo.toNat
  let rate := f.rate.toNat
  let rateCut := decide (rateTop < rate)
  match f.kind.toNat with
  | 0 => some (.empty, false)
  | 1 => if key ≤ 6 then some (.activity key (min rate rateTop), rateCut) else none
  | 2 => some (.band (min key 2000) (min upTo 2000) (min rate rateTop),
      rateCut || decide (2000 < key) || decide (2000 < upTo))
  | 3 => if key ≤ 15 then some (.surcharge key (min rate 300), decide (300 < rate)) else none
  | 4 => some (.mudLost (min rate rateTop), rateCut)
  | 5 => if 1 ≤ key ∧ key ≤ 255 then some (.product key (min rate rateTop), rateCut) else none
  | _ => none

/-- Two rows conflict (R131): the same key, two MUD_LOST rows, or two spans that overlap. -/
def Tariff.conflicts : Tariff → Tariff → Bool
  | .activity a _, .activity b _ => a == b
  | .surcharge a _, .surcharge b _ => a == b
  | .product a _, .product b _ => a == b
  | .mudLost _, .mudLost _ => true
  | .band f t _, .band g u _ => decide (f < u ∧ g < t)
  | _, _ => false

/-- A BAND row covers no depth (R131 test 6). -/
def Tariff.isEmptyBand : Tariff → Bool
  | .band f t _ => decide (t ≤ f)
  | _ => false

/-- The rows in other places than `row`. -/
def State.otherTariffs (s : State) (row : Nat) : List Tariff :=
  (s.tables.tariff.toList.zipIdx.filter fun q => q.2 != row).map (·.1)

/-- The row conflicts with another row, or is a ninth BAND row (R131). -/
def State.tariffConflict (s : State) (row : Nat) (r : Tariff) : Bool :=
  (s.otherTariffs row).any r.conflicts ||
    (r.band?.isSome && decide (8 ≤ (s.otherTariffs row).countP (·.band?.isSome)))

/-- LOAD ROW of table 7 (R131 to R133). -/
def doLoadTariff (row : Nat) (f : TariffForm) (s : State) : State × Reply :=
  if 23 < row then refuse .refusedUnknown s
  else if s.jobInProgress then refuse .refusedState s
  else
    match tariffStored f with
    | none => refuse .refusedValue s
    | some (r, changed) =>
      if r.isEmptyBand || s.tariffConflict row r then refuse .refusedValue s
      else
        (s.onTables fun t => { t with tariff := t.tariff.setIfInBounds row r },
         .plain (loadCode changed))

/-! ### CLEAR TABLES (R169) -/

/-- Every loadable table takes its defaults, and every row the effects of a load, up to the clearing of
the window (R5, R38, R60, R169). -/
def storeDefaults (s : State) : State :=
  let s1 := clearCommand { s with tables := .default, inputs := Vector.replicate 13 .afterLoad }
  onPumpRow 1 (s.pumpRow 1).node (onPumpRow 0 (s.pumpRow 0).node s1)

/-- CLEAR TABLES (R169). The loads of one event clear the window once, with the held mean (log 16). -/
def doClearTables (s : State) : State × Reply :=
  if s.jobInProgress then refuse .refusedState s
  else (react (clearByLoad true (storeDefaults s)), .plain .done)

end Sys2Proof.Machine
end

