-- ==== Sys2Proof/Machine/Modes.lean ====
section
/-! DEFINITION. Management: changes of mode, wakes, the completion of the retained-area checks, the end
of STARTING, and the resets (chapter 11). -/

namespace Sys2Proof.Machine

/-! ### Modes (R171, R172) -/

/-- The mode becomes `m`. -/
def setModeTo (m : Mode) (s : State) : State := s.onMgmt fun g => { g with mode := m }

/-- A wake ends STANDBY; in another mode it does nothing (R172). The depth unit re-evaluates after it, in
the event that wakes. -/
def wake (cause : WakeCause) (s : State) : State :=
  if s.mode = .standby then
    let m := s.mgmt.remembered.getD .monitor
    (leaveStandby (s.onMgmt fun g => { g with mode := m, remembered := none })).raise .wake
      cause.code m.code
  else s

/-- A change between MONITOR and SUPERVISED (R49, R50, R171). -/
def changeMode (m : Mode) (s : State) : State :=
  if s.mode = m then s
  else if m = .supervised then enterSupervised (setModeTo m s)
  else enterMonitor (setModeTo m s)

/-- The entry into STANDBY (R51, R171). -/
def goStandby (s : State) : State :=
  enterStandby (s.onMgmt fun g => { g with mode := .standby, remembered := some s.mode })

/-- SET MODE (R171). -/
def doSetMode (mode : Nat) (s : State) : State × Reply :=
  match Mode.ofCode mode with
  | none | some .starting => refuse .refusedValue s
  | some .standby =>
    if s.mode = .standby then (s, .plain .done)
    else if s.rotationAbove || s.anyRunning then refuse .refusedState s
    else (react (goStandby s), .plain .done)
  | some m =>
    if s.mode = m then (s, .plain .done)
    else (react (changeMode m (wake .request s)), .plain .done)

/-- SET TIME (R170). -/
def doSetTime (t : BitVec 32) (s : State) : State × Reply :=
  (s.onMgmt fun m => { m with siteTime := t, timeUnset := false }, .plain .done)

/-- RESTART marks a restart as due (R174). -/
def doRestart (s : State) : State × Reply :=
  (s.onMgmt fun m => { m with restartDue := true }, .plain .done)

/-! ### The end of STARTING (R173) -/

/-- Every input whose row is enabled and mandatory is FRESH. -/
def State.mandatoryFresh (s : State) : Bool :=
  (List.finRange 13).all fun i =>
    !((s.channel i).enabled && (s.channel i).mandatory) || s.fresh i

/-- STARTING ends now (R173). -/
def State.startingEnds (s : State) : Bool :=
  s.mode == .starting && s.mgmt.checksDone && (s.mandatoryFresh || s.mgmt.holdExpired)

/-- The start mode is entered and the blocks begin their work, in the order of R173: the period timer
and the pumps-off mark, Pump Control, the depth unit's heights, the recorder's mark, the activity, and
then START_COMPLETE. -/
def endStarting (s : State) : State :=
  let s1 := s.onMgmt fun m =>
    { m with mode := s.settings.startMode, holdDue := none, holdExpired := false }
  let s2 := (beginPeriod s1).onCirc fun c => { c with pumpsOffAt := some s.mgmt.clock }
  let s3 := if s.settings.startMode = .supervised then enterSupervised s2 else s2
  let s4 := startMovementPeriod s3
  let s5 := if s4.depthUncertain then markDepthUncertain s4 else s4
  (react s5).raise .startComplete s.mgmt.cause.code (lostCode s.mgmt.lost)

/-- The test of the end of STARTING at an event that can complete its condition (log 5). -/
def checkStarting (s : State) : State := if s.startingEnds then endStarting s else s

/-! ### The retained-area checks (R174) -/

/-- The TABLES area is restored: defaults, with the effects of a load, before STARTING ends (R5, R38). -/
def restoreTables (s : State) : State := storeDefaults s

/-- The STRING area is restored, and L and the connection state are handed on (R78). -/
def restoreString (s : State) : State :=
  handMove s.tracker.conn (s.onTracker fun t =>
    { Tracker.default with command := t.command, frameErrors := t.frameErrors })

/-- The DEPTH area is restored (R96). The volatile items stand: a first-report mark already cleared and a
freeze already taken in STARTING stay as they are (log 37). -/
def restoreDepth (s : State) : State :=
  s.onDepth fun d =>
    { d with
      head := 0, residue := 0, lastCount := 0, corr := 0, hole := 0, freeHookload := 0
      encoderUncertain := true, anchorUncertain := false }

/-- The JOB area is restored: the recorder, the banks and the meter (R97, R115, R126). -/
def restoreJob (s : State) : State :=
  { s with recorder := .default, banks := Vector.replicate 2 .free, billing := .default }

/-- The areas lost: JOB is lost too when TABLES fails while a job is in progress (R126). -/
def lostAreas (failed : FailedAreas) (s : State) : FailedAreas :=
  { failed with job := failed.job || (failed.tables && s.jobInProgress) }

/-- The areas that are lost are restored, in the order of R174. -/
def restoreAreas (lost : FailedAreas) (s : State) : State :=
  let s1 := if lost.tables then restoreTables s else s
  let s2 := if lost.string then restoreString s1 else s1
  let s3 := if lost.depth then restoreDepth s2 else s2
  if lost.job then restoreJob s3 else s3

/-- The completion of the checks, an event of STARTING (R173, R174). -/
def completeChecks (failed : FailedAreas) (s : State) : State :=
  if s.mode = .starting ∧ s.mgmt.checksDone = false then
    let lost := lostAreas failed s
    checkStarting ((restoreAreas lost s).onMgmt fun m =>
      { m with checksDone := true, lost := lost })
  else s

end Sys2Proof.Machine
end

