-- ==== Sys2Proof/Machine/Conditioner.lean ====
section
/-! DEFINITION. The Channel Conditioner: the row a frame matches, raw values, conditioning and smoothing,
counter inputs, delivery to the consumers, and the expiry of stale and running timers (chapter 1). -/

namespace Sys2Proof.Machine

/-! ### Matching and raw values (R1, R2) -/

/-- The frame matches the row (R1). -/
def ChannelRow.takes (r : ChannelRow) (f : Frame) : Bool :=
  r.enabled && f.src.val == r.node && f.kind.code.toNat == r.kind && f.tag.toNat == r.channel

/-- The input that takes a field frame (R1). -/
def State.inputOf (s : State) (f : Frame) : Option InputId :=
  (List.finRange 13).find? fun i => (s.channel i).takes f

/-- The pump of a stroke input. -/
def pumpOf (i : InputId) : Option PumpId :=
  if i = strokeInput 0 then some 0 else if i = strokeInput 1 then some 1 else none

/-- A counter input (section 1.1). -/
def isCounter (i : InputId) : Bool := i == inHeadPos || (pumpOf i).isSome

/-- The raw value of a payload, none when the input refuses its length (R2). -/
def rawOf (i : InputId) (payload : List Byte) : Option Int :=
  if i = inHeadPos then (if payload.length = 4 then some (intOfBytes payload) else none)
  else if (pumpOf i).isSome then
    (if payload.length = 2 then some (natOfBytes payload : Int) else none)
  else if payload.length = 2 ∨ payload.length = 4 then some (intOfBytes payload)
  else none

/-! ### Conditioning and smoothing (R6, R7, R10) -/

/-- The unlimited value of R6: truncated toward minus infinity. -/
def unlimited (r : ChannelRow) (x : Int) : Int := (x * r.gain).fdiv 1024 + r.offset

/-- The conditioned value of R6. -/
def conditioned (r : ChannelRow) (x : Int) : Int := clampZ r.low r.high (unlimited r x)

/-- A value enters the smoothing ring of depth `n`; the oldest leaves a full ring (R7). -/
def pushRing (n : Nat) (ring : List Int) (v : Int) : List Int :=
  if n ≤ ring.length then ring.tail ++ [v] else ring ++ [v]

/-- The smoothed value: the mean of the filled entries, truncated toward zero (R7). -/
def smoothedOf (ring : List Int) : Option Int :=
  if ring.isEmpty then none else some (ring.sum.tdiv ring.length)

/-- An acceptance makes the input FRESH and starts its stale timer (R9). -/
def freshen (i : InputId) (s : State) : State :=
  s.onInput i fun u =>
    { u with
      state := .fresh
      staleDue := some (s.dueIn (s.channel i).stale)
      acceptedAt := some s.mgmt.clock }

/-- A value input takes a raw value; a return from STALE empties the ring first (R6, R7, R10). -/
def takeValue (i : InputId) (x : Int) (s : State) : State :=
  let r := s.channel i
  s.onInput i fun u =>
    let ring := pushRing r.depth (if u.state = .stale then [] else u.ring) (conditioned r x)
    { u with
      lastRaw := some x
      lastConditioned := some (conditioned r x)
      clamped := decide (conditioned r x ≠ unlimited r x)
      ring := ring
      smoothed := smoothedOf ring }

/-! ### Delivery (R8, R12 to R14) -/

/-- An acceptance of ROTARY_SPEED can wake the part (R172). -/
def wakeByRotation (s : State) : State := if s.rotationAbove then wake .rotation s else s

/-- The delivery of an acceptance by a value input to its consumers, with this acceptance's conditioned
value (R8). -/
def deliver (i : InputId) (v : Int) (s : State) : State :=
  if i = inHookload then react (onHookload s)
  else if i = inRotary then react (wakeByRotation s)
  else if i = inPressure then onPressure v s
  else if i = inFlowOut then collectFlow s
  else if i = inSlips then react (onSlips s.slipsReadsOne s)
  else s

/-- An acceptance by a value input. -/
def acceptValue (i : InputId) (x : Int) (s : State) : State :=
  deliver i (conditioned (s.channel i) x) (freshen i (takeValue i x s))

/-- The stroke delta of R12. -/
def strokeDelta (c last : Nat) : Nat := (c + 65536 - last) % 65536

/-- The running timer of a pump is restarted (R14); a start of running can wake the part (R172). -/
def startRunning (p : PumpId) (s : State) : State :=
  let s1 := s.onInput (strokeInput p) fun u =>
    { u with runningDue := some (s.dueIn Config.runningTime) }
  if s.running p then s1 else wake .strokes s1

/-- An acceptance by a stroke input (R12, R14, R19). -/
def acceptStrokes (p : PumpId) (c : Nat) (s : State) : State :=
  let i := strokeInput p
  let s1 := freshen i (s.onInput i fun u => { u with lastRaw := some (c : Int), lastCount := some c })
  match (s.input i).lastCount with
  | none => s1
  | some last =>
    let d := strokeDelta c last
    let s2 := collectStrokes p d s1
    react (if 0 < d then startRunning p s2 else s2)

/-- An acceptance by HEAD_POS: a report with a difference, or after a row load a resynchronising one
(R13, R80, R82). R80 names the test of R88 too; the free hookload is taken at HOOKLOAD acceptances alone, as
R88 says (log 47). -/
def acceptHead (n : Int) (s : State) : State :=
  let s1 := freshen inHeadPos (s.onInput inHeadPos fun u =>
    { u with lastRaw := some n, historyDropped := false })
  react (if (s.input inHeadPos).historyDropped then onHeadResync n s1 else onHeadReport n s1)

/-- An acceptance, by the kind of the input. -/
def accept (i : InputId) (x : Int) (s : State) : State :=
  match pumpOf i with
  | some p => acceptStrokes p x.toNat s
  | none => if i = inHeadPos then acceptHead x s else acceptValue i x s

/-- A frame refused by the input is counted (R2). -/
def countRefused (i : InputId) (s : State) : State :=
  s.onInput i fun u => { u with refused := satAdd Config.count16Max u.refused 1 }

/-- A field frame at the conditioner: taken by at most one input (R1, R2). -/
def condition (f : Frame) (s : State) : State :=
  match s.inputOf f with
  | none => s
  | some i =>
    match rawOf i f.payload with
    | some x => accept i x s
    | none => countRefused i s

/-! ### Expiries (R9 to R11, R14) -/

/-- The held value INPUT_LOST carries (R11). -/
def State.heldValue (s : State) (i : InputId) : Int :=
  if i = inHeadPos then s.depth.lastCount
  else if (pumpOf i).isSome then (((s.input i).lastCount).getD 0 : Nat)
  else s.smoothedOr0 i

/-- The expiry of an input's stale timer: STALE, with INPUT_LOST for a mandatory row (R9, R11). -/
def goStale (i : InputId) (s : State) : State :=
  let s1 := s.onInput i fun u => { u with state := .stale, staleDue := none }
  react (if (s.channel i).mandatory then s1.raise .inputLost i.val (s.heldValue i) else s1)

/-- The expiry of a pump's running timer (R14). -/
def stopRunning (p : PumpId) (s : State) : State :=
  react (s.onInput (strokeInput p) fun u => { u with runningDue := none })

end Sys2Proof.Machine
end

