-- ==== Sys2Proof/Machine/JobRequests.lean ====
section
/-! DEFINITION. The requests that act on depth, the pressure trip, the banks, the job and its tickets
(R46, R90, R122, R127 to R130, R140, R144, R150). -/

namespace Sys2Proof.Machine

/-- TRIP RESET (R46). -/
def doTripReset (s : State) : State × Reply :=
  if s.pressureBled then (resetTrip s, .plain .done) else refuse .refusedState s

/-- DEPTH CORRECT (R90). -/
def doDepthCorrect (new : Int) (s : State) : State × Reply :=
  if new < 0 ∨ 2000000 < new then refuse .refusedValue s
  else if s.onBottom then refuse .refusedState s
  else if s.recorder.extending then refuse .refusedState s
  else (correctDepth new s, .plain .done)

/-- RELEASE BANK (R122). -/
def doReleaseBank (bank : Nat) (s : State) : State × Reply :=
  if h : bank < 2 then
    if s.banks[bank].state = .full then (releaseFullBank ⟨bank, h⟩ s, .plain .done)
    else refuse .refusedState s
  else refuse .refusedValue s

/-- The job and its accumulators at JOB OPEN (R127). -/
def openJob (number customer : Nat) (s : State) : State :=
  s.onBilling fun b =>
    { b with
      job := {
        number := number
        customer := customer
        state := .opened
        opened := s.now
        startDepth := s.depth.hole
        billedMark := s.depth.hole
        metered := 0
        closingInterval := false
        ticketCounter := 0
        billedTotal := 0
        lastTicketTo := s.now }
      acc := .zero
      deferred := false
      cadencePending := false }

/-- JOB OPEN (R127): the job, then bank A, then the recorder (R110, R116). -/
def doJobOpen (number customer : Nat) (s : State) : State × Reply :=
  if number < 1 ∨ 999999 < number ∨ customer < 1 ∨ 65535 < customer then refuse .refusedValue s
  else if s.jobInProgress then refuse .refusedState s
  else if s.banks[0].state ≠ .free ∨ s.banks[1].state ≠ .free then refuse .refusedState s
  else if s.billing.tickets ≠ [] then refuse .refusedState s
  else
    (recorderJobOpen ((openJob number customer s).onBank 0 fun _ => Bank.startFilling),
     .plain .done)

/-- JOB SUSPEND (R128). -/
def doJobSuspend (s : State) : State × Reply :=
  if s.job.state = .opened then (s.onJob fun j => { j with state := .suspended }, .plain .done)
  else refuse .refusedState s

/-- JOB RESUME (R129). -/
def doJobResume (s : State) : State × Reply :=
  if s.job.state = .suspended then (s.onJob fun j => { j with state := .opened }, .plain .done)
  else refuse .refusedState s

/-- JOB CLOSE (R130): the recorder first, then CLOSING, then the final ticket when it is due. -/
def doJobClose (s : State) : State × Reply :=
  if s.job.state = .opened ∨ s.job.state = .suspended then
    (finalTicketIfDue ((recorderJobClose s).onJob fun j => { j with state := .closing }),
     .plain .done)
  else refuse .refusedState s

/-- MUD ADDITION (R140). -/
def doMudAddition (code quantity : Nat) (s : State) : State × Reply :=
  if code < 1 ∨ 255 < code ∨ quantity < 1 ∨ 1000 < quantity then refuse .refusedValue s
  else if s.job.state ≠ .opened then refuse .refusedState s
  else
    match s.productRate code with
    | none => refuse .refusedValue s
    | some rate =>
      (s.onBilling fun b =>
        { b with acc := { b.acc with
            products := satAdd Config.moneyMax b.acc.products (quantity * rate)
            additions := satAdd Config.count16Max b.acc.additions 1 } },
       .plain .done)

/-- TICKET NOW (R144, R147): the reply carries the issued ticket's number, absent when deferred, in 4
bytes, since no kind of R177 names it (log 13). -/
def doTicketNow (s : State) : State × Reply :=
  if (s.job.state = .opened ∨ s.job.state = .suspended) ∧
      s.job.ticketCounter < Config.ticketCounterStop then
    (ticketDue false s,
     replyWhole [oN 4 (if s.billing.tickets.length < Config.ticketStoreSize then
       some (s.nextTicketNumber false) else none)])
  else refuse .refusedState s

/-- What a release does once the oldest ticket has left the store (R150). -/
def afterRelease (s : State) : State :=
  if s.billing.deferred then
    match s.job.state with
    | .opened | .suspended => issueTicket false s
    | .closing => if s.job.closingInterval then issueTicket true s else s
    | _ => s
  else s

/-- RELEASE TICKET (R150). -/
def doReleaseTicket (number : Nat) (s : State) : State × Reply :=
  match s.billing.tickets with
  | t :: rest =>
    if t.number = number then
      (afterRelease (s.onBilling fun b => { b with tickets := rest }), .plain .done)
    else refuse .refusedValue s
  | [] => refuse .refusedValue s

end Sys2Proof.Machine
end

