-- ==== Sys2Proof/Machine/Reads.lean ====
section
/-! DEFINITION. The replies of the READ requests and of IDENTIFY: each reply's fields in the order its
rule lists them, at the widths of R177 (log 13). -/

namespace Sys2Proof.Machine

/-- A time or count as a field that saturates at 65535 carries it (R177). -/
def sat16 (n : Nat) : Nat := min n Config.count16Max

/-! ### Management (R168, R175, R166) -/

/-- IDENTIFY (R168). -/
def doIdentify (s : State) : State × Reply :=
  (s, replyWhole [fN 1 Config.vendorCode, fN 4 Config.partCode, fN 4 Config.revision,
    fN 4 Config.serial])

/-- READ STATUS's fields (R175). The counts of the field port stand before those of the cab port, the drops
toward the cab before those toward the field, and bank A before bank B (log 43). -/
def statusFields (s : State) : List Field :=
  [fN 1 s.mode.code, oN 1 (s.mgmt.remembered.map Mode.code), fN 1 s.settings.startMode.code,
   fN 1 s.mgmt.cause.code, fB s.mgmt.lost.tables, fB s.mgmt.lost.string, fB s.mgmt.lost.depth,
   fB s.mgmt.lost.job, fN 4 s.mgmt.siteTime.toNat, fB s.mgmt.timeUnset, fN 1 s.circ.state.code,
   fN 1 s.depth.taken.code.val, fN 1 s.tracker.conn.code, fB s.pumpCtl.tripLatch,
   oZ 4 s.pumpCtl.tripPressure, fN 1 s.job.state.code, fB s.job.closingInterval,
   fB s.billing.deferred, fN 1 s.billing.tickets.length, fN 1 s.banks[0].state.code,
   fN 1 s.banks[0].records.length, fN 1 s.banks[1].state.code, fN 1 s.banks[1].records.length,
   fN 2 s.trunk.fieldErrors, fN 2 s.trunk.cabErrors, fN 2 s.trunk.dropsToCab,
   fN 2 s.trunk.dropsToField, fB s.trunk.overflow]

/-- READ STATUS: the reply carries the overflow flag, and the flag is then cleared (R162, R175). -/
def doReadStatus (part : Nat) (s : State) : State × Reply :=
  let r := replyPart (statusFields s) part
  if r.code = .done then (s.onTrunk fun t => { t with overflow := false }, r) else (s, r)

/-- The row form of a table's row, none for an unknown table or row (R166, section 12.4). -/
def rowForm (s : State) (table row : Nat) : Option (List Byte) :=
  match table with
  | 1 => if row = 0 then some s.settings.form else none
  | 2 => s.tables.channels[row]?.map ChannelRow.form
  | 3 => s.tables.pumps[row]?.map PumpRow.form
  | 4 => if row = 0 then some s.limits.form else none
  | 5 => s.tables.thresholds[row]?.map Thresholds.form
  | 6 => s.tables.classes[row]?.map ClassRow.form
  | 7 => s.tables.tariff[row]?.map Tariff.form
  | 8 => if row = 0 then some identityForm else none
  | _ => none

/-- READ ROW (R166): one part, of the reply code, the table, the row and the row form (R177). An unknown
table or row is refused before the part is judged (log 26). -/
def doReadRow (table row part : Nat) (s : State) : State × Reply :=
  match rowForm s table row with
  | none => refuse .refusedUnknown s
  | some form =>
    if part = 0 then (s, ⟨.done, bytesOfNat 1 table ++ bytesOfNat 1 row ++ form⟩)
    else refuse .refusedValue s

/-! ### Inputs (R16) -/

/-- The fields every input has. -/
def inputCommon (i : InputId) (s : State) : List Field :=
  [fN 1 i.val, fN 1 (Config.inputKindCode (isCounter i).toNat).val, fB (s.channel i).enabled,
   fN 1 (s.input i).state.freeCode, fN 2 (s.input i).refused,
   oN 2 ((s.input i).acceptedAt.map fun t => sat16 (s.mgmt.clock - t))]

/-- The fields of the input's kind. The last count of a stroke input wraps and saturates nowhere, so no
kind of R177 names it and it has 4 bytes (log 13). -/
def inputOwn (i : InputId) (s : State) : List Field :=
  let u := s.input i
  match pumpOf i with
  | some p => [oN 4 u.lastCount, fB (s.running p)]
  | none =>
    if i = inHeadPos then [oZ 4 u.lastRaw, fB u.historyDropped]
    else
      let shown (v : Option Int) : Option Int := if u.ring.isEmpty then none else v
      [fB u.clamped, fN 1 u.ring.length, oZ 4 (shown u.lastRaw), oZ 4 (shown u.lastConditioned),
       oZ 4 (shown u.smoothed)]

/-- READ INPUT (R16). An unknown index is refused before the part is judged (log 26). -/
def doReadInput (index part : Nat) (s : State) : State × Reply :=
  if h : index < 13 then (s, replyPart (inputCommon ⟨index, h⟩ s ++ inputOwn ⟨index, h⟩ s) part)
  else refuse .refusedUnknown s

/-! ### Circulation (R37) -/

/-- The largest R that READ BALANCE reports (R24). -/
def balanceTop : Int := 10 ^ 12

/-- The summary's fields. P is a time that does not saturate, so no kind of R177 names it and it has 4
bytes; nor do the held count and the FLOW_OUT value count, which have no bound, and they have 4 too (log 13).
R and the window sums in 6 bytes are sent signed (log 46). -/
def balanceSummary (s : State) : List Field :=
  let c := s.circ
  let since : Option Nat :=
    if c.state = .pumpsOff ∨ c.state = .flowing then
      c.pumpsOffAt.map fun t => sat16 ((s.mgmt.clock - t) / 1000)
    else none
  [fN 1 c.state.code, fN 1 c.window.length, fN 1 s.settings.window, fN 4 s.settings.period,
   fZ 6 (clampZ (-balanceTop) balanceTop c.sumR), fZ 6 c.sumIn, fZ 6 c.sumOut, fZ 4 s.lossRate,
   fN 4 c.carryIn, fN 4 c.carryOut, fN 1 c.flowing, fN 4 c.held, fN 1 s.recorder.currentClass.val,
   oN 4 c.heldMean, oN 2 since, fN 2 (sat16 c.strokes1), fN 2 (sat16 c.strokes2),
   fN 4 c.flowCount]

/-- A record's fields. -/
def balanceRecord (r : PeriodRecord) : List Field :=
  [fN 4 r.vin, fZ 4 r.vout, fZ 4 r.balance, fB r.held, fB r.pitDerived]

/-- READ BALANCE (R37): index 0 the summary, index k the k-th newest record. An index above 16 is refused before
the part is judged (log 26). -/
def doReadBalance (index part : Nat) (s : State) : State × Reply :=
  if index = 0 then (s, replyPart (balanceSummary s) part)
  else if 16 < index then refuse .refusedUnknown s
  else
    match s.circ.window.reverse[index - 1]? with
    | some r => (s, replyPart (balanceRecord r) part)
    | none => refuse .refusedValue s

/-! ### Pumps (R52) -/

/-- A pump's fields. -/
def pumpFields (p : PumpId) (s : State) : List Field :=
  let u := s.pump p
  [fN 1 (s.pumpRow p).node, fN 1 u.requested, fN 1 u.commanded, fN 1 u.control.code,
   fN 1 u.notFollowing, fB u.saturated, oN 1 u.nodeRate, oN 1 u.measured, fB (s.running p)]

/-- READ PUMPS (R52). -/
def doReadPumps (part : Nat) (s : State) : State × Reply :=
  let u := s.input inPressure
  (s, replyPart (pumpFields 0 s ++ pumpFields 1 s ++
    [fB s.pumpCtl.tripLatch, oZ 4 s.pumpCtl.tripPressure, oZ 4 u.lastConditioned, oZ 4 u.smoothed,
     fN 1 u.state.freeCode, fN 1 s.trunk.setpoints.length, fN 2 s.pumpCtl.badSetpoints]) part)

/-! ### Rods (R77) -/

/-- READ RACK (R77). The mark that the slot is empty is sent for every slot, as a yes/no field that is
never absent (log 34); the fields of the record are absent for an empty slot. -/
def doReadRack (slot part : Nat) (s : State) : State × Reply :=
  if 63 < slot then refuse .refusedValue s
  else
    let r := s.tracker.slot slot
    (s, replyPart [fN 1 slot, fB r.isNone, oN 4 (r.map Rod.serial), oN 4 (r.map Rod.length),
      oN 4 (r.map Rod.seconds), oN 2 (r.map Rod.runs)] part)

/-- The summary of the tracker (R77). The hold is sent as serial, kind, length, rotating seconds, runs and
source, each a field that may be absent, with no mark that the hold is empty (log 41). The slot of a pending
command that holds none is absent under a bit of its own (log 45). -/
def stringSummary (s : State) : List Field :=
  let t := s.tracker
  let h := t.held
  [fN 1 t.conn.code, fN 1 t.stack.length, fN 1 t.bhaCount, fZ 4 t.length,
   oN 4 (h.map Rod.serial), oN 1 (h.map fun r => r.kind.freeCode), oN 4 (h.map Rod.length),
   oN 4 (h.map Rod.seconds), oN 2 (h.map Rod.runs), oN 1 (t.hold.map fun q => q.2.freeCode),
   oN 1 (t.command.map fun c => c.code.code), oN 1 (t.command.bind PendingCommand.slot),
   oN 2 (t.command.map fun c => sat16 (s.mgmt.clock - c.recordedAt)), fB t.tallyUncertain,
   fN 1 (t.rack.toList.filterMap id).length, fN 2 t.frameErrors]

/-- The stack entry at an index, absent beyond the stack (R77). -/
def entryFields (r : Option Rod) : List Field :=
  [oN 1 (r.map fun r => r.kind.freeCode), oN 4 (r.map Rod.serial), oN 4 (r.map Rod.length),
   oN 4 (r.map Rod.seconds), oN 2 (r.map Rod.runs)]

/-- READ STRING (R77). -/
def doReadString (index part : Nat) (s : State) : State × Reply :=
  if 127 < index then refuse .refusedValue s
  else (s, replyPart (stringSummary s ++ entryFields s.tracker.stack[index]?) part)

/-! ### Depth (R95) -/

/-- READ DEPTH (R95). The milliseconds left on the settle timer are a time that R95 does not saturate, so
no kind of R177 names them and they have 4 bytes (log 13). -/
def doReadDepth (part : Nat) (s : State) : State × Reply :=
  let d := s.depth
  (s, replyPart [fZ 4 d.head, fZ 4 d.residue, fZ 4 d.lastCount, fB d.firstReport,
    fZ 4 d.stringLength, fZ 4 d.corr, fZ 4 d.bit, fB d.freeze.isSome, oZ 4 d.freeze, fZ 4 d.hole,
    fZ 4 d.freeHookload, fZ 4 s.wob, fB s.onBottom, fB d.encoderUncertain, fB d.anchorUncertain,
    oZ 4 d.movement, oZ 4 d.lastMovement, fN 1 d.indicated.code.val, fN 1 d.taken.code.val,
    oN 4 (d.settleDue.map fun t => t - s.mgmt.clock)] part)

/-! ### Strata (R113, R120, R121) -/

/-- The preview of a close at D, its class with it, absent when D is at or below the top (R113, log 35).
The class is tested with the flags of the open interval and those of R103, without PARTIAL or EXTENDED
(log 42). -/
def State.preview (s : State) : Option ClosedRecord :=
  match s.recorder.interval with
  | some i => if i.top < s.depth.hole then some (closedRecord i s.depth.hole s) else none
  | none => none

/-- READ INTERVAL (R113). The interval number is of no kind R177 names and has 4 bytes (log 13). The
previewed class is absent with the previewed means, under a presence bit of its own (log 35). The rpm mean in
2 bytes and the sums in 8 are sent signed (log 46). -/
def doReadInterval (part : Nat) (s : State) : State × Reply :=
  let r := s.recorder
  let i := r.interval
  let m := s.preview.bind ClosedRecord.means
  (s, replyPart
    [fN 1 (Config.intervalStateCode i.isSome.toNat).val,
     fN 1 (Config.extensionStateCode r.extending.toNat).val, fB r.overdue, fB r.closingMark,
     fN 1 r.currentClass.val, fN 2 r.closedCount, fN 4 s.settings.step,
     oN 4 (i.map Interval.number), oZ 4 (i.map Interval.top), oZ 4 (i.map Interval.target),
     oN 4 (i.map Interval.seconds), oZ 8 (i.map Interval.wobSum), oZ 8 (i.map Interval.torqueSum),
     oZ 8 (i.map Interval.rpmSum), oZ 8 (i.map Interval.pressureSum), oN 4 (i.map Interval.loss),
     oN 4 (i.map Interval.gain), oN 2 (i.map fun i => i.flags.toNat),
     oN 4 (i.map fun i => i.openTime.toNat), oZ 4 (m.map Means.wob), oZ 4 (m.map Means.torque),
     oZ 2 (m.map Means.rpm), oZ 4 (m.map Means.pressure), oN 2 (m.map Means.rop),
     oN 2 (m.map Means.pi), oN 2 (m.map Means.tr),
     oN 1 (s.preview.map fun c => c.cls.val)] part)

/-- The fields of one of the three parts of a stored record, none for another part (section 12.3). The sums
in 8 bytes are sent signed (log 46). -/
def recordPart (r : ClosedRecord) : Nat → Option (List Field)
  | 0 => some [fN 2 r.interval.number, fZ 4 r.interval.top, fZ 4 r.bottom, fN 1 r.cls.val,
      fN 2 r.interval.flags.toNat, fN 4 r.interval.seconds, fN 4 r.interval.loss,
      fN 4 r.interval.gain, fN 4 r.interval.openTime.toNat, fN 4 r.closeTime.toNat]
  | 1 => some [fN 2 r.interval.number, fZ 8 r.interval.wobSum, fZ 8 r.interval.torqueSum,
      fZ 8 r.interval.rpmSum, fZ 8 r.interval.pressureSum]
  | 2 =>
    let m := r.means.getD ⟨0, 0, 0, 0, 0, 0, 0⟩
    some [fN 2 r.interval.number, fZ 4 m.wob, fZ 4 m.torque, fZ 4 m.rpm, fZ 4 m.pressure,
      fN 2 m.rop, fN 2 m.pi, fN 2 m.tr]
  | _ => none

/-- The bank of a bank code. -/
def bankOf (code : Nat) : Option (Fin 2) :=
  match code with
  | 0 => some 0
  | 1 => some 1
  | _ => none

/-- The head of a READ RECORD part after its reply code (section 12.3). -/
def recordHead (b : Fin 2) (part : Nat) (s : State) : List Field :=
  let k := s.banks[b]
  let o := s.banks[otherBank b]
  [fN 1 part, fN 1 b.val, fN 1 k.state.code, fN 1 k.records.length, fB k.fillMarked,
   fN 1 o.state.code, fN 1 o.records.length]

/-- The summary form, index 255 (R121): the three fields of bank A, then those of bank B (log 36). -/
def bankSummary (s : State) : List Field :=
  let bank (k : Bank) : List Field := [fN 1 k.state.code, fN 1 k.records.length, fB k.fillMarked]
  bank s.banks[0] ++ bank s.banks[1] ++
    [fN 1 s.job.state.code, fN 1 (Config.extensionStateCode s.recorder.extending.toNat).val,
     fB s.recorder.overdue]

/-- READ RECORD (R120, R121). A FREE bank holds no records, so no index is below its count. -/
def doReadRecord (bank index part : Nat) (s : State) : State × Reply :=
  if index = 255 then (s, replyPart (bankSummary s) part)
  else
    match bankOf bank with
    | none => refuse .refusedValue s
    | some b =>
      if s.banks[b].state = .free then refuse .refusedValue s
      else
        match s.banks[b].records[index]?.bind fun r => recordPart r part with
        | some fs => (s, ⟨.done, formBytes (recordHead b part s ++ fs)⟩)
        | none => refuse .refusedValue s

/-! ### The job and its tickets (R141, R151) -/

/-- READ JOB's fields (R141); the order of the previewed charges is that of log 43. -/
def jobFields (s : State) : List Field :=
  let j := s.job
  let a := s.billing.acc
  let c := s.charges
  [fN 4 j.number, fN 4 j.customer, fN 1 j.state.code, fN 4 j.opened.time.toNat, fB j.opened.unset,
   fZ 4 j.startDepth, fZ 4 j.billedMark, fN 4 j.metered, fB j.closingInterval,
   fN 2 j.ticketCounter, fN 6 j.billedTotal] ++
  ((List.finRange 7).flatMap fun k =>
    [fN 4 a.seconds[k], fN 4 a.carries[k], fN 4 (s.activityRate k.val)]) ++
  [fN 1 s.bands.length] ++
  ((s.bands.zipIdx).flatMap fun q =>
    [fN 4 q.1.fromM, fN 4 q.1.toM, fN 4 q.1.rate, fN 4 (a.bands[q.2]?.getD 0)]) ++
  [fN 4 a.unbanded, fN 8 a.footageCharge, fN 4 s.mudRate, fN 6 a.lostMud, fN 4 a.mudCarry,
   fN 6 a.products, fN 2 a.additions, fN 1 s.billing.tickets.length, fB s.billing.deferred] ++
  c.activity.toList.map (fN 6) ++
  [fN 6 c.footage, fN 6 c.mud, fN 6 c.products, fN 6 c.total]

/-- READ JOB (R141). -/
def doReadJob (part : Nat) (s : State) : State × Reply := (s, replyPart (jobFields s) part)

/-- The fields of one of the four parts of a ticket, none for another part (section 12.3). -/
def ticketPart (t : Ticket) : Nat → Option (List Field)
  | 0 => some [fN 4 t.fromTime.toNat, fN 4 t.toTime.toNat, fN 6 t.total, fN 6 t.runningTotal,
      fN 6 t.lostMud, fN 6 t.mudCharge, fN 6 t.products]
  | 1 => some (t.seconds.toList.map (fN 4) ++ [fN 6 t.footageCharge, fN 4 t.unbanded])
  | 2 => some ((t.charges.toList.take 6).map (fN 6) ++ [fN 2 t.additions])
  | 3 => some ([fN 6 t.charges[6], fN 1 t.bandCount] ++ t.bands.toList.map (fN 4))
  | _ => none

/-- The head of a READ TICKET part after its reply code (section 12.3). -/
def ticketHead (t : Ticket) (part : Nat) : List Field :=
  [fN 4 t.jobNumber, fN 2 t.number, fN 1 (t.final.toNat + 2 * t.timeUnset.toNat), fN 1 part]

/-- The summary form, number 0 (R151). A ticket number is of no kind R177 names and has 4 bytes
(log 13). -/
def ticketSummary (s : State) : List Field :=
  let ts := s.billing.tickets
  [fN 1 ts.length, oN 4 (ts.head?.map Ticket.number), oN 4 (ts.getLast?.map Ticket.number),
   fN 2 s.job.ticketCounter, fB s.billing.deferred, fN 1 s.job.state.code, fB s.job.closingInterval]

/-- READ TICKET (R151): the summary answers every part argument with its one part, numbered 0. -/
def doReadTicket (number part : Nat) (s : State) : State × Reply :=
  if number = 0 then (s, replyPart (ticketSummary s) 0)
  else
    match (s.billing.tickets.find? (·.number == number)).bind fun t =>
        (ticketPart t part).map fun fs => formBytes (ticketHead t part ++ fs) with
    | some data => (s, ⟨.done, data⟩)
    | none => refuse .refusedValue s

end Sys2Proof.Machine
end

