-- ==== Sys2Proof/Machine/TrunkPorts.lean ====
section
/-! DEFINITION. The two ports: the arrival of a frame, its classification, and the judging of a request
by its code and payload (R153 to R155, R165, R166). -/

namespace Sys2Proof.Machine

/-! ### Requests from their bytes (R165, R166) -/

/-- What a request does: its own tests, its state changes and its reply. -/
abbrev Service := State → State × Reply

/-- The request, when the payload has the length of its argument form (R165 test 3). -/
def withForm (p : List Byte) (n : Nat) (f : Service) : Service :=
  if p.length = n then f else refuse .refusedValue

/-- The number at an offset of a payload. -/
def argAt (p : List Byte) (offset width : Nat) : Nat := (fieldAt p offset width).toNat

/-- LOAD ROW by its payload: the table tests before the length test (R166). -/
def loadRowService (p : List Byte) : Service :=
  match p with
  | [] => refuse .refusedValue
  | table :: rest =>
    let form := rest.drop 1
    let row := argAt rest 0 1
    match table.toNat with
    | 1 => withForm rest 13 (doLoadSettings row (.ofBytes form))
    | 2 => withForm rest 27 (doLoadChannel row (.ofBytes form))
    | 3 => withForm rest 8 (doLoadPump row (.ofBytes form))
    | 4 => withForm rest 17 (doLoadLimits row (.ofBytes form))
    | 5 => withForm rest 18 (doLoadThresholds row (.ofBytes form))
    | 6 => withForm rest 15 (doLoadClass row (.ofBytes form))
    | 7 => withForm rest 10 (doLoadTariff row (.ofBytes form))
    | 8 => refuse .refusedValue
    | _ => refuse .refusedUnknown

/-- The request of a code and payload, none for an unknown code (section 12.2). -/
def serviceOf (code : Nat) (p : List Byte) : Option Service :=
  match code with
  | 1 => some (withForm p 0 doIdentify)
  | 2 => some (withForm p 1 (doReadStatus (argAt p 0 1)))
  | 3 => some (loadRowService p)
  | 4 => some (withForm p 3 (doReadRow (argAt p 0 1) (argAt p 1 1) (argAt p 2 1)))
  | 5 => some (withForm p 0 doClearTables)
  | 6 => some (withForm p 1 (doSetMode (argAt p 0 1)))
  | 7 => some (withForm p 4 (doSetTime (fieldAt p 0 4)))
  | 8 => some (withForm p 0 doRestart)
  | 16 => some (withForm p 2 (doReadInput (argAt p 0 1) (argAt p 1 1)))
  | 17 => some (withForm p 2 (doReadBalance (argAt p 0 1) (argAt p 1 1)))
  | 24 => some (withForm p 0 doTripReset)
  | 25 => some (withForm p 1 (doReadPumps (argAt p 0 1)))
  | 32 => some (withForm p 7 (doRackPut (argAt p 0 1) (argAt p 1 4) (argAt p 5 2)))
  | 33 => some (withForm p 1 (doRackTake (argAt p 0 1)))
  | 34 => some (withForm p 6 (doBhaAdd (argAt p 0 4) (argAt p 4 2)))
  | 35 => some (withForm p 0 doBhaRemove)
  | 36 => some (withForm p 1 (doHoldToSlot (argAt p 0 1)))
  | 37 => some (withForm p 0 doTallyConfirm)
  | 38 => some (withForm p 2 (doReadRack (argAt p 0 1) (argAt p 1 1)))
  | 39 => some (withForm p 2 (doReadString (argAt p 0 1) (argAt p 1 1)))
  | 48 => some (withForm p 4 (doDepthCorrect (bvInt (fieldAt p 0 4))))
  | 49 => some (withForm p 1 (doReadDepth (argAt p 0 1)))
  | 56 => some (withForm p 1 (doReadInterval (argAt p 0 1)))
  | 64 => some (withForm p 3 (doReadRecord (argAt p 0 1) (argAt p 1 1) (argAt p 2 1)))
  | 65 => some (withForm p 1 (doReleaseBank (argAt p 0 1)))
  | 72 => some (withForm p 6 (doJobOpen (argAt p 0 4) (argAt p 4 2)))
  | 73 => some (withForm p 0 doJobSuspend)
  | 74 => some (withForm p 0 doJobResume)
  | 75 => some (withForm p 0 doJobClose)
  | 76 => some (withForm p 1 (doReadJob (argAt p 0 1)))
  | 77 => some (withForm p 3 (doMudAddition (argAt p 0 1) (argAt p 1 2)))
  | 80 => some (withForm p 0 doTicketNow)
  | 81 => some (withForm p 2 (doReleaseTicket (argAt p 0 2)))
  | 82 => some (withForm p 3 (doReadTicket (argAt p 0 2) (argAt p 2 1)))
  | _ => none

/-- IDENTIFY and READ STATUS run in STARTING (R165 test 2). -/
def runsInStarting (code : Nat) : Bool := code == 1 || code == 2

/-- A REQUEST frame handed to Management (R165): an unknown code is refused in every mode. -/
def serveFrame (f : Frame) (s : State) : State :=
  match serviceOf f.tag.toNat f.payload with
  | none => serve true f.tag ⟨f.src, f.seq⟩ (refuse .refusedUnknown) s
  | some g => serve (runsInStarting f.tag.toNat) f.tag ⟨f.src, f.seq⟩ g s

/-! ### The field port (R154) -/

/-- The frame is a handler report (R65, R154). -/
def State.isHandlerReport (s : State) (f : Frame) : Bool :=
  f.kind == .status && decide (1 ≤ s.limits.handler ∧ s.limits.handler ≤ 62) &&
    f.src.val == s.limits.handler

/-- A well-formed frame at the field port: offered toward the cab, given to the conditioner, and given
to the tracker; an acceptance can end STARTING (R154, R173). -/
def fieldArrival (f : Frame) (s : State) : State :=
  let s1 := condition f (s.offerCab f)
  checkStarting (if s.isHandlerReport f then handlerReport f.payload s1 else s1)

/-- A byte sequence ends at the field port (R153). -/
def fieldBytes (bytes : List Byte) (s : State) : State :=
  match parseFrame bytes with
  | some f => fieldArrival f s
  | none => s.countFieldError

/-! ### The cab port (R155) -/

/-- An address that reaches the part: the trunk address in force, or 63 (R155). -/
def State.isOwnAddress (s : State) (a : Addr) : Bool := a == s.trunkAddr || a.val == 63

/-- The used pump whose node an address is (R45). -/
def State.pumpAt (s : State) (a : Addr) : Option PumpId :=
  if s.used 0 && a.val == (s.pumpRow 0).node then some 0
  else if s.used 1 && a.val == (s.pumpRow 1).node then some 1
  else none

/-- An address is the handler node (R59). -/
def State.isHandlerNode (s : State) (a : Addr) : Bool :=
  s.limits.handler != 0 && a.val == s.limits.handler

/-- A SETPOINT that is not for the part, by its destination (R155). -/
def setpointArrival (f : Frame) (s : State) : State :=
  match s.pumpAt f.dest with
  | some p => pumpSetpointFrame p f s
  | none => if s.isHandlerNode f.dest then handlerFrame f s else s.offerField f

/-- A well-formed frame at the cab port, classified by the first line of R155 that fits. -/
def cabArrival (f : Frame) (s : State) : State :=
  if s.isOwnAddress f.dest then
    if f.kind = .request then serveFrame f s else s.countCabError
  else if f.kind = .setpoint then setpointArrival f s
  else s.offerField f

/-- A byte sequence ends at the cab port (R153). -/
def cabBytes (bytes : List Byte) (s : State) : State :=
  match parseFrame bytes with
  | some f => cabArrival f s
  | none => s.countCabError

/-- A SETPOINT frame given by its fields arrives at the cab port; a payload no frame can carry makes it
malformed (R153, log 21). -/
def cabSetpoint (dest src : Addr) (tag seq : Byte) (payload : List Byte) (s : State) : State :=
  if payload.length ≤ Config.maxPayload then
    cabArrival ⟨dest, src, .setpoint, tag, seq, payload⟩ s
  else s.countCabError

/-! ### Ends of sends (R159, R160, R163, R174) -/

/-- The reply to RESTART has been sent: a restart is due and its reply, the last one placed, is the frame
whose send ends (R174, log 7). -/
def State.restartReplySent (s : State) : Bool :=
  s.mgmt.restartDue && s.trunk.replySlot.isNone && s.trunk.cabSending.any (·.source == .reply)

/-- The cab port finishes a send; after the reply to RESTART the restart takes place (R163, R174). -/
def endCabSend (s : State) : State :=
  if s.restartReplySent then s.afterReset .restart
  else s.onTrunk fun t => { t with cabSending := none }

/-- The field port finishes a send (R159). -/
def endFieldSend (s : State) : State := s.onTrunk fun t => { t with fieldSending := none }

end Sys2Proof.Machine
end

