-- ==== Sys2Proof/Machine/FrameCommands.lean ====
section
/-! DEFINITION. The meanings of the frame rows and of the two send completions: a frame's arrival at a port, and the end of a send (chapter 10). Every event ends with the choices of the idle transmitters (R159, R163, log 4). -/

namespace Sys2Proof.Machine

/-- The outcome of an event: each idle transmitter makes its choice among the frames that wait. -/
def finish (s : State) : Host.Outcome State Fault Refusal := .next (transmit s)

/-- FIELD_FRAME (R153, R154). -/
def execFieldFrame (bytes : List Byte) (s : State) : Host.Outcome State Fault Refusal :=
  finish (fieldBytes bytes s)

/-- CAB_FRAME (R153, R155). -/
def execCabFrame (bytes : List Byte) (s : State) : Host.Outcome State Fault Refusal :=
  finish (cabBytes bytes s)

/-- PUMP_SETPOINT (R45): a SETPOINT frame for a pump node arrives at the cab port. -/
def execPumpSetpoint (dest src : Addr) (tag seq : Byte) (payload : List Byte) (s : State) :
    Host.Outcome State Fault Refusal :=
  finish (cabSetpoint dest src tag seq payload s)

/-- HANDLER_COMMAND (R59): a SETPOINT frame for the handler node arrives at the cab port. -/
def execHandlerCommand (dest src : Addr) (tag seq : Byte) (payload : List Byte) (s : State) :
    Host.Outcome State Fault Refusal :=
  finish (cabSetpoint dest src tag seq payload s)

/-- CAB_SEND_COMPLETE (R163). -/
def execCabSendComplete (s : State) : Host.Outcome State Fault Refusal := finish (endCabSend s)

/-- FIELD_SEND_COMPLETE (R159). -/
def execFieldSendComplete (s : State) : Host.Outcome State Fault Refusal := finish (endFieldSend s)

end Sys2Proof.Machine
end

