-- ==== Sys2Proof/Machine/Timebase.lean ====
section
/-! DEFINITION. The timebase: the second tick, the expiries of the timers, and the millisecond in which
nothing is commanded (section 6.4, log 1 to 3). -/

namespace Sys2Proof.Machine

/-- A second tick (R170): site time, then the ramps of pump 1 and pump 2 (R42), rotating seconds (R70),
the interval sums (R99) and metering (R136). -/
def secondTickWork (s : State) : State :=
  let s1 := (s.reach s.mgmt.secondDue).onMgmt fun m =>
    { m with siteTime := m.siteTime + 1, secondDue := m.secondDue + 1000 }
  meterSecond (drillingSecond (rotatingSecond (eachPump rampPump s1)))

/-- The work of a timer's expiry at its deadline; a stopped timer does not expire (log 2). -/
def onExpiry (due : Option Nat) (work : State → State) (s : State) : State :=
  match due with
  | some d => work (s.reach d)
  | none => s

/-- The deadline of the handler timer. -/
def State.handlerDue (s : State) : Option Nat := s.tracker.command.map PendingCommand.due

/-- The expiry of the handler timer (R69). -/
def expireHandler (s : State) : State :=
  match s.tracker.command with
  | some p => handlerExpiry p s
  | none => s

/-- The expiry of the start hold timer (R173). -/
def expireStartHold (s : State) : State :=
  checkStarting (s.onMgmt fun m => { m with holdDue := none, holdExpired := true })

/-- A deadline the millisecond timer has reached. -/
def State.reached (s : State) (due : Option Nat) : Bool := due.any fun d => decide (d ≤ s.mgmt.clock)

/-- The expiries whose deadlines have been reached, in the model's order (log 1). -/
def State.dueExpiries (s : State) : List Instr :=
  (if s.mgmt.secondDue ≤ s.mgmt.clock then [Instr.secondTick] else []) ++
  ((List.finRange 13).filter fun i => s.reached (s.input i).staleDue).map Instr.staleTimerExpiry ++
  ((List.finRange 2).filter fun p => s.reached (s.input (strokeInput p)).runningDue).map
    Instr.runningTimerExpiry ++
  (if s.reached s.circ.periodDue then [Instr.periodExpiry] else []) ++
  (if s.reached s.handlerDue then [Instr.handlerTimeout] else []) ++
  (if s.reached s.depth.settleDue then [Instr.settleTimerExpiry] else []) ++
  (if s.reached s.mgmt.holdDue then [Instr.startHoldTimerExpiry] else [])

/-- A step with no command waiting: the first expiry that is due joins the queue, and with none due the
millisecond timer runs on by one (log 1). -/
def idleStep (s : State) : State :=
  match s.dueExpiries with
  | e :: _ => { s with pending := s.pending ++ [e] }
  | [] => s.onMgmt fun m => { m with clock := m.clock + 1 }

end Sys2Proof.Machine
end

