-- ==== Sys2Proof/Machine/EventCommands.lean ====
section
/-! DEFINITION. The meanings of the timers' expiries, the second tick, the cadence, start-up and the resets (log 2, 5 to 7). -/

namespace Sys2Proof.Machine

/-- SECOND_TICK (R170). -/
def execSecondTick (s : State) : Host.Outcome State Fault Refusal := finish (secondTickWork s)

/-- CADENCE_TRIGGER (R143, log 6): a trigger that has fired makes an ordinary ticket due. -/
def execCadenceTrigger (s : State) : Host.Outcome State Fault Refusal := finish (takeCadence s)

/-- STALE_TIMER_EXPIRY (R9). -/
def execStaleTimerExpiry (input : InputId) (s : State) : Host.Outcome State Fault Refusal :=
  finish (onExpiry (s.input input).staleDue (goStale input) s)

/-- RUNNING_TIMER_EXPIRY (R14). -/
def execRunningTimerExpiry (pump : PumpId) (s : State) : Host.Outcome State Fault Refusal :=
  finish (onExpiry (s.input (strokeInput pump)).runningDue (stopRunning pump) s)

/-- PERIOD_EXPIRY (R18). -/
def execPeriodExpiry (s : State) : Host.Outcome State Fault Refusal :=
  finish (onExpiry s.circ.periodDue endPeriod s)

/-- HANDLER_TIMEOUT (R69). -/
def execHandlerTimeout (s : State) : Host.Outcome State Fault Refusal :=
  finish (onExpiry s.handlerDue expireHandler s)

/-- SETTLE_TIMER_EXPIRY (R93): the taken activity becomes the indicated activity. -/
def execSettleTimerExpiry (s : State) : Host.Outcome State Fault Refusal :=
  finish (onExpiry s.depth.settleDue (takeActivity s.depth.indicated) s)

/-- START_HOLD_TIMER_EXPIRY (R173). -/
def execStartHoldTimerExpiry (s : State) : Host.Outcome State Fault Refusal :=
  finish (onExpiry s.mgmt.holdDue expireStartHold s)

/-- CHECKS_COMPLETE (R174). -/
def execChecksComplete (failed : FailedAreas) (s : State) : Host.Outcome State Fault Refusal :=
  finish (completeChecks failed s)

/-- END_OF_STARTING (R173, log 5). -/
def execEndOfStarting (s : State) : Host.Outcome State Fault Refusal := finish (checkStarting s)

/-- POWER_ON (R174). -/
def execPowerOn (s : State) : Host.Outcome State Fault Refusal := finish (s.afterReset .powerOn)

/-- SUPPLY_DIP (R174). -/
def execSupplyDip (s : State) : Host.Outcome State Fault Refusal := finish (s.afterReset .supplyDip)

/-- RESTART_RESET (R174, log 7): the restart that is due takes place when its reply has been sent. -/
def execRestartReset (s : State) : Host.Outcome State Fault Refusal :=
  finish (if s.restartReplySent then s.afterReset .restart else s)

end Sys2Proof.Machine
end

