-- ==== Sys2Proof/Machine/JobCommands.lean ====
section
/-! DEFINITION. The meanings of the requests of the jobs: inputs, circulation, pumps, rods, depth, strata, billing and tickets (chapters 1 to 9). Each is served by R160 and R165. -/

namespace Sys2Proof.Machine

/-- READ INPUT, request code 16 (R16). -/
def execReadInput (h : ReqHeader) (index part : Byte) (s : State) :
    Host.Outcome State Fault Refusal :=
  finish (serve false 16 h (doReadInput index.toNat part.toNat) s)

/-- READ BALANCE, request code 17 (R37). -/
def execReadBalance (h : ReqHeader) (index part : Byte) (s : State) :
    Host.Outcome State Fault Refusal :=
  finish (serve false 17 h (doReadBalance index.toNat part.toNat) s)

/-- TRIP RESET, request code 24 (R46). -/
def execTripReset (h : ReqHeader) (s : State) : Host.Outcome State Fault Refusal :=
  finish (serve false 24 h doTripReset s)

/-- READ PUMPS, request code 25 (R52). -/
def execReadPumps (h : ReqHeader) (part : Byte) (s : State) : Host.Outcome State Fault Refusal :=
  finish (serve false 25 h (doReadPumps part.toNat) s)

/-- RACK PUT, request code 32 (R71). -/
def execRackPut (h : ReqHeader) (slot : Byte) (serial : BitVec 32) (length : BitVec 16) (s : State) :
    Host.Outcome State Fault Refusal :=
  finish (serve false 32 h (doRackPut slot.toNat serial.toNat length.toNat) s)

/-- RACK TAKE, request code 33 (R72). -/
def execRackTake (h : ReqHeader) (slot : Byte) (s : State) : Host.Outcome State Fault Refusal :=
  finish (serve false 33 h (doRackTake slot.toNat) s)

/-- BHA ADD, request code 34 (R73). -/
def execBhaAdd (h : ReqHeader) (serial : BitVec 32) (length : BitVec 16) (s : State) :
    Host.Outcome State Fault Refusal :=
  finish (serve false 34 h (doBhaAdd serial.toNat length.toNat) s)

/-- BHA REMOVE, request code 35 (R74). -/
def execBhaRemove (h : ReqHeader) (s : State) : Host.Outcome State Fault Refusal :=
  finish (serve false 35 h doBhaRemove s)

/-- HOLD TO SLOT, request code 36 (R75). -/
def execHoldToSlot (h : ReqHeader) (slot : Byte) (s : State) : Host.Outcome State Fault Refusal :=
  finish (serve false 36 h (doHoldToSlot slot.toNat) s)

/-- TALLY CONFIRM, request code 37 (R76). -/
def execTallyConfirm (h : ReqHeader) (s : State) : Host.Outcome State Fault Refusal :=
  finish (serve false 37 h doTallyConfirm s)

/-- READ RACK, request code 38 (R77). -/
def execReadRack (h : ReqHeader) (slot part : Byte) (s : State) :
    Host.Outcome State Fault Refusal :=
  finish (serve false 38 h (doReadRack slot.toNat part.toNat) s)

/-- READ STRING, request code 39 (R77). -/
def execReadString (h : ReqHeader) (index part : Byte) (s : State) :
    Host.Outcome State Fault Refusal :=
  finish (serve false 39 h (doReadString index.toNat part.toNat) s)

/-- DEPTH CORRECT, request code 48 (R90). -/
def execDepthCorrect (h : ReqHeader) (depth : BitVec 32) (s : State) :
    Host.Outcome State Fault Refusal :=
  finish (serve false 48 h (doDepthCorrect (bvInt depth)) s)

/-- READ DEPTH, request code 49 (R95). -/
def execReadDepth (h : ReqHeader) (part : Byte) (s : State) : Host.Outcome State Fault Refusal :=
  finish (serve false 49 h (doReadDepth part.toNat) s)

/-- READ INTERVAL, request code 56 (R113). -/
def execReadInterval (h : ReqHeader) (part : Byte) (s : State) : Host.Outcome State Fault Refusal :=
  finish (serve false 56 h (doReadInterval part.toNat) s)

/-- READ RECORD, request code 64 (R120, R121). -/
def execReadRecord (h : ReqHeader) (bank index part : Byte) (s : State) :
    Host.Outcome State Fault Refusal :=
  finish (serve false 64 h (doReadRecord bank.toNat index.toNat part.toNat) s)

/-- RELEASE BANK, request code 65 (R122). -/
def execReleaseBank (h : ReqHeader) (bank : Byte) (s : State) : Host.Outcome State Fault Refusal :=
  finish (serve false 65 h (doReleaseBank bank.toNat) s)

/-- JOB OPEN, request code 72 (R127). -/
def execJobOpen (h : ReqHeader) (number : BitVec 32) (customer : BitVec 16) (s : State) :
    Host.Outcome State Fault Refusal :=
  finish (serve false 72 h (doJobOpen number.toNat customer.toNat) s)

/-- JOB SUSPEND, request code 73 (R128). -/
def execJobSuspend (h : ReqHeader) (s : State) : Host.Outcome State Fault Refusal :=
  finish (serve false 73 h doJobSuspend s)

/-- JOB RESUME, request code 74 (R129). -/
def execJobResume (h : ReqHeader) (s : State) : Host.Outcome State Fault Refusal :=
  finish (serve false 74 h doJobResume s)

/-- JOB CLOSE, request code 75 (R130). -/
def execJobClose (h : ReqHeader) (s : State) : Host.Outcome State Fault Refusal :=
  finish (serve false 75 h doJobClose s)

/-- READ JOB, request code 76 (R141). -/
def execReadJob (h : ReqHeader) (part : Byte) (s : State) : Host.Outcome State Fault Refusal :=
  finish (serve false 76 h (doReadJob part.toNat) s)

/-- MUD ADDITION, request code 77 (R140). -/
def execMudAddition (h : ReqHeader) (code : Byte) (quantity : BitVec 16) (s : State) :
    Host.Outcome State Fault Refusal :=
  finish (serve false 77 h (doMudAddition code.toNat quantity.toNat) s)

/-- TICKET NOW, request code 80 (R144). -/
def execTicketNow (h : ReqHeader) (s : State) : Host.Outcome State Fault Refusal :=
  finish (serve false 80 h doTicketNow s)

/-- RELEASE TICKET, request code 81 (R150). -/
def execReleaseTicket (h : ReqHeader) (number : BitVec 16) (s : State) :
    Host.Outcome State Fault Refusal :=
  finish (serve false 81 h (doReleaseTicket number.toNat) s)

/-- READ TICKET, request code 82 (R151). -/
def execReadTicket (h : ReqHeader) (number : BitVec 16) (part : Byte) (s : State) :
    Host.Outcome State Fault Refusal :=
  finish (serve false 82 h (doReadTicket number.toNat part.toNat) s)

end Sys2Proof.Machine
end

