-- ==== Sys2Proof/Machine/ManagementCommands.lean ====
section
/-! DEFINITION. The meanings of the management requests: identity, status, tables, mode, time and restart (chapter 11). Each is served by R160 and R165. -/

namespace Sys2Proof.Machine

/-- IDENTIFY, request code 1 (R168). -/
def execIdentify (h : ReqHeader) (s : State) : Host.Outcome State Fault Refusal :=
  finish (serve true 1 h doIdentify s)

/-- READ STATUS, request code 2 (R175). -/
def execReadStatus (h : ReqHeader) (part : Byte) (s : State) : Host.Outcome State Fault Refusal :=
  finish (serve true 2 h (doReadStatus part.toNat) s)

/-- LOAD ROW of table 1, request code 3 (R167). -/
def execLoadRowSettings (h : ReqHeader) (row : Byte) (form : SettingsForm) (s : State) :
    Host.Outcome State Fault Refusal :=
  finish (serve false 3 h (doLoadSettings row.toNat form) s)

/-- LOAD ROW of table 2, request code 3 (R3, R4, R5). -/
def execLoadRowChannelMap (h : ReqHeader) (row : Byte) (form : ChannelForm) (s : State) :
    Host.Outcome State Fault Refusal :=
  finish (serve false 3 h (doLoadChannel row.toNat form) s)

/-- LOAD ROW of table 3, request code 3 (R38). -/
def execLoadRowPumpTable (h : ReqHeader) (row : Byte) (form : PumpForm) (s : State) :
    Host.Outcome State Fault Refusal :=
  finish (serve false 3 h (doLoadPump row.toNat form) s)

/-- LOAD ROW of table 4, request code 3 (R39). -/
def execLoadRowInterlockLimits (h : ReqHeader) (row : Byte) (form : LimitsForm) (s : State) :
    Host.Outcome State Fault Refusal :=
  finish (serve false 3 h (doLoadLimits row.toNat form) s)

/-- LOAD ROW of table 5, request code 3 (R34). -/
def execLoadRowCirculationThresholds (h : ReqHeader) (row : Byte) (form : ThresholdForm) (s : State) :
    Host.Outcome State Fault Refusal :=
  finish (serve false 3 h (doLoadThresholds row.toNat form) s)

/-- LOAD ROW of table 6, request code 3 (R105). -/
def execLoadRowStrataClassTable (h : ReqHeader) (row : Byte) (form : ClassForm) (s : State) :
    Host.Outcome State Fault Refusal :=
  finish (serve false 3 h (doLoadClass row.toNat form) s)

/-- LOAD ROW of table 7, request code 3 (R131, R132). -/
def execLoadRowTariffTable (h : ReqHeader) (row : Byte) (form : TariffForm) (s : State) :
    Host.Outcome State Fault Refusal :=
  finish (serve false 3 h (doLoadTariff row.toNat form) s)

/-- READ ROW, request code 4 (R166). -/
def execReadRow (h : ReqHeader) (table row part : Byte) (s : State) :
    Host.Outcome State Fault Refusal :=
  finish (serve false 4 h (doReadRow table.toNat row.toNat part.toNat) s)

/-- CLEAR TABLES, request code 5 (R169). -/
def execClearTables (h : ReqHeader) (s : State) : Host.Outcome State Fault Refusal :=
  finish (serve false 5 h doClearTables s)

/-- SET MODE, request code 6 (R171). -/
def execSetMode (h : ReqHeader) (mode : Byte) (s : State) : Host.Outcome State Fault Refusal :=
  finish (serve false 6 h (doSetMode mode.toNat) s)

/-- SET TIME, request code 7 (R170). -/
def execSetTime (h : ReqHeader) (seconds : BitVec 32) (s : State) :
    Host.Outcome State Fault Refusal :=
  finish (serve false 7 h (doSetTime seconds) s)

/-- RESTART, request code 8 (R174). -/
def execRestart (h : ReqHeader) (s : State) : Host.Outcome State Fault Refusal :=
  finish (serve false 8 h doRestart s)

end Sys2Proof.Machine
end

