-- ==== Sys2Proof/Machine/Dispatch.lean ====
section
/-! DEFINITION. Each command's meaning: one arm per row of the table. -/

namespace Sys2Proof.Machine

def exec (i : Instr) (s : State) : Host.Outcome State Fault Refusal :=
  match i with
  | .fieldFrame bytes => Sys2Proof.Machine.execFieldFrame bytes s
  | .cabFrame bytes => Sys2Proof.Machine.execCabFrame bytes s
  | .pumpSetpoint dest src tag seq payload => Sys2Proof.Machine.execPumpSetpoint dest src tag seq payload s
  | .handlerCommand dest src tag seq payload => Sys2Proof.Machine.execHandlerCommand dest src tag seq payload s
  | .identify h => Sys2Proof.Machine.execIdentify h s
  | .readStatus h part => Sys2Proof.Machine.execReadStatus h part s
  | .loadRowSettings h row form => Sys2Proof.Machine.execLoadRowSettings h row form s
  | .loadRowChannelMap h row form => Sys2Proof.Machine.execLoadRowChannelMap h row form s
  | .loadRowPumpTable h row form => Sys2Proof.Machine.execLoadRowPumpTable h row form s
  | .loadRowInterlockLimits h row form => Sys2Proof.Machine.execLoadRowInterlockLimits h row form s
  | .loadRowCirculationThresholds h row form => Sys2Proof.Machine.execLoadRowCirculationThresholds h row form s
  | .loadRowStrataClassTable h row form => Sys2Proof.Machine.execLoadRowStrataClassTable h row form s
  | .loadRowTariffTable h row form => Sys2Proof.Machine.execLoadRowTariffTable h row form s
  | .readRow h table row part => Sys2Proof.Machine.execReadRow h table row part s
  | .clearTables h => Sys2Proof.Machine.execClearTables h s
  | .setMode h mode => Sys2Proof.Machine.execSetMode h mode s
  | .setTime h seconds => Sys2Proof.Machine.execSetTime h seconds s
  | .restart h => Sys2Proof.Machine.execRestart h s
  | .readInput h index part => Sys2Proof.Machine.execReadInput h index part s
  | .readBalance h index part => Sys2Proof.Machine.execReadBalance h index part s
  | .tripReset h => Sys2Proof.Machine.execTripReset h s
  | .readPumps h part => Sys2Proof.Machine.execReadPumps h part s
  | .rackPut h slot serial length => Sys2Proof.Machine.execRackPut h slot serial length s
  | .rackTake h slot => Sys2Proof.Machine.execRackTake h slot s
  | .bhaAdd h serial length => Sys2Proof.Machine.execBhaAdd h serial length s
  | .bhaRemove h => Sys2Proof.Machine.execBhaRemove h s
  | .holdToSlot h slot => Sys2Proof.Machine.execHoldToSlot h slot s
  | .tallyConfirm h => Sys2Proof.Machine.execTallyConfirm h s
  | .readRack h slot part => Sys2Proof.Machine.execReadRack h slot part s
  | .readString h index part => Sys2Proof.Machine.execReadString h index part s
  | .depthCorrect h depth => Sys2Proof.Machine.execDepthCorrect h depth s
  | .readDepth h part => Sys2Proof.Machine.execReadDepth h part s
  | .readInterval h part => Sys2Proof.Machine.execReadInterval h part s
  | .readRecord h bank index part => Sys2Proof.Machine.execReadRecord h bank index part s
  | .releaseBank h bank => Sys2Proof.Machine.execReleaseBank h bank s
  | .jobOpen h number customer => Sys2Proof.Machine.execJobOpen h number customer s
  | .jobSuspend h => Sys2Proof.Machine.execJobSuspend h s
  | .jobResume h => Sys2Proof.Machine.execJobResume h s
  | .jobClose h => Sys2Proof.Machine.execJobClose h s
  | .readJob h part => Sys2Proof.Machine.execReadJob h part s
  | .mudAddition h code quantity => Sys2Proof.Machine.execMudAddition h code quantity s
  | .ticketNow h => Sys2Proof.Machine.execTicketNow h s
  | .releaseTicket h number => Sys2Proof.Machine.execReleaseTicket h number s
  | .readTicket h number part => Sys2Proof.Machine.execReadTicket h number part s
  | .secondTick => Sys2Proof.Machine.execSecondTick s
  | .cadenceTrigger => Sys2Proof.Machine.execCadenceTrigger s
  | .staleTimerExpiry input => Sys2Proof.Machine.execStaleTimerExpiry input s
  | .runningTimerExpiry pump => Sys2Proof.Machine.execRunningTimerExpiry pump s
  | .periodExpiry => Sys2Proof.Machine.execPeriodExpiry s
  | .handlerTimeout => Sys2Proof.Machine.execHandlerTimeout s
  | .settleTimerExpiry => Sys2Proof.Machine.execSettleTimerExpiry s
  | .startHoldTimerExpiry => Sys2Proof.Machine.execStartHoldTimerExpiry s
  | .checksComplete failed => Sys2Proof.Machine.execChecksComplete failed s
  | .endOfStarting => Sys2Proof.Machine.execEndOfStarting s
  | .powerOn => Sys2Proof.Machine.execPowerOn s
  | .supplyDip => Sys2Proof.Machine.execSupplyDip s
  | .restartReset => Sys2Proof.Machine.execRestartReset s
  | .cabSendComplete => Sys2Proof.Machine.execCabSendComplete s
  | .fieldSendComplete => Sys2Proof.Machine.execFieldSendComplete s

end Sys2Proof.Machine
end

