-- ==== Sys2Proof/Safety.lean ====
section
/-! DEFINITION. The terms claims are stated in: a request that runs, its answer, what an event keeps, and
the laws the manual gives for the part's state. -/

namespace Sys2Proof.Machine

/-! ### Requests and answers -/

/-- A request row runs: the reply slot is not occupied and STARTING has ended (R160, R165). -/
def State.ready (s : State) : Prop := s.slotOccupied = false ∧ s.mode ≠ .starting

/-- The event that leaves `s` and answers a request from it (R160). -/
def answers (s : State) (h : ReqHeader) (tag : Byte) (r : Reply) :
    Host.Outcome State Fault Refusal :=
  .next (transmit (s.placeReply h tag r))

/-- The payload length of a request's argument form, none for an unknown code and for LOAD ROW (code 3),
whose form depends on its table (section 12.2). -/
def requestLength : Nat → Option Nat
  | 1 | 5 | 8 | 24 | 35 | 37 | 73 | 74 | 75 | 80 => some 0
  | 2 | 6 | 25 | 33 | 36 | 49 | 56 | 65 | 76 => some 1
  | 16 | 17 | 38 | 39 | 81 => some 2
  | 4 | 64 | 77 | 82 => some 3
  | 7 | 48 => some 4
  | 34 | 72 => some 6
  | 32 => some 7
  | _ => none

/-- The rows of a table (section 11.2). -/
def rowCount : Nat → Nat
  | 1 | 4 | 8 => 1
  | 2 => 13
  | 3 => 2
  | 5 | 6 => 16
  | 7 => 24
  | _ => 0

/-- The six cases of R153 in which a byte sequence is malformed. -/
def malformed (bytes : List Byte) : Prop :=
  bytes.length < 8 ∨
  48 < (bytes.getD 5 0).toNat ∨
  bytes.length ≠ 8 + (bytes.getD 5 0).toNat ∨
  ¬(1 ≤ (bytes.getD 2 0).toNat ∧ (bytes.getD 2 0).toNat ≤ 6) ∨
  63 < (bytes.getD 0 0).toNat ∨ 63 < (bytes.getD 1 0).toNat ∨
  crc16 (bytes.take (bytes.length - 2)) ≠
    BitVec.ofNat 16 (natOfBytes (bytes.drop (bytes.length - 2)))

/-! ### What an event keeps -/

/-- The blocks of the state. -/
inductive Block where
  | tables | inputs | circ | pumpCtl | tracker | depth | recorder | banks | billing | trunk | mgmt
  | pending
  deriving DecidableEq, Repr

/-- A block reads the same in two states. -/
def sameIn (s t : State) : Block → Prop
  | .tables => t.tables = s.tables
  | .inputs => t.inputs = s.inputs
  | .circ => t.circ = s.circ
  | .pumpCtl => t.pumpCtl = s.pumpCtl
  | .tracker => t.tracker = s.tracker
  | .depth => t.depth = s.depth
  | .recorder => t.recorder = s.recorder
  | .banks => t.banks = s.banks
  | .billing => t.billing = s.billing
  | .trunk => t.trunk = s.trunk
  | .mgmt => t.mgmt = s.mgmt
  | .pending => t.pending = s.pending

/-- Every block but those named reads as before. -/
def keepsAllBut (changed : List Block) (s t : State) : Prop := ∀ b, b ∉ changed → sameIn s t b

/-- A notice of this kind, subject and value, raised in `s`, waits in the queue of its kind, or that queue
is full and the notice was dropped with the overflow flag set (R161, R162). -/
def notified (s t : State) (kind : NoticeKind) (subject : Nat) (value : Int) : Prop :=
  let queue := if kind.isUrgent = true then t.trunk.urgent else t.trunk.general
  let size := if kind.isUrgent = true then Config.urgentSize else Config.generalSize
  (∃ src, (⟨kind, subject, value, s.now, src⟩ : Notice) ∈ queue) ∨
  (t.trunk.overflow = true ∧ size ≤ queue.length)

/-- The recorder with its open interval marked DEPTH_UNCERTAIN (R101). -/
def Recorder.marked (r : Recorder) : Recorder :=
  { r with interval := r.interval.map fun i => { i with flags := i.flags ||| 16#10 } }

/-- The event ends in the depth unit's tests (R86, R87, R91), made on a state that differs from `s` in the
named blocks alone. -/
def testedAfter (changed : List Block) (s t : State) : Prop :=
  ∃ s1, keepsAllBut changed s s1 ∧ t = react s1

/-- The tracker of `t` has a string length, and the depth unit takes it from where it stood in `s` (R56,
R83): a change sets ANCHOR_UNCERTAIN unless the slips freeze is set, a new setting outside STARTING marks
the open interval (R101), and the unit's tests follow. -/
def lengthTaken (s t : State) : Prop :=
  let d := s.depth
  let anchor := d.anchorUncertain || d.freeze.isNone
  (t.tracker.length = d.stringLength → t.depth = d ∧ t.recorder = s.recorder) ∧
  (t.tracker.length ≠ d.stringLength → ∃ s1, t = react s1 ∧
    keepsAllBut [.tracker, .depth, .recorder] s s1 ∧
    s1.depth = { d with stringLength := t.tracker.length, anchorUncertain := anchor } ∧
    s1.recorder = if anchor = true ∧ d.anchorUncertain = false ∧ s.mode ≠ .starting
      then s.recorder.marked else s.recorder)

/-- Pump Control takes the connection state of `t` from where it stood in `s` (R47, R58). In SUPERVISED the
head coming off forces both used pumps to zero, with a zero queued for each that was commanded above 0, pump
1's first (log 40). The head coming on again ends the open-string hold where the latch is clear: in
SUPERVISED of both used pumps, in MONITOR of each that is FORCED_OFF. No other change of it shows at the
pumps. -/
def connHanded (s t : State) : Prop :=
  let node (p : PumpId) := (s.tables.pumps[p]).node
  let u (p : PumpId) := s.pumpCtl.pumps[p]
  let zeros : Trunk := (List.finRange 2).foldl (fun q p =>
    if node p ≠ 0 ∧ 0 < (u p).commanded then q.queueSetpoint ⟨node p, 0, s.trunkAddr⟩ else q) s.trunk
  let opens := s.tracker.conn = .headOn ∧ t.tracker.conn ≠ .headOn ∧ s.mode = .supervised
  let closes := s.tracker.conn ≠ .headOn ∧ t.tracker.conn = .headOn ∧ s.mode ≠ .standby ∧
    s.pumpCtl.tripLatch = false
  t.pumpCtl = { s.pumpCtl with pumps := t.pumpCtl.pumps } ∧
  (opens → t.trunk.setpoints = zeros.setpoints ∧ ∀ p : PumpId,
    t.pumpCtl.pumps[p] = if node p = 0 then u p else { u p with
      requested := 0, commanded := 0, control := .forcedOff
      nodeRate := if (u p).commanded = 0 then (u p).nodeRate else some 0 }) ∧
  (closes → t.trunk.setpoints = s.trunk.setpoints ∧ ∀ p : PumpId,
    t.pumpCtl.pumps[p] =
      if node p ≠ 0 ∧ (s.mode = .supervised ∨ (u p).control = .forcedOff) then
        { u p with requested := 0, commanded := 0, control := .stopped }
      else u p) ∧
  (¬opens → ¬closes → t.trunk.setpoints = s.trunk.setpoints ∧ t.pumpCtl = s.pumpCtl)

/-- The closed record `r` joins the FILLING bank `b` (R117 to R119): a count at the fill mark sets the bank's
flag, once, with BANK_FILL_MARK; the 32nd record fills it, with BANK_READY, and a FREE other bank is then
FILLING. -/
def recordAppended (r : ClosedRecord) (b : Fin 2) (s t : State) : Prop :=
  let k := s.banks[b]
  let other := s.banks[1 - b]
  let count := k.records.length + 1
  let mark := if s.settings.fillMark = 0 then 16 else s.settings.fillMark
  (t.banks[b]).records = k.records ++ [r] ∧
  (k.fillMarked = false → mark ≤ count →
    (t.banks[b]).fillMarked = true ∧ notified s t .bankFillMark b.val count) ∧
  (k.fillMarked = true ∨ count < mark → (t.banks[b]).fillMarked = k.fillMarked ∧
    ∀ n ∈ t.trunk.general, n.kind = .bankFillMark → n ∈ s.trunk.general) ∧
  (count < 32 → (t.banks[b]).state = .filling ∧ t.banks[1 - b] = other) ∧
  (count = 32 → (t.banks[b]).state = .full ∧ notified s t .bankReady b.val 32 ∧
    (other.state = .free → t.banks[1 - b] = ⟨.filling, [], false⟩) ∧
    (other.state = .full → t.banks[1 - b] = other))

/-- The interval `j` opens at `top` now, with a number and the given flags beside those of R98 and R101; its
target is the next multiple of the step (R98). -/
def intervalOpens (number : Nat) (top : Int) (flags : FlagSet) (s : State) (j : Interval) : Prop :=
  top < j.target ∧ j.target ≤ top + s.settings.step ∧ (s.settings.step : Int) ∣ j.target ∧
  j = {
    number := number, top := top, target := j.target, seconds := 0, wobSum := 0, torqueSum := 0
    rpmSum := 0, pressureSum := 0, loss := 0, gain := 0, openTime := s.mgmt.siteTime
    flags := flags |||
      (if s.depth.encoderUncertain = true ∨ s.depth.anchorUncertain = true ∨
        s.tracker.tallyUncertain = true then 16#10 else 0) |||
      (if s.mgmt.timeUnset = true then 512#10 else 0) }

/-- The pit levels a period that begins in `t` has taken (R21). -/
def pitsTaken (t : State) : Prop :=
  ∀ k : Fin 4, t.circ.pits[k] = if (t.channel (pitInput k)).enabled = true ∧
    t.fresh (pitInput k) = true then some (t.smoothedOr0 (pitInput k)) else none

/-- A clearing of the balance window by a load (R26): everything it empties, the period it begins with
the pits taken again and the head height with it (R92), the state and the pumps-off mark it leaves, and
the one notice of a changed state (R33). The depth unit's tests end the event. -/
def windowCleared (s t : State) : Prop :=
  t.circ.window = [] ∧ t.circ.carryIn = 0 ∧ t.circ.carryOut = 0 ∧ t.circ.sumR = 0 ∧
  t.circ.sumIn = 0 ∧ t.circ.sumOut = 0 ∧ t.circ.flowing = 0 ∧ t.circ.held = 0 ∧
  t.circ.strokes1 = 0 ∧ t.circ.strokes2 = 0 ∧ t.circ.flowSum = 0 ∧ t.circ.flowCount = 0 ∧
  t.circ.periodHeld = false ∧
  pitsTaken t ∧ t.circ.periodDue = some (s.mgmt.clock + 1000 * t.settings.period) ∧
  t.circ.state = (if t.anyRunning = true then .filling else .pumpsOff) ∧
  t.circ.pumpsOffAt = (if t.anyRunning = false ∧ s.circ.state ≠ .pumpsOff ∧ s.circ.state ≠ .flowing
    then some s.mgmt.clock else s.circ.pumpsOffAt) ∧
  (t.circ.state ≠ s.circ.state → notified s t .circulationState 0 t.circ.state.code) ∧
  (t.circ.state = s.circ.state → ∀ n ∈ t.trunk.general, n.kind = .circulationState →
    n ∈ s.trunk.general) ∧
  (∀ n ∈ t.trunk.urgent, n.kind = .loss ∨ n.kind = .gain → n ∈ s.trunk.urgent) ∧
  ∃ s1, t = react s1 ∧ s1.depth = { s.depth with periodHead := some s.depth.head } ∧
    keepsAllBut [.tables, .inputs, .circ, .pumpCtl, .tracker, .depth, .trunk] s s1

/-- What a judged handler command can come to (R59, R61, R64). -/
inductive HandlerCommandArm where
  | malformed
  | refused (code : Nat) (reason : Reason)
  | recorded (frame : Frame) (code : HandlerCode) (slot : Option Nat)
  deriving DecidableEq, Repr

/-- The outcome: a malformed command is counted, a refused one notified, and one that passes is offered
toward the field and recorded with the handler timer started. -/
def HandlerCommandArm.outcome (arm : HandlerCommandArm) (s : State) :
    Host.Outcome State Fault Refusal :=
  match arm with
  | .malformed => .next (transmit { s with
      tracker := { s.tracker with frameErrors := min 65535 (s.tracker.frameErrors + 1) } })
  | .refused code reason => .next (transmit (s.raise .interlockRefused code reason.code))
  | .recorded f code slot => .next (transmit { s.offerField f with
      tracker := { s.tracker with command := some {
        code := code, slot := slot, recordedAt := s.mgmt.clock
        timeout := s.tables.limits.timeout
        due := s.mgmt.clock + 1000 * s.tables.limits.timeout } } })

/-! ### The laws of the trunk (R156, R158, R159, R161, R163) -/

/-- An idle transmitter leaves nothing waiting (R159, R163). -/
def Trunk.settled (t : Trunk) : Prop :=
  (t.cabSending = none →
    t.replySlot = none ∧ t.urgent = [] ∧ t.cabFifo = [] ∧ t.general = []) ∧
  (t.fieldSending = none → t.setpoints = [] ∧ t.fieldFifo = [])

/-- The queues keep to their capacities, a node has one setpoint, and no two general notices could
coalesce (R156, R158, R161). -/
def Trunk.bounded (t : Trunk) : Prop :=
  t.cabFifo.length ≤ Config.cabFifoSize ∧ t.fieldFifo.length ≤ Config.fieldFifoSize ∧
  t.urgent.length ≤ Config.urgentSize ∧ t.general.length ≤ Config.generalSize ∧
  (t.setpoints.map SetpointEntry.node).Nodup ∧
  t.general.Pairwise (fun a b => a.sameAs b = false)

/-- Every waiting setpoint is for the node of a used pump, one for a node, so that at most two wait
(R158). -/
def State.setpointLaw (s : State) : Prop :=
  (s.trunk.setpoints.map SetpointEntry.node).Nodup ∧ s.trunk.setpoints.length ≤ 2 ∧
  ∀ e ∈ s.trunk.setpoints, ∃ p : PumpId,
    (s.tables.pumps[p]).node ≠ 0 ∧ e.node = (s.tables.pumps[p]).node

/-! ### The law of the holds (R43) -/

/-- The start mode is one a load may store (R167). -/
def State.startModeLegal (s : State) : Prop :=
  s.settings.startMode = .monitor ∨ s.settings.startMode = .supervised

/-- Both pumps' commanded rates are 0 while a hold applies, an unused pump has rates 0, no rate passes
its pump's max rate, and a used pump's control state shows its rates (section 3.2, R38, R43). -/
def State.pumpLaw (s : State) : Prop :=
  s.startModeLegal ∧
  (∀ p : PumpId, s.used p = false → (s.pump p).requested = 0 ∧ (s.pump p).commanded = 0) ∧
  (s.heldAtZero = true → ∀ p : PumpId, (s.pump p).requested = 0 ∧ (s.pump p).commanded = 0) ∧
  (∀ p : PumpId, (s.pump p).commanded ≤ (s.pump p).requested ∧
    (s.pump p).requested ≤ (s.pumpRow p).maxRate) ∧
  (∀ p : PumpId, s.used p = true →
    match (s.pump p).control with
    | .stopped | .forcedOff => (s.pump p).requested = 0 ∧ (s.pump p).commanded = 0
    | .ramping | .rampHeld => (s.pump p).commanded < (s.pump p).requested
    | .steady => 0 < (s.pump p).requested ∧ (s.pump p).commanded = (s.pump p).requested)

/-! ### The law of the rods (R54 to R58) -/

/-- A record within the ranges of R54. -/
def Rod.inRange (r : Rod) : Prop := rodFits r.serial r.length = true

/-- No two records share a serial, records have their kinds and ranges, the stack keeps to its bounds
with its BHA entries lowest, and a head-off state shows whether the hold is occupied. -/
def Tracker.law (t : Tracker) : Prop :=
  (t.rods.map Rod.serial).Nodup ∧
  (∀ r ∈ t.rods, r.inRange) ∧
  (∀ k : Nat, ∀ r, t.slot k = some r → r.kind = .rod) ∧
  (∀ r, t.held = some r → r.kind = .rod) ∧
  t.stack.length ≤ Config.stackSize ∧ t.bhaCount ≤ Config.bhaSize ∧
  t.stack.Pairwise (fun lower upper => upper.kind = .bha → lower.kind = .bha) ∧
  (t.conn ≠ .headOn → t.conn = t.headOff)

/-! ### The law of the banks (R114) -/

/-- A bank's state fits its records. -/
def Bank.law (k : Bank) : Prop :=
  (k.state = .free → k.records = []) ∧
  (k.state = .filling → k.records.length < Config.bankSize) ∧
  (k.state = .full → 1 ≤ k.records.length ∧ k.records.length ≤ Config.bankSize)

/-- Each bank keeps its law, and at most one bank is FILLING. -/
def State.bankLaw (s : State) : Prop :=
  (s.banks[0]).law ∧ (s.banks[1]).law ∧
  ¬(s.banks[0].state = .filling ∧ s.banks[1].state = .filling)

/-! ### The law of the recorder (R98, R108, R114) -/

/-- The recorder is EXTENDING exactly while an interval is open and no bank is FILLING, and while a job
takes records and the recorder is not EXTENDING a bank is FILLING. An open interval has the next number
of its job, there is none between jobs and after the closing interval, and the FILLING bank holds the
records closed since the last bank of 32. -/
def State.recorderLaw (s : State) : Prop :=
  (s.recorder.extending = true ↔ s.recorder.interval.isSome = true ∧ s.fillingBank = none) ∧
  (s.job.state = .opened ∨ s.job.state = .suspended → s.recorder.extending = false →
    s.fillingBank.isSome = true) ∧
  (∀ i, s.recorder.interval = some i →
    i.number = s.recorder.closedCount + 1 ∧ s.recorder.closedCount < Config.maxIntervals) ∧
  (s.jobInProgress = false → s.recorder.interval = none ∧ s.fillingBank = none) ∧
  (s.job.closingInterval = true → s.recorder.interval = none) ∧
  (s.jobInProgress = true → s.recorder.closedCount % Config.bankSize =
    (s.fillingBank.map fun b => (s.banks[b]).records.length).getD 0)

/-! ### The law of the meter (section 8.4, R142) -/

/-- The ticket store keeps to its capacity and the amounts to the ranges of section 8.4. -/
def State.meterLaw (s : State) : Prop :=
  s.billing.tickets.length ≤ Config.ticketStoreSize ∧
  s.job.metered ≤ Config.count32Max ∧ s.job.billedTotal ≤ Config.moneyMax ∧
  (∀ a : Fin 7, s.billing.acc.seconds[a] ≤ Config.count32Max ∧ s.billing.acc.carries[a] < 3600) ∧
  (∀ j : Fin 8, s.billing.acc.bands[j] ≤ Config.count32Max) ∧
  s.billing.acc.unbanded ≤ Config.count32Max ∧ s.billing.acc.lostMud ≤ Config.moneyMax ∧
  s.billing.acc.mudCarry < 1000000 ∧ s.billing.acc.products ≤ Config.moneyMax ∧
  s.billing.acc.additions ≤ Config.count16Max

/-! ### The law of the tickets (R142, R147, R149) -/

/-- The stored tickets are of the job and carry consecutive numbers, the newest the ticket counter; each
running total is the one before it plus the ticket's own total, and the newest is the job billed total.
The counter leaves room for the final ticket, and for a deferred one before it. -/
def State.ticketLaw (s : State) : Prop :=
  (∀ (k : Nat) (a b : Ticket), s.billing.tickets[k]? = some a → s.billing.tickets[k + 1]? = some b →
    b.number = a.number + 1 ∧ b.runningTotal = min Config.moneyMax (a.runningTotal + b.total)) ∧
  (∀ k, s.billing.tickets.getLast? = some k →
    k.number = s.job.ticketCounter ∧ k.runningTotal = s.job.billedTotal) ∧
  (∀ k ∈ s.billing.tickets, k.jobNumber = s.job.number) ∧
  (s.jobInProgress = true → s.job.ticketCounter < Config.count16Max) ∧
  (s.job.state = .opened ∨ s.job.state = .suspended → s.billing.deferred = true →
    s.job.ticketCounter < Config.ticketCounterStop)

/-! ### The law of the tables (R3, R38, R39, R167) -/

/-- The Settings are in the ranges of section 11.3. -/
def Settings.law (r : Settings) : Prop :=
  r.inRange = r ∧ (r.startMode = .monitor ∨ r.startMode = .supervised)

/-- A tariff row with its key, span and rate in range, a BAND row covering some depth (R131, R132). -/
def Tariff.law : Tariff → Prop
  | .empty => True
  | .activity a r => a ≤ 6 ∧ r ≤ rateTop
  | .band f t r => f < t ∧ t ≤ 2000 ∧ r ≤ rateTop
  | .surcharge c p => c ≤ 15 ∧ p ≤ 300
  | .mudLost r => r ≤ rateTop
  | .product c r => 1 ≤ c ∧ c ≤ 255 ∧ r ≤ rateTop

/-- The stored tables are in range, no two nodes of pumps and handler coincide, no two enabled rows of
the Channel Map name one stream, and no two tariff rows conflict. -/
def Tables.law (t : Tables) : Prop :=
  t.settings.law ∧ t.limits.inRange = t.limits ∧
  (∀ p : PumpId, t.pumps[p].inRange = t.pumps[p] ∧ t.pumps[p].node ≤ 62) ∧
  t.limits.handler ≤ 62 ∧
  (t.pumps[0].node ≠ 0 → t.pumps[0].node ≠ t.pumps[1].node) ∧
  (t.limits.handler ≠ 0 → ∀ p : PumpId, t.limits.handler ≠ t.pumps[p].node) ∧
  (∀ i : Fin 16, t.thresholds[i].inRange = t.thresholds[i]) ∧
  (∀ i j : InputId, i ≠ j → t.channels[i].enabled = true → t.channels[j].enabled = true →
    t.channels[i].sameStream t.channels[j] = false) ∧
  (∀ i : Fin 24, t.tariff[i].law) ∧
  (∀ i j : Fin 24, i ≠ j → t.tariff[i].conflicts t.tariff[j] = false) ∧
  t.tariff.toList.countP (fun r => r.band?.isSome) ≤ 8

/-! ### The law of the window (R18, R24, R27) -/

/-- An evaluated state of section 2.5. -/
def CircState.evaluated : CircState → Bool
  | .normal | .lossWatch | .loss | .totalLoss | .gainWatch | .gain => true
  | _ => false

/-- The window holds at most W records with their sums up to date, is full in an evaluated state and
empty with the pumps off, and in STARTING the monitor is at rest. -/
def State.windowLaw (s : State) : Prop :=
  4 ≤ s.settings.window ∧ s.startModeLegal ∧ s.mgmt.remembered ≠ some .starting ∧
  s.circ.window.length ≤ s.settings.window ∧
  s.circ.sumR = (s.circ.window.map PeriodRecord.balance).sum ∧
  s.circ.sumIn = (s.circ.window.map fun r => (r.vin : Int)).sum ∧
  s.circ.sumOut = (s.circ.window.map PeriodRecord.vout).sum ∧
  (s.circ.state.evaluated = true → s.circ.window.length = s.settings.window) ∧
  (s.circ.state = .pumpsOff ∨ s.circ.state = .flowing → s.circ.window = []) ∧
  (s.mode = .starting → s.circ.periodDue = none ∧ s.circ.window = [] ∧ s.circ.state = .pumpsOff)

/-- The head height keeps to its range, and the depth unit has the tracker's string length (R56, R80). -/
def State.depthLaw (s : State) : Prop :=
  0 ≤ s.depth.head ∧ s.depth.head ≤ Config.maxHeadHeight ∧ s.depth.stringLength = s.tracker.length

end Sys2Proof.Machine
end

