-- ==== Sys2Proof/Certificates/Slice0/Obligations.lean ====
section
/-! DEFINITION. The statements for the provers. A docstring names the rules a statement rests on. -/

open Sys2Proof Sys2Proof.Machine


/-! ### The queue, the clock, and the end of every event -/

/-- The row's rule for a block: a step takes the command at the front of the queue and executes it with
the queue's rest. -/
def Obligations.StepTakesFrontCommand : Prop :=
  ∀ (c : Instr) (rest : List Instr) (s : State),
    step { s with pending := c :: rest } = exec c { s with pending := rest }

/-- The model's choice (log 1): with no command waiting, the first expiry whose deadline the millisecond
timer has reached joins the queue, and with none such the timer runs on by one millisecond. -/
def Obligations.IdleStepRunsTheTimer : Prop :=
  ∀ s : State, s.pending = [] →
    (s.dueExpiries = [] →
      step s = .next { s with mgmt := { s.mgmt with clock := s.mgmt.clock + 1 } }) ∧
    (∀ e rest, s.dueExpiries = e :: rest → step s = .next { s with pending := [e] }) ∧
    (.secondTick ∈ s.dueExpiries ↔ s.mgmt.secondDue ≤ s.mgmt.clock) ∧
    (∀ i : InputId, .staleTimerExpiry i ∈ s.dueExpiries ↔
      ∃ d, s.inputs[i].staleDue = some d ∧ d ≤ s.mgmt.clock) ∧
    (∀ p : PumpId, .runningTimerExpiry p ∈ s.dueExpiries ↔
      ∃ d, s.inputs[strokeInput p].runningDue = some d ∧ d ≤ s.mgmt.clock) ∧
    (.periodExpiry ∈ s.dueExpiries ↔ ∃ d, s.circ.periodDue = some d ∧ d ≤ s.mgmt.clock) ∧
    (.handlerTimeout ∈ s.dueExpiries ↔
      ∃ c, s.tracker.command = some c ∧ c.due ≤ s.mgmt.clock) ∧
    (.settleTimerExpiry ∈ s.dueExpiries ↔ ∃ d, s.depth.settleDue = some d ∧ d ≤ s.mgmt.clock) ∧
    (.startHoldTimerExpiry ∈ s.dueExpiries ↔ ∃ d, s.mgmt.holdDue = some d ∧ d ≤ s.mgmt.clock)

/-- Section 1 of the introduction: the part never stops, and each event leaves the waiting commands
alone. After it neither transmitter is idle while a source of its port holds a frame (R159, R163; the
choice is made at the end of the event, log 4). -/
def Obligations.EveryCommandAnswersWithTransmittersAtWork : Prop :=
  ∀ (c : Instr) (s : State), ∃ t, exec c s = .next t ∧ t.pending = s.pending ∧
    (t.trunk.cabSending = none → t.trunk.replySlot = none ∧ t.trunk.urgent = [] ∧
      t.trunk.cabFifo = [] ∧ t.trunk.general = []) ∧
    (t.trunk.fieldSending = none → t.trunk.setpoints = [] ∧ t.trunk.fieldFifo = [])

/-- R156, R158, R161: every step keeps the queues within their capacities, one setpoint for a node, and no
two general notices that would have coalesced. Each waiting setpoint is for the node of a used pump, so at
most two wait, below the capacity of 8; this is kept together with the law of the pumps, by which an unused
pump has no rate to lower. -/
def Obligations.TrunkQueuesStayBounded : Prop :=
  ∀ s t : State, step s = .next t →
    (s.trunk.bounded → t.trunk.bounded) ∧ (s.pumpLaw → s.setpointLaw → t.setpointLaw)

/-! ### Frames and ports (R153 to R156) -/

/-- R153, section 12.1: the arrival check reads back every frame the part can build, with every field,
and every byte sequence it takes is the wire form of the frame it reads. -/
def Obligations.FrameBytesRoundTrip : Prop :=
  (∀ f : Frame, f.payload.length ≤ 48 → parseFrame f.bytes = some f) ∧
  (∀ (bytes : List Byte) (f : Frame), parseFrame bytes = some f →
    f.bytes = bytes ∧ f.payload.length ≤ 48)

/-- R153 to R156, R1: a byte sequence is malformed in the six cases of R153 and in no other, and then only
raises its port's error count. A field frame that no input takes and that is no handler report only joins
the forward FIFO toward the cab, or is dropped and counted when that holds 16; the end of STARTING that
any frame can find complete is set apart (log 5). A cab frame that is not for the part, and no SETPOINT to the
node of a used pump or of the handler, only joins the field forward FIFO in every mode, or is dropped and
counted when that holds 8; one for the part that is no REQUEST is discarded and counted. -/
def Obligations.FramesAreForwardedOrDiscarded : Prop :=
  (∀ (bytes : List Byte) (s : State),
      (parseFrame bytes = none ↔ malformed bytes) ∧
      (malformed bytes →
        exec (.fieldFrame bytes) s = .next (transmit { s with
          trunk := { s.trunk with fieldErrors := min 65535 (s.trunk.fieldErrors + 1) } }) ∧
        exec (.cabFrame bytes) s = .next (transmit { s with
          trunk := { s.trunk with cabErrors := min 65535 (s.trunk.cabErrors + 1) } }))) ∧
  (∀ (f : Frame) (s : State), f.payload.length ≤ 48 →
      (s.mode ≠ .starting ∨ s.mgmt.checksDone = false) →
      (∀ i : InputId, s.tables.channels[i].enabled = true →
        ¬(f.src.val = s.tables.channels[i].node ∧ f.kind.code.toNat = s.tables.channels[i].kind ∧
          f.tag.toNat = s.tables.channels[i].channel)) →
      (f.kind ≠ .status ∨ s.tables.limits.handler = 0 ∨ f.src.val ≠ s.tables.limits.handler) →
      (s.trunk.cabFifo.length < 16 →
        exec (.fieldFrame f.bytes) s = .next (transmit { s with
          trunk := { s.trunk with cabFifo := s.trunk.cabFifo ++ [f] } })) ∧
      (16 ≤ s.trunk.cabFifo.length →
        exec (.fieldFrame f.bytes) s = .next (transmit { s with
          trunk := { s.trunk with dropsToCab := min 65535 (s.trunk.dropsToCab + 1) } }))) ∧
  (∀ (f : Frame) (s : State), f.payload.length ≤ 48 →
      (f.dest.val = 63 ∨ f.dest = s.trunkAddr → f.kind ≠ .request →
        exec (.cabFrame f.bytes) s = .next (transmit { s with
          trunk := { s.trunk with cabErrors := min 65535 (s.trunk.cabErrors + 1) } })) ∧
      (f.dest.val ≠ 63 → f.dest ≠ s.trunkAddr →
        (f.kind = .setpoint →
          (∀ p : PumpId, (s.tables.pumps[p]).node ≠ 0 → f.dest.val ≠ (s.tables.pumps[p]).node) ∧
          (s.tables.limits.handler ≠ 0 → f.dest.val ≠ s.tables.limits.handler)) →
        (s.trunk.fieldFifo.length < 8 →
          exec (.cabFrame f.bytes) s = .next (transmit { s with
            trunk := { s.trunk with fieldFifo := s.trunk.fieldFifo ++ [f] } })) ∧
        (8 ≤ s.trunk.fieldFifo.length →
          exec (.cabFrame f.bytes) s = .next (transmit { s with
            trunk := { s.trunk with dropsToField := min 65535 (s.trunk.dropsToField + 1) } }))))

/-- Sections 12.1, 12.2 and 12.4, R165: the REQUEST frame of a request row, sent to an address of the
part, does what the row does; and a SETPOINT row is the arrival of its frame. That the rows of these
commands and their frames are one event is read from the manual (log 21, 22). -/
def Obligations.FramesAreTheirRows : Prop :=
  (∀ (c : Instr) (dest : Addr) (f : Frame) (s : State),
    c.requestFrame dest = some f → (dest.val = 63 ∨ dest = s.trunkAddr) →
      exec (.cabFrame f.bytes) s = exec c s) ∧
  (∀ (dest src : Addr) (tag seq : Byte) (payload : List Byte) (s : State), payload.length ≤ 48 →
    exec (.pumpSetpoint dest src tag seq payload) s =
      exec (.cabFrame (Frame.bytes ⟨dest, src, .setpoint, tag, seq, payload⟩)) s ∧
    exec (.handlerCommand dest src tag seq payload) s =
      exec (.cabFrame (Frame.bytes ⟨dest, src, .setpoint, tag, seq, payload⟩)) s)

/-! ### The transmitters and the notice queues (R159, R161, R163) -/

/-- R159, R163: at the end of a send the cab transmitter takes the reply, else the urgent head, else the
forwarded head, else the general head, and the field transmitter the head setpoint before the head of the
field forward FIFO. A notice and a setpoint take their sequence numbers as they are taken (R157), the
value before the rise, which is the model's choice (log 38). So it is too while a restart is due, as long as
the frame whose send ends is not the reply to RESTART (R174, log 7): no reset then takes place. -/
def Obligations.SendCompletionsTakeTheSourcesInOrder : Prop :=
  (∀ s : State, s.mgmt.restartDue = false ∨ s.trunk.replySlot.isSome = true ∨
        (∀ c, s.trunk.cabSending = some c → c.source ≠ .reply) →
      ∃ t, exec .cabSendComplete s = .next t ∧ keepsAllBut [.trunk] s t ∧
      (∀ f, s.trunk.replySlot = some f →
        t.trunk.cabSending = some ⟨.reply, f⟩ ∧ t.trunk.replySlot = none ∧
        t.trunk.urgent = s.trunk.urgent ∧ t.trunk.cabFifo = s.trunk.cabFifo ∧
        t.trunk.general = s.trunk.general ∧ t.trunk.noticeSeq = s.trunk.noticeSeq) ∧
      (∀ n rest, s.trunk.replySlot = none → s.trunk.urgent = n :: rest →
        t.trunk.cabSending = some ⟨.urgent, n.frame s.trunk.noticeSeq⟩ ∧ t.trunk.urgent = rest ∧
        t.trunk.cabFifo = s.trunk.cabFifo ∧ t.trunk.general = s.trunk.general ∧
        t.trunk.noticeSeq = s.trunk.noticeSeq + 1) ∧
      (∀ f rest, s.trunk.replySlot = none → s.trunk.urgent = [] → s.trunk.cabFifo = f :: rest →
        t.trunk.cabSending = some ⟨.forward, f⟩ ∧ t.trunk.cabFifo = rest ∧
        t.trunk.general = s.trunk.general ∧ t.trunk.noticeSeq = s.trunk.noticeSeq) ∧
      (∀ n rest, s.trunk.replySlot = none → s.trunk.urgent = [] → s.trunk.cabFifo = [] →
        s.trunk.general = n :: rest →
        t.trunk.cabSending = some ⟨.general, n.frame s.trunk.noticeSeq⟩ ∧ t.trunk.general = rest ∧
        t.trunk.noticeSeq = s.trunk.noticeSeq + 1) ∧
      (s.trunk.replySlot = none → s.trunk.urgent = [] → s.trunk.cabFifo = [] → s.trunk.general = [] →
        t.trunk.cabSending = none ∧ t.trunk.noticeSeq = s.trunk.noticeSeq)) ∧
  (∀ s : State, ∃ t, exec .fieldSendComplete s = .next t ∧ keepsAllBut [.trunk] s t ∧
      (∀ e rest, s.trunk.setpoints = e :: rest →
        t.trunk.fieldSending = some (e.frame s.trunk.fieldSeq) ∧ t.trunk.setpoints = rest ∧
        t.trunk.fieldFifo = s.trunk.fieldFifo ∧ t.trunk.fieldSeq = s.trunk.fieldSeq + 1) ∧
      (∀ f rest, s.trunk.setpoints = [] → s.trunk.fieldFifo = f :: rest →
        t.trunk.fieldSending = some f ∧ t.trunk.setpoints = [] ∧ t.trunk.fieldFifo = rest ∧
        t.trunk.fieldSeq = s.trunk.fieldSeq) ∧
      (s.trunk.setpoints = [] → s.trunk.fieldFifo = [] →
        t.trunk.fieldSending = none ∧ t.trunk.setpoints = [] ∧ t.trunk.fieldFifo = [] ∧
        t.trunk.fieldSeq = s.trunk.fieldSeq))

/-- R161: a notice enters the queue of its kind. An urgent one joins the tail of a queue of fewer than 8
and is dropped with the overflow flag otherwise. A general one gives its value and stamp to the waiting
notice of its kind and subject, in place; else it joins the tail of a queue of fewer than 24, and is
dropped with the flag otherwise. -/
def Obligations.NoticesJoinCoalesceOrAreDropped : Prop :=
  ∀ (t : Trunk) (n : Notice),
    (n.kind.isUrgent = true →
      (t.urgent.length < 8 → t.join n = { t with urgent := t.urgent ++ [n] }) ∧
      (8 ≤ t.urgent.length → t.join n = { t with overflow := true })) ∧
    (n.kind.isUrgent = false →
      (∀ before q after, t.general = before ++ q :: after → q.kind = n.kind →
        q.subject = n.subject →
        (∀ r ∈ before ++ after, ¬(r.kind = n.kind ∧ r.subject = n.subject)) →
        t.join n = { t with
          general := before ++ { q with value := n.value, stamp := n.stamp } :: after }) ∧
      ((∀ r ∈ t.general, ¬(r.kind = n.kind ∧ r.subject = n.subject)) →
        (t.general.length < 24 → t.join n = { t with general := t.general ++ [n] }) ∧
        (24 ≤ t.general.length → t.join n = { t with overflow := true })))

/-! ### Requests (R160, R165, R166) -/

/-- R160, R165: a request that finds the reply slot occupied is lost and changes nothing; while a restart is
due the slot counts as occupied (R174, log 7). In STARTING a request that is neither IDENTIFY nor READ
STATUS is refused REFUSED_STATE. Every other request answers with exactly one reply, built from its header,
and a refused one carries nothing more than its code and changes no state. -/
def Obligations.RequestsAnswerOnceOrAreLost : Prop :=
  (∀ (c : Instr) (h : ReqHeader) (code : Byte) (payload : List Byte) (s : State),
      c.request = some (h, code, payload) →
      (s.trunk.replySlot.isSome = true ∨ s.mgmt.restartDue = true →
        exec c s = .next (transmit s)) ∧
      (s.trunk.replySlot = none → s.mgmt.restartDue = false → s.mode = .starting →
        code ≠ 1 → code ≠ 2 → exec c s = answers s h code (.plain .refusedState))) ∧
  (∀ (c : Instr) (h : ReqHeader) (code : Byte) (payload : List Byte) (s : State),
      c.request = some (h, code, payload) → s.trunk.replySlot = none → s.mgmt.restartDue = false →
      ∃ s' r, exec c s = answers s' h code r ∧ s'.trunk.replySlot = none ∧ s'.pending = s.pending ∧
        (r.code ≠ .done → r.code ≠ .doneClamped → s' = s ∧ r.data = []))

/-- R165, R166: a REQUEST frame for the part with an unknown code is refused REFUSED_UNKNOWN in every
mode. Once STARTING has ended, a payload of another length than the request's argument form is refused
REFUSED_VALUE; LOAD ROW is first judged by its table byte. -/
def Obligations.UnknownAndMisshapenRequestsAreRefused : Prop :=
  ∀ (f : Frame) (s : State), f.payload.length ≤ 48 → f.kind = .request →
    (f.dest.val = 63 ∨ f.dest = s.trunkAddr) → s.trunk.replySlot = none →
    s.mgmt.restartDue = false →
    (f.tag ≠ 3 → requestLength f.tag.toNat = none →
      exec (.cabFrame f.bytes) s = answers s ⟨f.src, f.seq⟩ f.tag (.plain .refusedUnknown)) ∧
    (s.mode ≠ .starting → f.tag ≠ 3 → ∀ n, requestLength f.tag.toNat = some n →
      f.payload.length ≠ n →
      exec (.cabFrame f.bytes) s = answers s ⟨f.src, f.seq⟩ f.tag (.plain .refusedValue)) ∧
    (s.mode ≠ .starting → f.tag = 3 →
      (f.payload = [] →
        exec (.cabFrame f.bytes) s = answers s ⟨f.src, f.seq⟩ 3 (.plain .refusedValue)) ∧
      (∀ table rest, f.payload = table :: rest →
        (table = 0 ∨ 8 < table.toNat →
          exec (.cabFrame f.bytes) s = answers s ⟨f.src, f.seq⟩ 3 (.plain .refusedUnknown)) ∧
        (table = 8 →
          exec (.cabFrame f.bytes) s = answers s ⟨f.src, f.seq⟩ 3 (.plain .refusedValue)) ∧
        (∀ n, rowFormBytes table.toNat = some n → rest.length ≠ n + 1 →
          exec (.cabFrame f.bytes) s = answers s ⟨f.src, f.seq⟩ 3 (.plain .refusedValue))))

/-- R168, R175, R162: in every mode IDENTIFY answers its four fields, and READ STATUS answers DONE with the
fields of R175 in its one part, part 0 of 1, and then clears the notice-overflow flag and nothing else; a
part argument above 0 is refused. The serial number is a free value (log 12); the widths of IDENTIFY's fields
(log 13), the bits of the presence mask (log 14) and the order of READ STATUS's paired counts and of its two
banks (log 43) are the model's choices. -/
def Obligations.IdentifyAndReadStatusAnswer : Prop :=
  ∀ (h : ReqHeader) (part : Byte) (s : State), s.trunk.replySlot = none →
    s.mgmt.restartDue = false →
    let a := s.banks[0]
    let b := s.banks[1]
    let fields : List Field := [
      fN 1 s.mgmt.mode.code, oN 1 (s.mgmt.remembered.map Mode.code),
      fN 1 s.tables.settings.startMode.code, fN 1 s.mgmt.cause.code, fB s.mgmt.lost.tables,
      fB s.mgmt.lost.string, fB s.mgmt.lost.depth, fB s.mgmt.lost.job, fN 4 s.mgmt.siteTime.toNat,
      fB s.mgmt.timeUnset, fN 1 s.circ.state.code, fN 1 s.depth.taken.code.val,
      fN 1 s.tracker.conn.code, fB s.pumpCtl.tripLatch, oZ 4 s.pumpCtl.tripPressure,
      fN 1 s.billing.job.state.code, fB s.billing.job.closingInterval, fB s.billing.deferred,
      fN 1 s.billing.tickets.length, fN 1 a.state.code, fN 1 a.records.length, fN 1 b.state.code,
      fN 1 b.records.length, fN 2 s.trunk.fieldErrors, fN 2 s.trunk.cabErrors,
      fN 2 s.trunk.dropsToCab, fN 2 s.trunk.dropsToField, fB s.trunk.overflow]
    exec (.identify h) s = answers s h 1 ⟨.done,
      [0, 1, 0, 0, 90, 0, 0, 2, 48, 0, 0, 0, 1] ++ bytesOfNat 4 Config.serial⟩ ∧
    (fields.map Field.width).sum = 38 ∧
    (part = 0 → exec (.readStatus h part) s =
      answers { s with trunk := { s.trunk with overflow := false } } h 2 ⟨.done,
        [0, 1] ++ bytesOfNat 2 (presenceMask fields) ++ fields.flatMap Field.bytes⟩) ∧
    (part ≠ 0 → exec (.readStatus h part) s = answers s h 2 (.plain .refusedValue))

/-- R166, R16, R37, R52, R77, R95, R113, R120, R121, R141, R151: READ ROW answers the stored row in the form
in which LOAD ROW takes it: a row whose fields are those of a loaded form is sent as that form's bytes, a
yes/no field as 0 or 1. A READ request within the ranges of its rule answers DONE and changes nothing,
for every part its reply has; the part and the number of parts stand first (R177). What is not there is
refused as its rule says. Each reply's fields are those its rule lists, in its order. The model's choices
are the codes of states whose chapters give none (log 11), the widths of fields no kind of R177 names
(log 13), the mask bits (log 14), an unknown table, row or index refused before the part is judged (log 26),
the mark of an empty slot (log 34), the previewed class (log 35) and its flags (log 42), the order of the bank
summary (log 36), the layout of READ STRING's hold (log 41), the absent slot of a pending command that holds
none (log 45), the order of READ JOB's previewed charges (log 43), and the sign of fields in the rows of 2, 6
and 8 bytes (log 46). -/
def Obligations.ReadRequestsAnswerAndChangeNothing : Prop :=
  (∀ (f : SettingsForm) (r : Settings), r.trunk = f.trunk.toNat → r.startMode.code = f.startMode.toNat →
      r.period = f.period.toNat → r.window = f.window.toNat → r.settle = f.settle.toNat →
      r.step = f.step.toNat → r.fillMark = f.fillMark.toNat → r.ticketBit = f.ticketBit.toNat →
      r.flowback = f.flowback.toNat → r.noiseFloor = f.noiseFloor.toNat → r.form = f.bytes) ∧
  (∀ (f : ChannelForm) (r : ChannelRow), f.enabled = (if r.enabled = true then 1 else 0) →
      r.node = f.node.toNat → r.kind = f.kind.toNat → r.channel = f.channel.toNat →
      r.gain = f.gain.toInt → r.offset = f.offset.toInt → r.low = f.low.toInt →
      r.high = f.high.toInt → r.depth = f.depth.toNat → r.stale = f.stale.toNat →
      f.mandatory = (if r.mandatory = true then 1 else 0) → r.aux = f.aux.toNat →
      r.form = f.bytes) ∧
  (∀ (f : PumpForm) (r : PumpRow), r.node = f.node.toNat → r.displacement = f.displacement.toNat →
      r.efficiency = f.efficiency.toNat → r.maxRate = f.maxRate.toNat →
      r.rampRate = f.rampRate.toNat → r.plausibility = f.plausibility.toNat → r.form = f.bytes) ∧
  (∀ (f : LimitsForm) (r : Limits), r.trip = f.trip.toNat → r.hysteresis = f.hysteresis.toNat →
      r.warn = f.warn.toNat → r.bleed = f.bleed.toNat → r.stop = f.stop.toNat → r.wob = f.wob.toNat →
      r.distance = f.distance.toNat → r.handler = f.handler.toNat → r.timeout = f.timeout.toNat →
      r.form = f.bytes) ∧
  (∀ (f : ThresholdForm) (r : Thresholds), r.lossWatch = f.lossWatch.toNat →
      r.lossLevel = f.lossLevel.toNat → r.gainWatch = f.gainWatch.toNat →
      r.gainLevel = f.gainLevel.toNat → r.ratio = f.ratio.toNat → r.form = f.bytes) ∧
  (∀ (f : ClassForm) (r : ClassRow), f.enabled = (if r.enabled = true then 1 else 0) →
      r.code = f.code.toNat → r.piLow = f.piLow.toNat → r.piHigh = f.piHigh.toNat →
      r.trLow = f.trLow.toNat → r.trHigh = f.trHigh.toNat → r.mask.toNat = f.mask.toNat →
      r.value.toNat = f.value.toNat → r.form = f.bytes) ∧
  (∀ (k : BitVec 16) (b : BitVec 16) (q : BitVec 32),
      Tariff.empty.form = TariffForm.bytes ⟨0, 0, 0, 0⟩ ∧
      (Tariff.activity k.toNat q.toNat).form = TariffForm.bytes ⟨1, k, 0, q⟩ ∧
      (Tariff.band k.toNat b.toNat q.toNat).form = TariffForm.bytes ⟨2, k, b, q⟩ ∧
      (Tariff.surcharge k.toNat q.toNat).form = TariffForm.bytes ⟨3, k, 0, q⟩ ∧
      (Tariff.mudLost q.toNat).form = TariffForm.bytes ⟨4, 0, 0, q⟩ ∧
      (Tariff.product k.toNat q.toNat).form = TariffForm.bytes ⟨5, k, 0, q⟩) ∧
  (∀ (h : ReqHeader) (table row part : Byte) (s : State), s.ready →
      (table = 1 → row = 0 → part = 0 → exec (.readRow h table row part) s =
        answers s h 4 ⟨.done, [1, 0] ++ s.tables.settings.form⟩) ∧
      (∀ i : InputId, table = 2 → row.toNat = i.val → part = 0 → exec (.readRow h table row part) s =
        answers s h 4 ⟨.done, [2, row] ++ (s.tables.channels[i]).form⟩) ∧
      (∀ p : PumpId, table = 3 → row.toNat = p.val → part = 0 → exec (.readRow h table row part) s =
        answers s h 4 ⟨.done, [3, row] ++ (s.tables.pumps[p]).form⟩) ∧
      (table = 4 → row = 0 → part = 0 → exec (.readRow h table row part) s =
        answers s h 4 ⟨.done, [4, 0] ++ s.tables.limits.form⟩) ∧
      (∀ i : Fin 16, table = 5 → row.toNat = i.val → part = 0 → exec (.readRow h table row part) s =
        answers s h 4 ⟨.done, [5, row] ++ (s.tables.thresholds[i]).form⟩) ∧
      (∀ i : Fin 16, table = 6 → row.toNat = i.val → part = 0 → exec (.readRow h table row part) s =
        answers s h 4 ⟨.done, [6, row] ++ (s.tables.classes[i]).form⟩) ∧
      (∀ i : Fin 24, table = 7 → row.toNat = i.val → part = 0 → exec (.readRow h table row part) s =
        answers s h 4 ⟨.done, [7, row] ++ (s.tables.tariff[i]).form⟩) ∧
      (table = 8 → row = 0 → part = 0 → exec (.readRow h table row part) s = answers s h 4 ⟨.done,
        [8, 0, 90, 2, 48, 1] ++ bytesOfNat 3 Config.serial⟩) ∧
      (table = 0 ∨ 8 < table.toNat ∨ rowCount table.toNat ≤ row.toNat →
        exec (.readRow h table row part) s = answers s h 4 (.plain .refusedUnknown)) ∧
      (1 ≤ table.toNat → table.toNat ≤ 8 → row.toNat < rowCount table.toNat → part ≠ 0 →
        exec (.readRow h table row part) s = answers s h 4 (.plain .refusedValue))) ∧
  (∀ (h : ReqHeader) (i part : Byte) (s : State), s.ready →
      (i.toNat < 13 → part = 0 →
        ∃ d, exec (.readInput h i part) s = answers s h 16 ⟨.done, [0, 1] ++ d⟩) ∧
      (i = 0 → part.toNat < 2 →
        ∃ d, exec (.readBalance h i part) s = answers s h 17 ⟨.done, [part, 2] ++ d⟩) ∧
      (1 ≤ i.toNat → i.toNat ≤ s.circ.window.length → i.toNat ≤ 16 → part = 0 →
        ∃ d, exec (.readBalance h i part) s = answers s h 17 ⟨.done, [0, 1] ++ d⟩) ∧
      (part = 0 → ∃ d, exec (.readPumps h part) s = answers s h 25 ⟨.done, [0, 1] ++ d⟩) ∧
      (i.toNat < 64 → part = 0 →
        ∃ d, exec (.readRack h i part) s = answers s h 38 ⟨.done, [0, 1] ++ d⟩) ∧
      (i.toNat < 128 → part.toNat < 2 →
        ∃ d, exec (.readString h i part) s = answers s h 39 ⟨.done, [part, 2] ++ d⟩) ∧
      (part.toNat < 2 → ∃ d, exec (.readDepth h part) s = answers s h 49 ⟨.done, [part, 2] ++ d⟩) ∧
      (part.toNat < 3 → ∃ d, exec (.readInterval h part) s = answers s h 56 ⟨.done, [part, 3] ++ d⟩) ∧
      (part.toNat < 6 → ∃ d, exec (.readJob h part) s = answers s h 76 ⟨.done, [part] ++ d⟩) ∧
      (∀ bank, ∃ d, exec (.readRecord h bank 255 0) s = answers s h 64 ⟨.done, [0, 1] ++ d⟩) ∧
      (∃ d, exec (.readTicket h 0 part) s = answers s h 82 ⟨.done, [0, 1] ++ d⟩)) ∧
  (∀ (h : ReqHeader) (i part bank : Byte) (number : BitVec 16) (s : State), s.ready →
      (13 ≤ i.toNat → exec (.readInput h i part) s = answers s h 16 (.plain .refusedUnknown)) ∧
      (16 < i.toNat → exec (.readBalance h i part) s = answers s h 17 (.plain .refusedUnknown)) ∧
      (s.circ.window.length < i.toNat → i.toNat ≤ 16 →
        exec (.readBalance h i part) s = answers s h 17 (.plain .refusedValue)) ∧
      (part ≠ 0 → exec (.readPumps h part) s = answers s h 25 (.plain .refusedValue)) ∧
      (64 ≤ i.toNat → exec (.readRack h i part) s = answers s h 38 (.plain .refusedValue)) ∧
      (128 ≤ i.toNat → exec (.readString h i part) s = answers s h 39 (.plain .refusedValue)) ∧
      (2 ≤ part.toNat → exec (.readDepth h part) s = answers s h 49 (.plain .refusedValue)) ∧
      (3 ≤ part.toNat → exec (.readInterval h part) s = answers s h 56 (.plain .refusedValue)) ∧
      (i ≠ 255 → (2 ≤ bank.toNat ∨ 3 ≤ part.toNat ∨
          (∀ b : Fin 2, bank.toNat = b.val → s.banks[b].state = .free ∨
            s.banks[b].records.length ≤ i.toNat)) →
        exec (.readRecord h bank i part) s = answers s h 64 (.plain .refusedValue)) ∧
      (number ≠ 0 → (4 ≤ part.toNat ∨ ∀ t ∈ s.billing.tickets, t.number ≠ number.toNat) →
        exec (.readTicket h number part) s = answers s h 82 (.plain .refusedValue))) ∧
  ∀ (h : ReqHeader) (i part : Byte) (s : State), s.ready →
    let now := s.mgmt.clock
    let carries (c : Instr) (code : Byte) (fields : List Field) :=
      exec c s = answers s h code (replyPart fields part.toNat)
    let c := s.circ
    let pump (p : PumpId) : List Field :=
      let u := s.pumpCtl.pumps[p]
      [fN 1 (s.tables.pumps[p]).node, fN 1 u.requested, fN 1 u.commanded, fN 1 u.control.code,
        fN 1 u.notFollowing, fB u.saturated, oN 1 u.nodeRate, oN 1 u.measured, fB (s.running p)]
    let pressure := s.inputs[inPressure]
    let rod (r : Option Rod) : List Field :=
      [oN 4 (r.map Rod.serial), oN 4 (r.map Rod.length), oN 4 (r.map Rod.seconds),
        oN 2 (r.map Rod.runs)]
    let t := s.tracker
    let hold := t.hold.map (·.1)
    let d := s.depth
    let k := s.recorder
    let o := k.interval
    let preview : Option ClosedRecord :=
      o.bind fun i => if i.top < d.hole then some (closedRecord i d.hole s) else none
    let m := preview.bind ClosedRecord.means
    let b := s.billing
    let act (a : Fin 7) := (b.acc.seconds[a] * s.activityRate a.val + b.acc.carries[a]) / 3600
    let footage := b.acc.footageCharge / 100000
    let mud := (b.acc.lostMud * s.mudRate + b.acc.mudCarry) / 1000000
    let bank (k : Bank) : List Field := [fN 1 k.state.code, fN 1 k.records.length, fB k.fillMarked]
    (∀ n : InputId, i.toNat = n.val →
      let u := s.inputs[n]
      let filled (v : Option Int) := if u.ring = [] then none else v
      let counter := decide (n.val ∈ [0, 6, 7])
      let head : List Field :=
        [fN 1 n.val, fN 1 (Config.inputKindCode counter.toNat).val,
          fB (s.tables.channels[n]).enabled, fN 1 u.state.freeCode, fN 2 u.refused,
          oN 2 (u.acceptedAt.map fun at' => min (now - at') 65535)]
      (counter = false → carries (.readInput h i part) 16 (head ++
        [fB u.clamped, fN 1 u.ring.length, oZ 4 (filled u.lastRaw), oZ 4 (filled u.lastConditioned),
          oZ 4 (filled u.smoothed)])) ∧
      (n.val = 6 ∨ n.val = 7 → carries (.readInput h i part) 16 (head ++
        [oN 4 u.lastCount, fB u.runningDue.isSome])) ∧
      (n.val = 0 → carries (.readInput h i part) 16 (head ++
        [oZ 4 u.lastRaw, fB u.historyDropped]))) ∧
    (i = 0 → carries (.readBalance h i part) 17
      [fN 1 c.state.code, fN 1 c.window.length, fN 1 s.tables.settings.window,
        fN 4 s.tables.settings.period, fZ 6 (max (-10 ^ 12) (min c.sumR (10 ^ 12))), fZ 6 c.sumIn,
        fZ 6 c.sumOut, fZ 4 s.lossRate, fN 4 c.carryIn, fN 4 c.carryOut, fN 1 c.flowing, fN 4 c.held,
        fN 1 k.currentClass.val, oN 4 c.heldMean,
        oN 2 (if c.state = .pumpsOff ∨ c.state = .flowing then
          c.pumpsOffAt.map fun at' => min ((now - at') / 1000) 65535 else none),
        fN 2 (min c.strokes1 65535), fN 2 (min c.strokes2 65535), fN 4 c.flowCount]) ∧
    (∀ r : PeriodRecord, 1 ≤ i.toNat → i.toNat ≤ 16 → c.window.reverse[i.toNat - 1]? = some r →
      carries (.readBalance h i part) 17
        [fN 4 r.vin, fZ 4 r.vout, fZ 4 ((r.vin : Int) - r.vout), fB r.held, fB r.pitDerived]) ∧
    carries (.readPumps h part) 25 (pump 0 ++ pump 1 ++
      [fB s.pumpCtl.tripLatch, oZ 4 s.pumpCtl.tripPressure, oZ 4 pressure.lastConditioned,
        oZ 4 pressure.smoothed, fN 1 pressure.state.freeCode, fN 1 s.trunk.setpoints.length,
        fN 2 s.pumpCtl.badSetpoints]) ∧
    (i.toNat < 64 → carries (.readRack h i part) 38
      ([fN 1 i.toNat, fB (t.slot i.toNat).isNone] ++ rod (t.slot i.toNat))) ∧
    (i.toNat < 128 → carries (.readString h i part) 39
      ([fN 1 t.conn.code, fN 1 t.stack.length, fN 1 (t.stack.countP (·.kind == .bha)),
        fZ 4 ((t.stack.map Rod.length).sum : Nat), oN 4 (hold.map Rod.serial),
        oN 1 (hold.map fun r => r.kind.freeCode), oN 4 (hold.map Rod.length),
        oN 4 (hold.map Rod.seconds), oN 2 (hold.map Rod.runs),
        oN 1 (t.hold.map fun q => q.2.freeCode), oN 1 (t.command.map fun c => c.code.code),
        oN 1 (t.command.bind fun c => c.slot),
        oN 2 (t.command.map fun c => min (now - c.recordedAt) 65535), fB t.tallyUncertain,
        fN 1 (t.rack.toList.countP Option.isSome), fN 2 t.frameErrors] ++
      oN 1 ((t.stack[i.toNat]?).map fun r => r.kind.freeCode) :: rod t.stack[i.toNat]?)) ∧
    carries (.readDepth h part) 49
      [fZ 4 d.head, fZ 4 d.residue, fZ 4 d.lastCount, fB d.firstReport, fZ 4 d.stringLength,
        fZ 4 d.corr, fZ 4 d.bit, fB d.freeze.isSome, oZ 4 d.freeze, fZ 4 d.hole, fZ 4 d.freeHookload,
        fZ 4 s.wob, fB s.onBottom, fB d.encoderUncertain, fB d.anchorUncertain,
        oZ 4 (d.periodHead.map fun h => |d.head - h|), oZ 4 d.lastMovement, fN 1 d.indicated.code.val,
        fN 1 d.taken.code.val, oN 4 (d.settleDue.map fun due => due - now)] ∧
    carries (.readInterval h part) 56
      [fN 1 (Config.intervalStateCode o.isSome.toNat).val,
        fN 1 (Config.extensionStateCode k.extending.toNat).val, fB k.overdue, fB k.closingMark,
        fN 1 k.currentClass.val, fN 2 k.closedCount, fN 4 s.tables.settings.step,
        oN 4 (o.map Interval.number), oZ 4 (o.map Interval.top), oZ 4 (o.map Interval.target),
        oN 4 (o.map Interval.seconds), oZ 8 (o.map Interval.wobSum), oZ 8 (o.map Interval.torqueSum),
        oZ 8 (o.map Interval.rpmSum), oZ 8 (o.map Interval.pressureSum), oN 4 (o.map Interval.loss),
        oN 4 (o.map Interval.gain), oN 2 (o.map fun i => i.flags.toNat),
        oN 4 (o.map fun i => i.openTime.toNat), oZ 4 (m.map Means.wob), oZ 4 (m.map Means.torque),
        oZ 2 (m.map Means.rpm), oZ 4 (m.map Means.pressure), oN 2 (m.map Means.rop),
        oN 2 (m.map Means.pi), oN 2 (m.map Means.tr), oN 1 (preview.map fun r => r.cls.val)] ∧
    (∀ code : Byte, exec (.readRecord h code 255 part) s = answers s h 64 (replyPart
      (bank s.banks[0] ++ bank s.banks[1] ++ [fN 1 b.job.state.code,
        fN 1 (Config.extensionStateCode k.extending.toNat).val, fB k.overdue]) part.toNat)) ∧
    carries (.readJob h part) 76
      ([fN 4 b.job.number, fN 4 b.job.customer, fN 1 b.job.state.code, fN 4 b.job.opened.time.toNat,
        fB b.job.opened.unset, fZ 4 b.job.startDepth, fZ 4 b.job.billedMark, fN 4 b.job.metered,
        fB b.job.closingInterval, fN 2 b.job.ticketCounter, fN 6 b.job.billedTotal] ++
      ((List.finRange 7).flatMap fun a =>
        [fN 4 b.acc.seconds[a], fN 4 b.acc.carries[a], fN 4 (s.activityRate a.val)]) ++
      [fN 1 s.bands.length] ++
      (s.bands.zipIdx.flatMap fun q => [fN 4 q.1.fromM, fN 4 q.1.toM, fN 4 q.1.rate,
        fN 4 (b.acc.bands[q.2]?.getD 0)]) ++
      [fN 4 b.acc.unbanded, fN 8 b.acc.footageCharge, fN 4 s.mudRate, fN 6 b.acc.lostMud,
        fN 4 b.acc.mudCarry, fN 6 b.acc.products, fN 2 b.acc.additions, fN 1 b.tickets.length,
        fB b.deferred] ++
      ((List.finRange 7).map fun a => fN 6 (act a)) ++
      [fN 6 footage, fN 6 mud, fN 6 b.acc.products, fN 6 (min 281474976710655
        (((List.finRange 7).map act).sum + footage + mud + b.acc.products))]) ∧
    exec (.readTicket h 0 part) s = answers s h 82 (replyPart
      [fN 1 b.tickets.length, oN 4 (b.tickets.head?.map Ticket.number),
        oN 4 (b.tickets.getLast?.map Ticket.number), fN 2 b.job.ticketCounter, fB b.deferred,
        fN 1 b.job.state.code, fB b.job.closingInterval] 0)

/-- R120, R151, R177, section 12.3: the three parts of a stored record, byte for byte, where NO_DATA sends
zeros for the means, ROP, PI and TR; the four parts of a ticket, byte for byte, whose payloads hold 47, 47, 47
and 48 bytes; and for every other reply, parts that hold the fields in order, each whole within one part, none
past 48 bytes, a part ending only where the next field would pass them. That the sums in 8 bytes are signed is
the model's choice (log 46). -/
def Obligations.RepliesAreLaidOutInParts : Prop :=
  (∀ (h : ReqHeader) (b : Fin 2) (bank k : Byte) (r : ClosedRecord) (s : State), s.ready →
      bank.toNat = b.val → k ≠ 255 → s.banks[b].state ≠ .free →
      s.banks[b].records[k.toNat]? = some r →
      let head (part : Nat) := [part, b.val, s.banks[b].state.code, s.banks[b].records.length,
        s.banks[b].fillMarked.toNat, s.banks[1 - b].state.code,
        s.banks[1 - b].records.length].flatMap fun n => sendNumber 1 false n
      let m := r.means.getD ⟨0, 0, 0, 0, 0, 0, 0⟩
      exec (.readRecord h bank k 0) s = answers s h 64 ⟨.done, head 0 ++
        sendNumber 2 false r.interval.number ++ sendNumber 4 true r.interval.top ++
        sendNumber 4 true r.bottom ++ sendNumber 1 false r.cls.val ++
        sendNumber 2 false r.interval.flags.toNat ++ sendNumber 4 false r.interval.seconds ++
        sendNumber 4 false r.interval.loss ++ sendNumber 4 false r.interval.gain ++
        sendNumber 4 false r.interval.openTime.toNat ++ sendNumber 4 false r.closeTime.toNat⟩ ∧
      exec (.readRecord h bank k 1) s = answers s h 64 ⟨.done, head 1 ++
        sendNumber 2 false r.interval.number ++ sendNumber 8 true r.interval.wobSum ++
        sendNumber 8 true r.interval.torqueSum ++ sendNumber 8 true r.interval.rpmSum ++
        sendNumber 8 true r.interval.pressureSum⟩ ∧
      exec (.readRecord h bank k 2) s = answers s h 64 ⟨.done, head 2 ++
        sendNumber 2 false r.interval.number ++ sendNumber 4 true m.wob ++ sendNumber 4 true m.torque ++
        sendNumber 4 true m.rpm ++ sendNumber 4 true m.pressure ++ sendNumber 2 false m.rop ++
        sendNumber 2 false m.pi ++ sendNumber 2 false m.tr⟩) ∧
  (∀ (h : ReqHeader) (number : BitVec 16) (t : Ticket) (s : State), s.ready → number ≠ 0 →
      s.billing.tickets.find? (fun t => t.number == number.toNat) = some t →
      let head (part : Nat) := sendNumber 4 false t.jobNumber ++ bytesOfNat 2 number.toNat ++
        sendNumber 1 false (t.final.toNat + 2 * t.timeUnset.toNat : Nat) ++ bytesOfNat 1 part
      let numbers (w : Nat) (ns : List Nat) : List Byte := ns.flatMap fun n => sendNumber w false n
      let carries (part : Nat) (data : List Byte) (size : Nat) :=
        (∀ p : Byte, p.toNat = part →
          exec (.readTicket h number p) s = answers s h 82 ⟨.done, head part ++ data⟩) ∧
        1 + (head part ++ data).length = size
      carries 0 (numbers 4 [t.fromTime.toNat, t.toTime.toNat] ++
        numbers 6 [t.total, t.runningTotal, t.lostMud, t.mudCharge, t.products]) 47 ∧
      carries 1 (numbers 4 t.seconds.toList ++ numbers 6 [t.footageCharge] ++
        numbers 4 [t.unbanded]) 47 ∧
      carries 2 (numbers 6 [t.charges[0], t.charges[1], t.charges[2], t.charges[3], t.charges[4],
        t.charges[5]] ++ numbers 2 [t.additions]) 47 ∧
      carries 3 (numbers 6 [t.charges[6]] ++ numbers 1 [t.bandCount] ++
        numbers 4 t.bands.toList) 48) ∧
  (∀ fs : List Field, (∀ f ∈ fs, f.width ≤ 8) →
      (parts fs).flatten = fs ∧
      (∀ (k : Nat) (p : List Field), (parts fs)[k]? = some p →
        5 + (p.map Field.width).sum ≤ 48 ∧
        (∀ f q, (parts fs)[k + 1]? = some (f :: q) →
          48 < 5 + (p.map Field.width).sum + f.width) ∧
        replyPart fs k = ⟨.done, bytesOfNat 1 k ++ bytesOfNat 1 (parts fs).length ++
          bytesOfNat 2 (presenceMask p) ++ p.flatMap Field.bytes⟩) ∧
      (∀ k : Nat, (parts fs).length ≤ k → replyPart fs k = .plain .refusedValue))

/-! ### Table loads (R3 to R5, R34, R38, R39, R105, R131, R132, R167) -/

/-- R167, R26: LOAD ROW of table 1 stores each field in its range, whatever start mode the row may have;
a change of P or W clears the balance window and begins a period, with one notice where the circulation
state changes, and any other load leaves every other part of the state as it was. -/
def Obligations.LoadSettingsStoresTheRowInRange : Prop :=
  ∀ (h : ReqHeader) (row : Byte) (f : SettingsForm) (s : State), s.ready →
    (row ≠ 0 → exec (.loadRowSettings h row f) s = answers s h 3 (.plain .refusedUnknown)) ∧
    (row = 0 → f.startMode ≠ 1 → f.startMode ≠ 2 →
      exec (.loadRowSettings h row f) s = answers s h 3 (.plain .refusedValue)) ∧
    (∀ m : Mode, row = 0 → f.startMode.toNat = m.code → m = .monitor ∨ m = .supervised →
      let r : Settings := {
        trunk := max 1 (min f.trunk.toNat 62), startMode := m,
        period := max 2 (min f.period.toNat 30), window := max 4 (min f.window.toNat 16),
        settle := max 1 (min f.settle.toNat 30), step := max 250 (min f.step.toNat 2000),
        fillMark := min f.fillMark.toNat 32, ticketBit := max 10 (min f.ticketBit.toNat 16),
        flowback := min f.flowback.toNat 120, noiseFloor := min f.noiseFloor.toNat 2000 }
      ∃ s', exec (.loadRowSettings h row f) s = answers s' h 3
          (.plain (if r.trunk = f.trunk.toNat ∧ r.period = f.period.toNat ∧
              r.window = f.window.toNat ∧ r.settle = f.settle.toNat ∧
              r.step = f.step.toNat ∧ r.fillMark = f.fillMark.toNat ∧
              r.ticketBit = f.ticketBit.toNat ∧ r.flowback = f.flowback.toNat ∧
              r.noiseFloor = f.noiseFloor.toNat
              then .done else .doneClamped)) ∧
        s'.tables = { s.tables with settings := r } ∧
        (r.period = s.settings.period → r.window = s.settings.window →
          s' = { s with tables := { s.tables with settings := r } }) ∧
        (r.period ≠ s.settings.period ∨ r.window ≠ s.settings.window →
          windowCleared s s' ∧ s'.circ.heldMean = s.circ.heldMean ∧
          keepsAllBut [.tables, .circ, .depth, .recorder, .banks, .billing, .trunk] s s'))

/-- R3 to R5, R26: LOAD ROW of table 2 refuses an index above 12, a bad identity, and an enabled row
whose stream another enabled row names; else it stores the row in range and puts the input into its load
state. A row that feeds the balance clears the window, and FLOW_OUT's drops the held mean; any other load is
followed by the depth unit's tests. That the clamps bind an input of every kind is the model's choice
(log 33), and so are the aux field read unsigned (log 28) and the last conditioned value absent in the load
state (log 39). -/
def Obligations.LoadChannelMapStoresTheRowAndResetsTheInput : Prop :=
  ∀ (h : ReqHeader) (row : Byte) (f : ChannelForm) (s : State), s.ready →
    (12 < row.toNat →
      exec (.loadRowChannelMap h row f) s = answers s h 3 (.plain .refusedUnknown)) ∧
    (∀ i : InputId, row.toNat = i.val →
      (¬(1 ≤ f.node.toNat ∧ f.node.toNat ≤ 62) ∨ ¬(f.kind = 1 ∨ f.kind = 2) ∨ 15 < f.channel.toNat ∨
        (f.enabled ≠ 0 ∧ ∃ j : InputId, j ≠ i ∧ (s.tables.channels[j]).enabled = true ∧
          (s.tables.channels[j]).node = f.node.toNat ∧ (s.tables.channels[j]).kind = f.kind.toNat ∧
          (s.tables.channels[j]).channel = f.channel.toNat) →
        exec (.loadRowChannelMap h row f) s = answers s h 3 (.plain .refusedValue)) ∧
      (1 ≤ f.node.toNat → f.node.toNat ≤ 62 → f.kind = 1 ∨ f.kind = 2 → f.channel.toNat ≤ 15 →
        (f.enabled = 0 ∨ ∀ j : InputId, j ≠ i → (s.tables.channels[j]).enabled = true →
          ¬((s.tables.channels[j]).node = f.node.toNat ∧ (s.tables.channels[j]).kind = f.kind.toNat ∧
            (s.tables.channels[j]).channel = f.channel.toNat)) →
        let low := max (-100000) (min f.low.toInt 100000)
        let r : ChannelRow := {
          enabled := f.enabled != 0, node := f.node.toNat, kind := f.kind.toNat,
          channel := f.channel.toNat, gain := f.gain.toInt,
          offset := max (-100000) (min f.offset.toInt 100000), low := low,
          high := max low (max (-100000) (min f.high.toInt 100000)),
          depth := if f.depth.toNat ≤ 1 then 1 else if f.depth.toNat < 4 then 2
            else if f.depth.toNat < 8 then 4 else 8,
          stale := max 100 (min f.stale.toNat 10000), mandatory := f.mandatory != 0,
          aux := if i = 0 then max 100 (min f.aux.toNat 20000)
            else if 9 ≤ i.val then max 1 (min f.aux.toNat 200000) else f.aux.toNat }
        ∃ s', exec (.loadRowChannelMap h row f) s = answers s' h 3 (.plain
            (if r.offset = f.offset.toInt ∧ r.low = f.low.toInt ∧ r.high = f.high.toInt ∧
              r.depth = f.depth.toNat ∧ r.stale = f.stale.toNat ∧ r.aux = f.aux.toNat
              then .done else .doneClamped)) ∧
          s'.tables = { s.tables with channels := s.tables.channels.set i r } ∧
          s'.inputs = s.inputs.set i { Input.afterReset with historyDropped := true } ∧
          keepsAllBut [.tables, .inputs, .circ, .depth, .recorder, .banks, .billing, .trunk] s s' ∧
          (i.val ∈ [5, 6, 7, 9, 10, 11, 12] → windowCleared s s' ∧
            s'.circ.heldMean = if i = 5 then none else s.circ.heldMean) ∧
          (i.val ∉ [5, 6, 7, 9, 10, 11, 12] → s'.circ = s.circ ∧ testedAfter [.tables, .inputs] s s')))

/-- R38, R26, R158: LOAD ROW of table 3 refuses an index above 1 and a node that is above 62, the other
pump's or the handler's. It stores the row in range and clears the window. A changed node puts the pump
to rates 0 and drops the setpoint waiting for the old node; an unchanged one lowers the rates to the new
max rate, in SUPERVISED and STANDBY with a setpoint. -/
def Obligations.LoadPumpTableStoresTheRowAndBoundsThePump : Prop :=
  ∀ (h : ReqHeader) (row : Byte) (f : PumpForm) (s : State), s.ready →
    (1 < row.toNat → exec (.loadRowPumpTable h row f) s = answers s h 3 (.plain .refusedUnknown)) ∧
    (∀ p : PumpId, row.toNat = p.val →
      (62 < f.node.toNat ∨ f.node ≠ 0 ∧ (f.node.toNat = (s.tables.pumps[1 - p]).node ∨
          f.node.toNat = s.tables.limits.handler) →
        exec (.loadRowPumpTable h row f) s = answers s h 3 (.plain .refusedValue)) ∧
      (f.node.toNat ≤ 62 → f.node = 0 ∨ f.node.toNat ≠ (s.tables.pumps[1 - p]).node ∧
          f.node.toNat ≠ s.tables.limits.handler →
        let r : PumpRow := {
          node := f.node.toNat, displacement := max 100 (min f.displacement.toNat 60000),
          efficiency := max 50 (min f.efficiency.toNat 100), maxRate := max 1 (min f.maxRate.toNat 200),
          rampRate := max 1 (min f.rampRate.toNat 50),
          plausibility := max 1 f.plausibility.toNat }
        let u := s.pumpCtl.pumps[p]
        let held := s.heldAtZero
        ∃ s', exec (.loadRowPumpTable h row f) s = answers s' h 3
            (.plain (if r.displacement = f.displacement.toNat ∧
                r.efficiency = f.efficiency.toNat ∧ r.maxRate = f.maxRate.toNat ∧
                r.rampRate = f.rampRate.toNat ∧ r.plausibility = f.plausibility.toNat
                then .done else .doneClamped)) ∧
          s'.tables = { s.tables with pumps := s.tables.pumps.set p r } ∧
          windowCleared s s' ∧ s'.circ.heldMean = s.circ.heldMean ∧
          keepsAllBut [.tables, .circ, .pumpCtl, .depth, .recorder, .banks, .billing, .trunk] s s' ∧
          (r.node ≠ (s.tables.pumps[p]).node →
            s'.trunk.setpoints = s.trunk.setpoints.filter (·.node != (s.tables.pumps[p]).node) ∧
            s'.pumpCtl = { s.pumpCtl with pumps := s.pumpCtl.pumps.set p { u with
              requested := 0, commanded := 0, notFollowing := 0, saturated := false,
              nodeRate := none,
              control := if r.node ≠ 0 ∧ held = true then .forcedOff else .stopped } }) ∧
          (r.node = (s.tables.pumps[p]).node → u.requested ≤ r.maxRate → u.commanded ≤ r.maxRate →
            s'.pumpCtl = s.pumpCtl ∧ s'.trunk.setpoints = s.trunk.setpoints) ∧
          (r.node = (s.tables.pumps[p]).node → r.maxRate < u.requested → u.commanded ≤ u.requested →
            let lowered : Pump := { u with
              requested := r.maxRate, commanded := min u.commanded r.maxRate, saturated := true,
              control := if held = true then .forcedOff
                else if r.maxRate ≤ u.commanded then .steady
                else if s.riseHeld = true then .rampHeld else .ramping }
            (s.commanding = true → r.maxRate < u.commanded →
              s'.pumpCtl = { s.pumpCtl with
                pumps := s.pumpCtl.pumps.set p { lowered with nodeRate := some r.maxRate } } ∧
              s'.trunk.setpoints =
                (s.trunk.queueSetpoint ⟨r.node, r.maxRate, s.trunkAddr⟩).setpoints) ∧
            (s.commanding = false ∨ u.commanded ≤ r.maxRate →
              s'.pumpCtl = { s.pumpCtl with pumps := s.pumpCtl.pumps.set p lowered } ∧
              s'.trunk.setpoints = s.trunk.setpoints))))

/-- R39, R34, R105, R60, R176: LOAD ROW of table 4 refuses an index above 0 and a handler node above 62 or
that is a pump node, stores the row in range, and drops the pending handler command where the handler node
changes; the depth unit's tests follow (R86, R91). Tables 5 and 6 refuse an index above 15, store the row in
range and change nothing else; in table 6 an unassigned flag bit is dropped and the value keeps only bits of
the mask. -/
def Obligations.LoadLimitsThresholdsAndClasses : Prop :=
  (∀ (h : ReqHeader) (row : Byte) (f : LimitsForm) (s : State), s.ready →
      (row ≠ 0 → exec (.loadRowInterlockLimits h row f) s = answers s h 3 (.plain .refusedUnknown)) ∧
      (row = 0 → 62 < f.handler.toNat ∨ f.handler ≠ 0 ∧ (∃ p : PumpId,
          f.handler.toNat = (s.tables.pumps[p]).node) →
        exec (.loadRowInterlockLimits h row f) s = answers s h 3 (.plain .refusedValue)) ∧
      (row = 0 → f.handler.toNat ≤ 62 → f.handler = 0 ∨ (∀ p : PumpId,
          f.handler.toNat ≠ (s.tables.pumps[p]).node) →
        let trip := max 500 (min f.trip.toNat 30000)
        let r : Limits := {
          trip := trip, hysteresis := min trip (max 100 (min f.hysteresis.toNat 5000)),
          warn := min f.warn.toNat trip, bleed := min f.bleed.toNat 1000, stop := min f.stop.toNat 10,
          wob := max 5 (min f.wob.toNat 500), distance := max 10 (min f.distance.toNat 1000),
          handler := f.handler.toNat, timeout := max 10 (min f.timeout.toNat 300) }
        ∃ s', exec (.loadRowInterlockLimits h row f) s = answers s' h 3
            (.plain (if r.trip = f.trip.toNat ∧ r.hysteresis = f.hysteresis.toNat ∧
                r.warn = f.warn.toNat ∧ r.bleed = f.bleed.toNat ∧ r.stop = f.stop.toNat ∧
                r.wob = f.wob.toNat ∧ r.distance = f.distance.toNat ∧
                r.timeout = f.timeout.toNat
                then .done else .doneClamped)) ∧
          s'.tables = { s.tables with limits := r } ∧
          s'.tracker = { s.tracker with
            command := if r.handler = s.tables.limits.handler then s.tracker.command else none } ∧
          testedAfter [.tables, .tracker] s s' ∧
          keepsAllBut [.tables, .tracker, .depth, .recorder, .banks, .billing, .trunk] s s')) ∧
  (∀ (h : ReqHeader) (row : Byte) (th : ThresholdForm) (cl : ClassForm) (s : State), s.ready →
      (15 < row.toNat →
        exec (.loadRowCirculationThresholds h row th) s = answers s h 3 (.plain .refusedUnknown) ∧
        exec (.loadRowStrataClassTable h row cl) s = answers s h 3 (.plain .refusedUnknown)) ∧
      (∀ i : Fin 16, row.toNat = i.val →
        let lossWatch := max 1000 (min th.lossWatch.toNat 10000000)
        let gainWatch := max 1000 (min th.gainWatch.toNat 10000000)
        let r : Thresholds := {
          lossWatch := lossWatch, lossLevel := max lossWatch (min th.lossLevel.toNat 10000000),
          gainWatch := gainWatch, gainLevel := max gainWatch (min th.gainLevel.toNat 10000000),
          ratio := min th.ratio.toNat 90 }
        let k : ClassRow := {
          enabled := cl.enabled != 0, code := min cl.code.toNat 14, piLow := cl.piLow.toNat,
          piHigh := max cl.piLow.toNat cl.piHigh.toNat, trLow := cl.trLow.toNat,
          trHigh := max cl.trLow.toNat cl.trHigh.toNat, mask := cl.mask.setWidth 10,
          value := (cl.value &&& cl.mask).setWidth 10 }
        exec (.loadRowCirculationThresholds h row th) s =
          answers { s with tables := { s.tables with thresholds := s.tables.thresholds.set i r } } h 3
            (.plain (if r.lossWatch = th.lossWatch.toNat ∧ r.lossLevel = th.lossLevel.toNat ∧
              r.gainWatch = th.gainWatch.toNat ∧ r.gainLevel = th.gainLevel.toNat ∧
              r.ratio = th.ratio.toNat then .done else .doneClamped)) ∧
        exec (.loadRowStrataClassTable h row cl) s =
          answers { s with tables := { s.tables with classes := s.tables.classes.set i k } } h 3
            (.plain (if k.code = cl.code.toNat ∧ k.piHigh = cl.piHigh.toNat ∧
              k.trHigh = cl.trHigh.toNat ∧ k.mask.toNat = cl.mask.toNat ∧
              k.value.toNat = cl.value.toNat then .done else .doneClamped))))

/-- R131 to R133: LOAD ROW of table 7 refuses, in this order, every load in STARTING, an index above 23, a
load while the job is in progress, a kind or key out of range, a BAND row that covers no depth, and a row that
conflicts with another or is a ninth BAND row. Else it stores the row in range and changes nothing else. -/
def Obligations.LoadTariffJudgesAndStoresTheRow : Prop :=
  ∀ (h : ReqHeader) (row : Byte) (f : TariffForm) (s : State), s.slotOccupied = false →
    let rate := min f.rate.toNat 1000000
    let cut := decide (1000000 < f.rate.toNat)
    let lo := min f.key.toNat 2000
    let hi := min f.bandTo.toNat 2000
    let others := (List.finRange 24).filter (·.val ≠ row.toNat)
    let stores (r : Tariff) (changed : Bool) :=
      ∀ i : Fin 24, row.toNat = i.val → exec (.loadRowTariffTable h row f) s =
        answers { s with tables := { s.tables with tariff := s.tables.tariff.set i r } } h 3
          (.plain (if changed = true then .doneClamped else .done))
    let refused (c : ReplyCode) :=
      exec (.loadRowTariffTable h row f) s = answers s h 3 (.plain c)
    (s.mode = .starting → refused .refusedState) ∧
    (s.mode ≠ .starting → 23 < row.toNat → refused .refusedUnknown) ∧
    (s.mode ≠ .starting → row.toNat ≤ 23 → s.jobInProgress = true → refused .refusedState) ∧
    (s.mode ≠ .starting → row.toNat ≤ 23 → s.jobInProgress = false →
      (5 < f.kind.toNat → refused .refusedValue) ∧
      (f.kind = 0 → stores .empty false) ∧
      (f.kind = 1 → 6 < f.key.toNat → refused .refusedValue) ∧
      (f.kind = 1 → f.key.toNat ≤ 6 →
        ((∃ j ∈ others, ∃ q, s.tables.tariff[j] = .activity f.key.toNat q) →
          refused .refusedValue) ∧
        ((∀ j ∈ others, ∀ q, s.tables.tariff[j] ≠ .activity f.key.toNat q) →
          stores (.activity f.key.toNat rate) cut)) ∧
      (f.kind = 2 → hi ≤ lo → refused .refusedValue) ∧
      (f.kind = 2 → lo < hi →
        (((∃ j ∈ others, ∃ a b q, s.tables.tariff[j] = .band a b q ∧ a < hi ∧ lo < b) ∨
            8 ≤ others.countP (fun j => (s.tables.tariff[j]).band?.isSome)) →
          refused .refusedValue) ∧
        ((∀ j ∈ others, ∀ a b q, s.tables.tariff[j] = .band a b q → hi ≤ a ∨ b ≤ lo) →
          others.countP (fun j => (s.tables.tariff[j]).band?.isSome) < 8 →
          stores (.band lo hi rate)
            (cut || decide (2000 < f.key.toNat) || decide (2000 < f.bandTo.toNat)))) ∧
      (f.kind = 3 → 15 < f.key.toNat → refused .refusedValue) ∧
      (f.kind = 3 → f.key.toNat ≤ 15 →
        ((∃ j ∈ others, ∃ q, s.tables.tariff[j] = .surcharge f.key.toNat q) →
          refused .refusedValue) ∧
        ((∀ j ∈ others, ∀ q, s.tables.tariff[j] ≠ .surcharge f.key.toNat q) →
          stores (.surcharge f.key.toNat (min f.rate.toNat 300)) (decide (300 < f.rate.toNat)))) ∧
      (f.kind = 4 →
        ((∃ j ∈ others, ∃ q, s.tables.tariff[j] = .mudLost q) → refused .refusedValue) ∧
        ((∀ j ∈ others, ∀ q, s.tables.tariff[j] ≠ .mudLost q) → stores (.mudLost rate) cut)) ∧
      (f.kind = 5 → ¬(1 ≤ f.key.toNat ∧ f.key.toNat ≤ 255) → refused .refusedValue) ∧
      (f.kind = 5 → 1 ≤ f.key.toNat → f.key.toNat ≤ 255 →
        ((∃ j ∈ others, ∃ q, s.tables.tariff[j] = .product f.key.toNat q) → refused .refusedValue) ∧
        ((∀ j ∈ others, ∀ q, s.tables.tariff[j] ≠ .product f.key.toNat q) →
          stores (.product f.key.toNat rate) cut)))

/-- R169, R5, R26, R38, R60: CLEAR TABLES is refused while a job is in progress; else every loadable table
takes its defaults, every input its load state, both pumps become unused, the window is cleared and the
pending handler command is dropped. The reply goes out with the new trunk address 60. The loads of one
event clear the window once (log 16), and no input has a last conditioned value after it (log 39). -/
def Obligations.ClearTablesRestoresTheDefaults : Prop :=
  ∀ (h : ReqHeader) (s : State), s.ready →
    (s.jobInProgress = true → exec (.clearTables h) s = answers s h 5 (.plain .refusedState)) ∧
    (s.jobInProgress = false → ∃ s', exec (.clearTables h) s = answers s' h 5 (.plain .done) ∧
      s'.tables = .default ∧ s'.trunkAddr = 60 ∧
      s'.inputs = Vector.replicate 13 { Input.afterReset with historyDropped := true } ∧
      windowCleared s s' ∧ s'.circ.heldMean = none ∧
      s'.tracker = { s.tracker with command := none } ∧
      (∀ p : PumpId, (s.tables.pumps[p]).node ≠ 0 →
        s'.pumpCtl.pumps[p] = { s.pumpCtl.pumps[p] with
          requested := 0, commanded := 0, control := .stopped, notFollowing := 0,
          saturated := false, nodeRate := none } ∧
        ∀ e ∈ s'.trunk.setpoints, e.node ≠ (s.tables.pumps[p]).node) ∧
      s'.pumpCtl.tripLatch = s.pumpCtl.tripLatch ∧ s'.pumpCtl.tripPressure = s.pumpCtl.tripPressure ∧
      keepsAllBut [.tables, .inputs, .circ, .pumpCtl, .tracker, .depth, .recorder, .banks, .billing,
        .trunk] s s')

/-! ### Site time, modes, restart and resets (R170 to R174) -/

/-- R171, R49 to R51: SET MODE refuses a mode other than MONITOR, SUPERVISED and STANDBY, answers DONE without
a change to the mode in force, and refuses STANDBY while the string turns or a pump is running. It enters
SUPERVISED with each used pump at its node rate record under the holds, MONITOR with the rates frozen into
the records, and STANDBY with each used pump at zero. The zeros of a latched trip stand at the head of the
setpoint queue, pump 1's first; those of an open string and of STANDBY join in the normal place (R158),
where pump 1's comes first by the model's choice (log 40). A zero queued or placed at the head also sets the
node rate record to 0 (log 20). The depth unit's tests follow a change of mode (R91). -/
def Obligations.SetModeKeepsChangesOrRefuses : Prop :=
  (∀ (h : ReqHeader) (mode : Byte) (s : State), s.ready →
      (mode = 0 ∨ 3 < mode.toNat → exec (.setMode h mode) s = answers s h 6 (.plain .refusedValue)) ∧
      (mode.toNat = s.mode.code → exec (.setMode h mode) s = answers s h 6 (.plain .done)) ∧
      (mode = 3 → s.mode ≠ .standby →
        (s.fresh inRotary = true ∧ (∃ v, (s.input inRotary).smoothed = some v ∧
            (s.tables.limits.stop : Int) < v)) ∨ s.running 0 = true ∨ s.running 1 = true →
        exec (.setMode h mode) s = answers s h 6 (.plain .refusedState))) ∧
  (∀ (h : ReqHeader) (s : State), s.ready →
      let node (p : PumpId) := (s.tables.pumps[p]).node
      let pairs (q : List SetpointEntry) := q.map fun e => (e.node, e.rate)
      let nodes := ((List.finRange 2).filter fun p => node p ≠ 0).map node
      let queued (zeroed : PumpId → Bool) : Trunk := (List.finRange 2).foldl (fun t p =>
        if zeroed p then t.queueSetpoint ⟨node p, 0, s.trunkAddr⟩ else t) s.trunk
      (s.mode = .monitor → ∃ s', exec (.setMode h 2) s = answers s' h 6 (.plain .done) ∧
        s'.mgmt = { s.mgmt with mode := .supervised } ∧
        testedAfter [.mgmt, .pumpCtl, .trunk] s s' ∧
        (s.pumpCtl.tripLatch = true → node 0 = 0 ∨ node 0 ≠ node 1 →
          pairs s'.trunk.setpoints = nodes.map (fun n => (n, 0)) ++
            pairs (s.trunk.setpoints.filter fun e => e.node ∉ nodes)) ∧
        (s.pumpCtl.tripLatch = false → s.tracker.conn ≠ .headOn →
          s'.trunk.setpoints = (queued fun p => decide (node p ≠ 0 ∧
            min ((s.pumpCtl.pumps[p]).nodeRate.getD 0) (s.tables.pumps[p]).maxRate ≠ 0)).setpoints) ∧
        keepsAllBut [.mgmt, .pumpCtl, .depth, .recorder, .banks, .billing, .trunk] s s' ∧
        s'.pumpCtl.tripLatch = s.pumpCtl.tripLatch ∧ s'.pumpCtl.tripPressure = s.pumpCtl.tripPressure ∧
        ∀ p : PumpId,
          let u := s.pumpCtl.pumps[p]
          let rate := min (u.nodeRate.getD 0) (s.tables.pumps[p]).maxRate
          let adopted : Pump := { u with
            requested := rate, commanded := rate, notFollowing := 0,
            saturated := decide ((s.tables.pumps[p]).maxRate < u.nodeRate.getD 0),
            control := if rate = 0 then .stopped else .steady }
          ((s.tables.pumps[p]).node = 0 → s'.pumpCtl.pumps[p] = u) ∧
          ((s.tables.pumps[p]).node ≠ 0 → s.pumpCtl.tripLatch = false → s.tracker.conn = .headOn →
            s'.pumpCtl.pumps[p] = adopted ∧ s'.trunk.setpoints = s.trunk.setpoints) ∧
          ((s.tables.pumps[p]).node ≠ 0 → s.pumpCtl.tripLatch = true →
            s'.pumpCtl.pumps[p] = { adopted with
              requested := 0, commanded := 0, control := .forcedOff, nodeRate := some 0 }) ∧
          ((s.tables.pumps[p]).node ≠ 0 → s.pumpCtl.tripLatch = false → s.tracker.conn ≠ .headOn →
            s'.pumpCtl.pumps[p] = { adopted with
              requested := 0, commanded := 0, control := .forcedOff,
              nodeRate := if rate = 0 then u.nodeRate else some 0 })) ∧
      (s.mode = .supervised → ∃ s', exec (.setMode h 1) s = answers s' h 6 (.plain .done) ∧
        s'.mgmt = { s.mgmt with mode := .monitor } ∧ testedAfter [.mgmt, .pumpCtl] s s' ∧
        keepsAllBut [.mgmt, .pumpCtl, .depth, .recorder, .banks, .billing, .trunk] s s' ∧
        s'.pumpCtl.tripLatch = s.pumpCtl.tripLatch ∧ s'.trunk.setpoints = s.trunk.setpoints ∧
        ∀ p : PumpId, s'.pumpCtl.pumps[p] = { s.pumpCtl.pumps[p] with
          notFollowing := 0
          nodeRate := if (s.tables.pumps[p]).node = 0 then (s.pumpCtl.pumps[p]).nodeRate
            else some (s.pumpCtl.pumps[p]).commanded }) ∧
      (s.mode = .monitor ∨ s.mode = .supervised → s.rotationAbove = false → s.anyRunning = false →
        ∃ s', exec (.setMode h 3) s = answers s' h 6 (.plain .done) ∧
          s'.mgmt = { s.mgmt with mode := .standby, remembered := some s.mode } ∧
          testedAfter [.mgmt, .pumpCtl, .trunk] s s' ∧
          s'.trunk.setpoints = (queued fun p => decide (node p ≠ 0)).setpoints ∧
          keepsAllBut [.mgmt, .pumpCtl, .depth, .recorder, .banks, .billing, .trunk] s s' ∧
          s'.pumpCtl.tripLatch = s.pumpCtl.tripLatch ∧
          s'.depth.indicated = .shutDown ∧
          (s.depth.indicated ≠ .shutDown → s'.depth.taken = .shutDown) ∧
          ∀ p : PumpId,
            ((s.tables.pumps[p]).node = 0 → s'.pumpCtl.pumps[p] = s.pumpCtl.pumps[p]) ∧
            ((s.tables.pumps[p]).node ≠ 0 → s'.pumpCtl.pumps[p] = { s.pumpCtl.pumps[p] with
                requested := 0, commanded := 0, control := .forcedOff, saturated := false,
                nodeRate := some 0 })))

/-- R171, R172, R51, R48: from STANDBY a SET MODE is a wake of cause REQUEST to the remembered mode and then,
if another mode is named, a change to it; the trip latch stays. A return to MONITOR sets the not-following
counts to 0. An accepted ROTARY_SPEED whose smoothed value comes above the rotation stop limit wakes the part
with cause ROTATION, and one at or below it does not; both end in the depth unit's tests (R91). -/
def Obligations.WakesReturnToTheRememberedMode : Prop :=
  (∀ (h : ReqHeader) (mode : Byte) (m r : Mode) (s : State), s.ready → s.mode = .standby →
      s.mgmt.remembered = some r → (r = .monitor ∨ r = .supervised) →
      mode.toNat = m.code → (m = .monitor ∨ m = .supervised) →
      ∃ s', exec (.setMode h mode) s = answers s' h 6 (.plain .done) ∧
        s'.mgmt = { s.mgmt with mode := m, remembered := none } ∧
        notified s s' .wake 3 r.code ∧ testedAfter [.mgmt, .pumpCtl, .trunk] s s' ∧
        keepsAllBut [.mgmt, .pumpCtl, .depth, .recorder, .banks, .billing, .trunk] s s' ∧
        s'.pumpCtl.tripLatch = s.pumpCtl.tripLatch ∧
        (m = r → ∀ p : PumpId, (s.tables.pumps[p]).node = 0 → s'.pumpCtl.pumps[p] =
          { s.pumpCtl.pumps[p] with
            notFollowing := if r = .monitor then 0 else (s.pumpCtl.pumps[p]).notFollowing }) ∧
        (m = r → ∀ p : PumpId, (s.tables.pumps[p]).node ≠ 0 →
          (r = .monitor → s'.pumpCtl.pumps[p] = { s.pumpCtl.pumps[p] with
            requested := 0, commanded := 0, control := .stopped, nodeRate := some 0
            notFollowing := 0 }) ∧
          (r = .supervised → s.pumpCtl.tripLatch = false → s.tracker.conn = .headOn →
            s'.pumpCtl.pumps[p] = { s.pumpCtl.pumps[p] with
              requested := 0, commanded := 0, control := .stopped }) ∧
          (r = .supervised → (s.pumpCtl.tripLatch = true ∨ s.tracker.conn ≠ .headOn) →
            s'.pumpCtl.pumps[p] = s.pumpCtl.pumps[p]))) ∧
  (∀ (f : Frame) (x v : Int) (r : Mode) (s : State), f.payload.length ≤ 48 → s.mode = .standby →
      s.mgmt.remembered = some r → (r = .monitor ∨ r = .supervised) →
      s.inputOf f = some inRotary → rawOf inRotary f.payload = some x → s.isHandlerReport f = false →
      smoothedOf (pushRing (s.tables.channels[inRotary]).depth
        (if s.inputs[inRotary].state = .stale then [] else s.inputs[inRotary].ring)
        (conditioned s.tables.channels[inRotary] x)) = some v →
      ∃ s', exec (.fieldFrame f.bytes) s = .next (transmit s') ∧
        s'.inputs[inRotary].state = .fresh ∧ s'.inputs[inRotary].smoothed = some v ∧
        testedAfter [.inputs, .mgmt, .pumpCtl, .trunk] s s' ∧
        ((s.tables.limits.stop : Int) < v →
          s'.mgmt = { s.mgmt with mode := r, remembered := none } ∧
          notified s s' .wake 1 r.code) ∧
        (v ≤ (s.tables.limits.stop : Int) → s'.mgmt = s.mgmt))

/-- R170, R174: RESTART answers DONE and marks a restart as due. The restart takes place at the end of the
reply's send, as CAB_SEND_COMPLETE or RESTART_RESET (log 7), and not before; a supply reset takes place at
once. Each reset puts every block to its values after a reset and keeps the four retained areas. SET TIME
gives site time its value and clears TIME_UNSET; every second tick raises it by 1, wrapping, in every mode;
a reset puts it to 0 with TIME_UNSET set. The millisecond timer's 0 and the first tick at 1000 ms after a
reset (log 1, 3), the clock that a tick brings to its boundary (log 3) and the awaited first slips reading
(log 31) are the model's. -/
def Obligations.SiteTimeRunsAndResetsKeepTheRetainedAreas : Prop :=
  (∀ (h : ReqHeader) (s : State),
      let reset (cause : ResetCause) : State := { s with
        inputs := Vector.replicate 13 .afterReset, circ := .afterReset, pumpCtl := .afterReset,
        tracker := { s.tracker with command := none, frameErrors := 0 },
        depth := { s.depth with
          stringLength := s.tracker.length, freeze := none, awaitSlips := true, firstReport := true,
          periodHead := none, lastMovement := none, indicated := .idle, taken := .idle,
          settleDue := none },
        trunk := .afterReset,
        mgmt := {
          mode := .starting, remembered := none, siteTime := 0, timeUnset := true, cause := cause,
          lost := ⟨false, false, false, false⟩, checksDone := false, holdDue := some 5000,
          holdExpired := false, restartDue := false, clock := 0, secondDue := 1000 } }
      (s.ready → exec (.restart h) s =
        answers { s with mgmt := { s.mgmt with restartDue := true } } h 8 (.plain .done)) ∧
      exec .powerOn s = .next (reset .powerOn) ∧
      exec .supplyDip s = .next (reset .supplyDip) ∧
      (∀ f, s.mgmt.restartDue = true → s.trunk.replySlot = none →
        s.trunk.cabSending = some ⟨.reply, f⟩ →
        exec .cabSendComplete s = .next (reset .restart) ∧
        exec .restartReset s = .next (reset .restart)) ∧
      (s.mgmt.restartDue = false ∨ s.trunk.replySlot.isSome = true ∨
          (∀ c, s.trunk.cabSending = some c → c.source ≠ .reply) →
        exec .restartReset s = .next (transmit s) ∧
        ∃ t, exec .cabSendComplete s = .next t ∧ keepsAllBut [.trunk] s t)) ∧
  (∀ (h : ReqHeader) (seconds : BitVec 32) (s : State),
      (s.ready → exec (.setTime h seconds) s =
        answers { s with mgmt := { s.mgmt with siteTime := seconds, timeUnset := false } } h 7
          (.plain .done)) ∧
      (∃ t, exec .secondTick s = .next t ∧ t.mgmt = { s.mgmt with
        siteTime := s.mgmt.siteTime + 1, secondDue := s.mgmt.secondDue + 1000,
        clock := max s.mgmt.clock s.mgmt.secondDue }) ∧
      (∀ c : Instr, c = .powerOn ∨ c = .supplyDip → ∃ t, exec c s = .next t ∧
        t.mgmt.siteTime = 0 ∧ t.mgmt.timeUnset = true))

/-- R174, R126, R78, R83, R96, R97, R115: the completion of the checks restores each area that fails to its
defaults, JOB also when TABLES fails with a job in progress, and keeps an area that passes, whole. STARTING
is not over before, and it ends in the same event where nothing else is awaited (log 5). Which areas fail is
the command's operand, and a second completion is no event (log 2, 8). Where TABLES is restored the monitor
stays as it is, no window being cleared before STARTING ends (log 16), and every input takes its load state,
with no last conditioned value (log 39). The first-report mark and the freeze, which are no part of the DEPTH
area, stand (log 37). -/
def Obligations.ChecksCompleteRestoresLostAreas : Prop :=
  (∀ (failed : FailedAreas) (s : State), s.mode = .starting → s.mgmt.checksDone = false →
    let jobLost := failed.job || (failed.tables && s.jobInProgress)
    let d : Depth := { s.depth with
      stringLength := if failed.string = true then 0 else s.depth.stringLength
      anchorUncertain := s.depth.anchorUncertain ||
        (failed.string && decide (s.depth.stringLength ≠ 0) && s.depth.freeze.isNone) }
    let command := if failed.tables = true then none else s.tracker.command
    ∃ s1 s', exec (.checksComplete failed) s = .next (transmit s') ∧
      exec .endOfStarting s1 = .next (transmit s') ∧
      ((∃ i : InputId, (s1.tables.channels[i]).enabled = true ∧
        (s1.tables.channels[i]).mandatory = true ∧ s1.inputs[i].state ≠ .fresh) →
        s.mgmt.holdExpired = false → s' = s1) ∧
      s'.mgmt.checksDone = true ∧ s'.mgmt.lost = { failed with job := jobLost } ∧
      s1.mgmt = { s.mgmt with checksDone := true, lost := { failed with job := jobLost } } ∧
      s1.circ = s.circ ∧ s1.pending = s.pending ∧
      (failed.tables = true → s1.tables = .default ∧
        s1.inputs = Vector.replicate 13 { Input.afterReset with historyDropped := true } ∧
        ∀ p : PumpId, (s.tables.pumps[p]).node ≠ 0 →
          s1.pumpCtl.pumps[p] = { s.pumpCtl.pumps[p] with
            requested := 0, commanded := 0, control := .stopped, notFollowing := 0
            saturated := false, nodeRate := none }) ∧
      (failed.tables = false → s1.tables = s.tables ∧ s1.inputs = s.inputs ∧
        s1.pumpCtl = s.pumpCtl ∧ s1.trunk = s.trunk) ∧
      (failed.string = true → s1.tracker = {
        rack := Vector.replicate 64 none, stack := [], hold := none, conn := .headOn
        tallyUncertain := false, command := command, frameErrors := s.tracker.frameErrors }) ∧
      (failed.string = false → s1.tracker = { s.tracker with command := command }) ∧
      (failed.depth = true → s1.depth = { d with
        head := 0, residue := 0, lastCount := 0, corr := 0, hole := 0, freeHookload := 0
        encoderUncertain := true, anchorUncertain := false }) ∧
      (failed.depth = false → s1.depth = d) ∧
      (jobLost = true → s1.recorder = .default ∧ s1.banks = Vector.replicate 2 .free ∧
        s1.billing = .default) ∧
      (jobLost = false → s1.recorder = s.recorder ∧ s1.banks = s.banks ∧ s1.billing = s.billing)) ∧
  (∀ (failed : FailedAreas) (s : State), s.mode ≠ .starting ∨ s.mgmt.checksDone = true →
    exec (.checksComplete failed) s = .next (transmit s)) ∧
  (∀ (c : Instr) (s t : State), s.mode = .starting → s.mgmt.checksDone = false →
    (∀ failed, c ≠ .checksComplete failed) → exec c s = .next t → t.mode = .starting)

/-- R173: STARTING ends in the event in which the checks are complete and every enabled mandatory input is
FRESH or the start hold has expired, and never before: in the acceptance of a field frame, the completion of
the checks and the expiry of the start hold timer as in the command END_OF_STARTING (log 5). The mode becomes
the start mode, the first period begins with the pumps-off mark set and the pits taken, an uncertainty flag
then set marks the open interval DEPTH_UNCERTAIN (R101), the depth unit makes its tests, and START_COMPLETE
carries the cause and the lost areas. The hold's expiry stands at the deadline or later (log 2). -/
def Obligations.StartingEndsAsSoonAsItCan : Prop :=
  ∀ s : State, s.mode = .starting → s.startModeLegal →
    let fresh (s : State) : Prop := ∀ i : InputId, (s.tables.channels[i]).enabled = true →
      (s.tables.channels[i]).mandatory = true → s.inputs[i].state = .fresh
    let ends (s s' : State) : Prop :=
      let lost := s.mgmt.lost
      s'.mgmt.mode = s.settings.startMode ∧ s'.mgmt.holdDue = none ∧
      s'.circ.periodDue = some (s'.mgmt.clock + 1000 * s.settings.period) ∧
      s'.circ.pumpsOffAt = some s'.mgmt.clock ∧ pitsTaken s' ∧
      (∃ s1, s' = (react s1).raise .startComplete s.mgmt.cause.code (lost.tables.toNat +
          2 * lost.string.toNat + 4 * lost.depth.toNat + 8 * lost.job.toNat : Nat) ∧
        s1.depth = { s.depth with periodHead := some s.depth.head, lastMovement := some 0 } ∧
        s1.recorder = (if s.depth.encoderUncertain = true ∨ s.depth.anchorUncertain = true ∨
          s.tracker.tallyUncertain = true then s.recorder.marked else s.recorder) ∧
        keepsAllBut [.mgmt, .circ, .pumpCtl, .depth, .recorder, .trunk] s s1) ∧
      s'.inputs = s.inputs ∧ s'.tables = s.tables ∧
      s'.tracker = s.tracker ∧
      notified s s' .startComplete s.mgmt.cause.code (lost.tables.toNat + 2 * lost.string.toNat +
        4 * lost.depth.toNat + 8 * lost.job.toNat : Nat) ∧
      (s.settings.startMode = .monitor → s'.pumpCtl = s.pumpCtl) ∧
      (s.settings.startMode = .supervised → s.pumpCtl.tripLatch = false →
        s.tracker.conn = .headOn → ∀ p : PumpId, (s.tables.pumps[p]).node ≠ 0 →
        (s'.pumpCtl.pumps[p]).commanded =
          min ((s.pumpCtl.pumps[p]).nodeRate.getD 0) (s.tables.pumps[p]).maxRate)
    let endsIfItCan (s s' : State) : Prop :=
      (s.mgmt.checksDone = true → fresh s ∨ s.mgmt.holdExpired = true →
        ends s s' ∧ s'.mgmt.clock = s.mgmt.clock) ∧
      (s.mgmt.checksDone = false ∨ (¬fresh s ∧ s.mgmt.holdExpired = false) → s' = s)
    (∃ s', exec .endOfStarting s = .next (transmit s') ∧ endsIfItCan s s') ∧
    (∀ d, s.mgmt.holdDue = some d → s.mgmt.checksDone = true →
      ∃ s', exec .startHoldTimerExpiry s = .next (transmit s') ∧ ends s s' ∧
        s'.mgmt.clock = max s.mgmt.clock d) ∧
    (∀ d, s.mgmt.holdDue = some d → s.mgmt.checksDone = false →
      exec .startHoldTimerExpiry s = .next (transmit { s with mgmt := { s.mgmt with
        clock := max s.mgmt.clock d, holdDue := none, holdExpired := true } })) ∧
    (∀ f : Frame, f.payload.length ≤ 48 →
      ∃ s1 s', exec (.fieldFrame f.bytes) s = .next (transmit s') ∧ endsIfItCan s1 s' ∧
        keepsAllBut [.inputs, .depth, .tracker, .trunk] s s1 ∧
        (s.inputOf f = none → s1.inputs = s.inputs) ∧
        (∀ i x, s.inputOf f = some i → rawOf i f.payload = some x →
          s1.inputs[i].state = .fresh ∧ ∀ j : InputId, j ≠ i → s1.inputs[j] = s.inputs[j])) ∧
    (∀ failed : FailedAreas, s.mgmt.checksDone = false →
      ∃ s1 s', exec (.checksComplete failed) s = .next (transmit s') ∧ endsIfItCan s1 s' ∧
        s1.mode = .starting ∧ s1.mgmt.checksDone = true ∧ s1.mgmt.clock = s.mgmt.clock ∧
        s1.mgmt.holdExpired = s.mgmt.holdExpired ∧ s1.mgmt.cause = s.mgmt.cause ∧
        (failed.tables = false → s1.tables = s.tables ∧ s1.inputs = s.inputs) ∧
        (failed.tables = true → s1.tables = .default))

/-! ### Pumps (R41 to R48) -/

/-- R45, R41, R155, R156: in SUPERVISED a cab setpoint for a used pump is consumed. One above 0 is refused
under the trip latch and under an open string; an accepted one sets the requested rate, lowers the commanded
rate at once where it is above it, queues the lowered rate, and sets the control state from the rates and the
pressure as they stand, also where neither rate changes (log 48). In STANDBY one of 2 bytes has no effect;
another length is counted in both. In STARTING and MONITOR it is forwarded, and one of 2 bytes that enters the
FIFO sets the node rate record as sent. A queued setpoint takes the place of its node's waiting entry, with
the new rate, or joins the tail (R158). -/
def Obligations.PumpSetpointIsJudgedByTheMode : Prop :=
  (∀ (p : PumpId) (dest src : Addr) (tag seq a b : Byte) (payload : List Byte) (s : State),
      s.mode = .supervised → s.pumpAt dest = some p → s.isOwnAddress dest = false →
      payload.length ≤ 48 →
      let v := a.toNat * 256 + b.toNat
      let top := (s.tables.pumps[p]).maxRate
      let u := s.pumpCtl.pumps[p]
      let accepted : Pump := { u with
        requested := min v top, commanded := min u.commanded (min v top), saturated := decide (top < v),
        control := if s.heldAtZero = true then .forcedOff
          else if min v top = 0 then .stopped
          else if min v top ≤ u.commanded then .steady
          else if s.riseHeld = true then .rampHeld else .ramping }
      (payload.length ≠ 2 → exec (.pumpSetpoint dest src tag seq payload) s = .next (transmit { s with
        pumpCtl := { s.pumpCtl with badSetpoints := min 65535 (s.pumpCtl.badSetpoints + 1) } })) ∧
      (payload = [a, b] → 0 < v → s.pumpCtl.tripLatch = true →
        exec (.pumpSetpoint dest src tag seq payload) s =
          .next (transmit (s.raise .interlockRefused (129 + p.val) 12))) ∧
      (payload = [a, b] → 0 < v → s.pumpCtl.tripLatch = false → s.tracker.conn ≠ .headOn →
        exec (.pumpSetpoint dest src tag seq payload) s =
          .next (transmit (s.raise .interlockRefused (129 + p.val) 13))) ∧
      (payload = [a, b] → v = 0 ∨ (s.pumpCtl.tripLatch = false ∧ s.tracker.conn = .headOn) →
        (u.commanded ≤ min v top → exec (.pumpSetpoint dest src tag seq payload) s =
          .next (transmit { s with
            pumpCtl := { s.pumpCtl with pumps := s.pumpCtl.pumps.set p accepted } })) ∧
        (min v top < u.commanded → exec (.pumpSetpoint dest src tag seq payload) s =
          .next (transmit { s with
            pumpCtl := { s.pumpCtl with
              pumps := s.pumpCtl.pumps.set p { accepted with nodeRate := some (min v top) } }
            trunk := s.trunk.queueSetpoint ⟨dest.val, min v top, s.trunkAddr⟩ })))) ∧
  (∀ (p : PumpId) (dest src : Addr) (tag seq : Byte) (payload : List Byte) (s : State),
      s.pumpAt dest = some p → s.isOwnAddress dest = false → payload.length ≤ 48 →
      let f : Frame := ⟨dest, src, .setpoint, tag, seq, payload⟩
      (s.mode = .standby → payload.length = 2 →
        exec (.pumpSetpoint dest src tag seq payload) s = .next (transmit s)) ∧
      (s.mode = .standby → payload.length ≠ 2 →
        exec (.pumpSetpoint dest src tag seq payload) s = .next (transmit { s with
          pumpCtl := { s.pumpCtl with badSetpoints := min 65535 (s.pumpCtl.badSetpoints + 1) } })) ∧
      (s.mode = .starting ∨ s.mode = .monitor → 8 ≤ s.trunk.fieldFifo.length →
        exec (.pumpSetpoint dest src tag seq payload) s = .next (transmit { s with
          trunk := { s.trunk with dropsToField := min 65535 (s.trunk.dropsToField + 1) } })) ∧
      (s.mode = .starting ∨ s.mode = .monitor → s.trunk.fieldFifo.length < 8 →
        exec (.pumpSetpoint dest src tag seq payload) s = .next (transmit { s with
          trunk := { s.trunk with fieldFifo := s.trunk.fieldFifo ++ [f] }
          pumpCtl := { s.pumpCtl with pumps := s.pumpCtl.pumps.set p { s.pumpCtl.pumps[p] with
            nodeRate := if payload.length = 2 then some (natOfBytes payload)
              else (s.pumpCtl.pumps[p]).nodeRate } } }))) ∧
  (∀ (t : Trunk) (e : SetpointEntry),
      ((∀ q ∈ t.setpoints, q.node ≠ e.node) →
        t.queueSetpoint e = { t with setpoints := t.setpoints ++ [e] }) ∧
      (∀ before q after, t.setpoints = before ++ q :: after → q.node = e.node →
        (∀ r ∈ before ++ after, r.node ≠ e.node) →
        t.queueSetpoint e = { t with setpoints := before ++ { q with rate := e.rate } :: after }))

/-- R44, R158: an accepted standpipe pressure whose conditioned value, unsmoothed, reaches the trip limit
sets a clear latch and sends PRESSURE_TRIP. In SUPERVISED and STANDBY both used pumps go to zero with
their zeros at the head of the setpoint queue, pump 1's first; in MONITOR the pumps stay as they are.
Below the limit, or with the latch set, Pump Control keeps its state. A zero placed at the head of the
queue sets the node rate record too (log 20). -/
def Obligations.PressureTripForcesThePumpsToZero : Prop :=
  ∀ (f : Frame) (x : Int) (s : State), f.payload.length ≤ 48 → s.mode ≠ .starting →
    s.inputOf f = some inPressure → rawOf inPressure f.payload = some x →
    s.isHandlerReport f = false →
    let v := conditioned s.tables.channels[inPressure] x
    ∃ s', exec (.fieldFrame f.bytes) s = .next (transmit s') ∧
      keepsAllBut [.inputs, .pumpCtl, .trunk] s s' ∧
      ((s.tables.limits.trip : Int) ≤ v → s.pumpCtl.tripLatch = false →
        s'.pumpCtl.tripLatch = true ∧ s'.pumpCtl.tripPressure = some v ∧
        notified s s' .pressureTrip 0 v ∧
        (s.mode = .monitor → s'.pumpCtl.pumps = s.pumpCtl.pumps ∧
          s'.trunk.setpoints = s.trunk.setpoints) ∧
        (s.mode ≠ .monitor → (∀ p : PumpId,
            ((s.tables.pumps[p]).node = 0 → s'.pumpCtl.pumps[p] = s.pumpCtl.pumps[p]) ∧
            ((s.tables.pumps[p]).node ≠ 0 → s'.pumpCtl.pumps[p] = { s.pumpCtl.pumps[p] with
              requested := 0, commanded := 0, control := .forcedOff, nodeRate := some 0 })) ∧
          ((s.tables.pumps[0]).node = 0 ∨ (s.tables.pumps[0]).node ≠ (s.tables.pumps[1]).node →
            let nodes := ((List.finRange 2).filter fun p => (s.tables.pumps[p]).node ≠ 0).map
              fun p => (s.tables.pumps[p]).node
            s'.trunk.setpoints.map (fun e => (e.node, e.rate)) = nodes.map (fun n => (n, 0)) ++
              (s.trunk.setpoints.filter fun e => e.node ∉ nodes).map fun e => (e.node, e.rate)))) ∧
      (v < (s.tables.limits.trip : Int) ∨ s.pumpCtl.tripLatch = true →
        s'.pumpCtl = s.pumpCtl ∧ s'.trunk.setpoints = s.trunk.setpoints)

/-- R46: TRIP RESET is refused unless the standpipe pressure is FRESH with its last conditioned value below
the trip limit less the hysteresis. Else a set latch is cleared and the trip pressure kept; in SUPERVISED
and MONITOR each used pump goes to rates 0, STOPPED or, under an open string in SUPERVISED, FORCED_OFF,
and no setpoint is sent. -/
def Obligations.TripResetClearsTheLatch : Prop :=
  ∀ (h : ReqHeader) (s : State), s.ready →
    let limit : Int := (s.tables.limits.trip : Int) - s.tables.limits.hysteresis
    ((s.inputs[inPressure].state ≠ .fresh ∨
        ∃ v, s.inputs[inPressure].lastConditioned = some v ∧ limit ≤ v) →
      exec (.tripReset h) s = answers s h 24 (.plain .refusedState)) ∧
    (∀ v, s.inputs[inPressure].state = .fresh → s.inputs[inPressure].lastConditioned = some v →
      v < limit →
      (s.pumpCtl.tripLatch = false → exec (.tripReset h) s = answers s h 24 (.plain .done)) ∧
      (s.pumpCtl.tripLatch = true → ∃ s', exec (.tripReset h) s = answers s' h 24 (.plain .done) ∧
        keepsAllBut [.pumpCtl] s s' ∧ s'.pumpCtl.tripLatch = false ∧
        s'.pumpCtl.tripPressure = s.pumpCtl.tripPressure ∧
        s'.pumpCtl.badSetpoints = s.pumpCtl.badSetpoints ∧
        ∀ p : PumpId, s'.pumpCtl.pumps[p] =
          if s.mode = .standby ∨ (s.tables.pumps[p]).node = 0 then s.pumpCtl.pumps[p]
          else { s.pumpCtl.pumps[p] with
            requested := 0, commanded := 0
            control := if s.mode = .supervised ∧ s.tracker.conn ≠ .headOn then .forcedOff
              else .stopped }))

/-- R42, R70, R99, R136: what a second tick does beside site time. In SUPERVISED each used pump below its
requested rate, under no hold, rises by its ramp rate or is RAMP_HELD; with the head on and the string
turning every stack entry gains a second; under taken DRILLING the open interval gains a second and the
input values; while the job is OPEN the metered seconds and the taken activity's seconds rise. -/
def Obligations.SecondTickRampsGathersAndMeters : Prop :=
  ∀ s : State, ∃ s', exec .secondTick s = .next (transmit s') ∧
    keepsAllBut [.pumpCtl, .tracker, .recorder, .banks, .billing, .trunk, .mgmt] s s' ∧
    (∀ p : PumpId,
      let u := s.pumpCtl.pumps[p]
      let rate := min u.requested (u.commanded + (s.tables.pumps[p]).rampRate)
      (s.mode ≠ .supervised ∨ (s.tables.pumps[p]).node = 0 ∨ s.heldAtZero = true ∨
          u.requested ≤ u.commanded → s'.pumpCtl.pumps[p] = u) ∧
      (s.mode = .supervised → (s.tables.pumps[p]).node ≠ 0 → s.heldAtZero = false →
        u.commanded < u.requested →
        (s.riseHeld = true → s'.pumpCtl.pumps[p] = { u with control := .rampHeld }) ∧
        (s.riseHeld = false → 0 < (s.tables.pumps[p]).rampRate →
          s'.pumpCtl.pumps[p] = { u with
            commanded := rate, nodeRate := some rate
            control := if rate = u.requested then .steady else .ramping } ∧
          (∃ e ∈ s'.trunk.setpoints, e.node = (s.tables.pumps[p]).node) ∧
          ((s.tables.pumps[0]).node ≠ (s.tables.pumps[1]).node →
            ∃ e ∈ s'.trunk.setpoints, e.node = (s.tables.pumps[p]).node ∧ e.rate = rate)))) ∧
    s'.tracker = (if s.mode ≠ .starting ∧ s.tracker.conn = .headOn ∧ s.rotationAbove = true then
      { s.tracker with
        stack := s.tracker.stack.map fun r => { r with seconds := min 4294967295 (r.seconds + 1) } }
      else s.tracker) ∧
    (s.mode ≠ .starting → s.depth.taken = .drilling → ∀ i, s.recorder.interval = some i →
      s'.recorder = { s.recorder with interval := some { i with
        seconds := min 4294967295 (i.seconds + 1)
        wobSum := i.wobSum + s.wob
        torqueSum := i.torqueSum + (s.inputs[inTorque].smoothed).getD 0
        rpmSum := i.rpmSum + (s.inputs[inRotary].smoothed).getD 0
        pressureSum := i.pressureSum + (s.inputs[inPressure].smoothed).getD 0
        flags := if s.inputs[inHookload].state = .fresh ∧ s.inputs[inTorque].state = .fresh ∧
            s.inputs[inRotary].state = .fresh ∧ s.inputs[inPressure].state = .fresh then i.flags
          else i.flags ||| 8#10 } }) ∧
    (s.mode = .starting ∨ s.depth.taken ≠ .drilling ∨ s.recorder.interval = none →
      s'.recorder = s.recorder) ∧
    (s.mode = .starting ∨ s.job.state ≠ .opened → s'.billing = s.billing ∧ s'.banks = s.banks) ∧
    (s.mode ≠ .starting → s.job.state = .opened →
      s'.job.metered = min 4294967295 (s.job.metered + 1) ∧ s'.banks = s.banks ∧
      (s'.billing.tickets = s.billing.tickets →
        s'.billing.acc = { s.billing.acc with
          seconds := s.billing.acc.seconds.set s.depth.taken.code
            (min 4294967295 (s.billing.acc.seconds[s.depth.taken.code] + 1)) }))

/-- R43, R38, section 3.2: every step keeps the law of the pumps: rates 0 under a hold, no rate above the
max rate, no commanded above the requested rate, and a control state that shows the rates of a used pump. -/
def Obligations.EveryStepKeepsThePumpLaw : Prop :=
  ∀ s t : State, s.pumpLaw → step s = .next t → t.pumpLaw

/-! ### The drill string and the rod rack (R54 to R76) -/

/-- R59, R61 to R64: in SUPERVISED and STANDBY a malformed handler command is consumed and counted. A
well-formed one is tested in the order of R62 and R63: the first test that fails refuses it with its reason
and changes nothing else, and one that passes is forwarded and recorded with the handler timer. In MONITOR
it is forwarded unjudged, and a well-formed one replaces the pending command whether or not the frame found
a place; in STARTING it is forwarded only. -/
def Obligations.HandlerCommandIsJudgedOrForwarded : Prop :=
  (∀ (dest src : Addr) (tag seq a slot : Byte) (payload : List Byte) (s : State),
      (s.mode = .supervised ∨ s.mode = .standby) → s.isOwnAddress dest = false →
      s.pumpAt dest = none → s.tables.limits.handler ≠ 0 → dest.val = s.tables.limits.handler →
      payload.length ≤ 48 →
      let t := s.tracker
      let runs (c : HandlerCommandArm) := exec (.handlerCommand dest src tag seq payload) s = c.outcome s
      let busy := t.command.isSome = true
      let slips := s.inputs[inSlips].state = .fresh ∧ s.inputs[inSlips].smoothed = some 1
      let still := s.inputs[inRotary].state = .fresh ∧
        ∃ v, s.inputs[inRotary].smoothed = some v ∧ v ≤ (s.tables.limits.stop : Int)
      let pumpsOn := s.running 0 = true ∨ s.running 1 = true ∨
        (s.pumpCtl.pumps[0]).commanded ≠ 0 ∨ (s.pumpCtl.pumps[1]).commanded ≠ 0
      let pressure := (s.inputs[inPressure].smoothed).getD 0
      let passes (code : HandlerCode) (arg : Option Nat) : HandlerCommandArm :=
        .recorded ⟨dest, src, .setpoint, tag, seq, payload⟩ code arg
      (payload.length ≠ 2 ∨ (payload = [a, slot] ∧ (a = 0 ∨ 6 < a.toNat ∨
          ((a = 3 ∨ a = 6) ∧ 63 < slot.toNat))) →
        runs .malformed) ∧
      (payload = [1, slot] →
        (busy → runs (.refused 1 .handlerBusy)) ∧
        (¬busy → t.conn ≠ .headOn → runs (.refused 1 .wrongState)) ∧
        (¬busy → t.conn = .headOn → ¬slips → runs (.refused 1 .slipsOpen)) ∧
        (¬busy → t.conn = .headOn → slips → ¬still → runs (.refused 1 .rotating)) ∧
        (¬busy → t.conn = .headOn → slips → still → pumpsOn → runs (.refused 1 .pumpsOn)) ∧
        (¬busy → t.conn = .headOn → slips → still → ¬pumpsOn →
          s.inputs[inPressure].state ≠ .fresh → runs (.refused 1 .pressureUnknown)) ∧
        (¬busy → t.conn = .headOn → slips → still → ¬pumpsOn → s.inputs[inPressure].state = .fresh →
          ((s.tables.limits.bleed : Int) < pressure → runs (.refused 1 .pressureHigh)) ∧
          (pressure ≤ (s.tables.limits.bleed : Int) → runs (passes .breakHead none)))) ∧
      (payload = [2, slot] →
        (busy → runs (.refused 2 .handlerBusy)) ∧
        (¬busy → t.conn ≠ .headOffEmpty → runs (.refused 2 .wrongState)) ∧
        (¬busy → t.conn = .headOffEmpty → runs (passes .makeHead none))) ∧
      (payload = [3, slot] → slot.toNat ≤ 63 →
        (busy → runs (.refused 3 .handlerBusy)) ∧
        (¬busy → t.conn ≠ .headOffEmpty → runs (.refused 3 .wrongState)) ∧
        (¬busy → t.conn = .headOffEmpty → t.slot slot.toNat = none → runs (.refused 3 .slotEmpty)) ∧
        (¬busy → t.conn = .headOffEmpty → t.slot slot.toNat ≠ none → 128 ≤ t.stack.length →
          runs (.refused 3 .stringFull)) ∧
        (¬busy → t.conn = .headOffEmpty → t.slot slot.toNat ≠ none → t.stack.length < 128 →
          (¬slips → runs (.refused 3 .slipsOpen)) ∧
          (slips → runs (passes .pick (some slot.toNat))))) ∧
      (payload = [4, slot] →
        let ready := t.conn = .headOffHolding ∧ ∃ r, t.hold = some (r, Source.rack)
        (busy → runs (.refused 4 .handlerBusy)) ∧
        (¬busy → ¬ready → runs (.refused 4 .wrongState)) ∧
        (¬busy → ready → 128 ≤ t.stack.length → runs (.refused 4 .stringFull)) ∧
        (¬busy → ready → t.stack.length < 128 → (¬slips → runs (.refused 4 .slipsOpen)) ∧
          (slips → runs (passes .makeRod none)))) ∧
      (payload = [5, slot] →
        let rodOnTop := ∃ r, t.stack.getLast? = some r ∧ r.kind = .rod
        (busy → runs (.refused 5 .handlerBusy)) ∧
        (¬busy → t.conn ≠ .headOffEmpty → runs (.refused 5 .wrongState)) ∧
        (¬busy → t.conn = .headOffEmpty → ¬rodOnTop → runs (.refused 5 .noRodOnTop)) ∧
        (¬busy → t.conn = .headOffEmpty → rodOnTop → ¬slips → runs (.refused 5 .slipsOpen)) ∧
        (¬busy → t.conn = .headOffEmpty → rodOnTop → slips →
          (¬still → runs (.refused 5 .rotating)) ∧ (still → runs (passes .breakRod none)))) ∧
      (payload = [6, slot] → slot.toNat ≤ 63 →
        let ready := t.conn = .headOffHolding ∧ ∃ r, t.hold = some (r, Source.string)
        (busy → runs (.refused 6 .handlerBusy)) ∧
        (¬busy → ¬ready → runs (.refused 6 .wrongState)) ∧
        (¬busy → ready → t.slot slot.toNat ≠ none → runs (.refused 6 .slotFull)) ∧
        (¬busy → ready → t.slot slot.toNat = none → runs (passes .lay (some slot.toNat))))) ∧
  (∀ (dest src : Addr) (tag seq : Byte) (payload : List Byte) (s : State),
      s.isOwnAddress dest = false → s.pumpAt dest = none → s.tables.limits.handler ≠ 0 →
      dest.val = s.tables.limits.handler → payload.length ≤ 48 →
      let f : Frame := ⟨dest, src, .setpoint, tag, seq, payload⟩
      (s.mode = .starting →
        exec (.handlerCommand dest src tag seq payload) s = .next (transmit (s.offerField f))) ∧
      (s.mode = .monitor → ∀ (code : HandlerCode) (slot : Byte),
        payload = [BitVec.ofNat 8 code.code, slot] → (code.hasSlot = true → slot.toNat ≤ 63) →
        exec (.handlerCommand dest src tag seq payload) s =
          (HandlerCommandArm.recorded f code
            (if code.hasSlot = true then some slot.toNat else none)).outcome s) ∧
      (s.mode = .monitor → (payload.length ≠ 2 ∨ ∃ a slot, payload = [a, slot] ∧
          (a = 0 ∨ 6 < a.toNat ∨ ((a = 3 ∨ a = 6) ∧ 63 < slot.toNat))) →
        exec (.handlerCommand dest src tag seq payload) s = .next (transmit (s.offerField f))))

/-- R65, R66, R47, R58, R43, R83: an OK report that matches the pending command clears it and makes its move
where its condition holds. A changed string length is handed on: without the slips freeze it sets
ANCHOR_UNCERTAIN, and the depth unit's tests follow. In SUPERVISED a BREAK_HEAD completion opens the string,
and both used pumps go to rates 0 and FORCED_OFF, with a zero queued for each that was commanded above 0,
pump 1's first (log 40); a MAKE_HEAD completion closes it, and with the trip latch clear they become STOPPED.
In MONITOR a BREAK_HEAD completion leaves the pumps as they are, and a MAKE_HEAD completion makes a used pump
that is FORCED_OFF STOPPED when the latch is clear; in STANDBY neither changes the pumps. -/
def Obligations.HandlerReportMovesAndHoldsThePumps : Prop :=
  (∀ (f : Frame) (cmd : PendingCommand) (slot : Byte) (s : State), f.payload.length ≤ 48 →
      s.mode ≠ .starting → s.mgmt.remembered ≠ some .starting → s.isHandlerReport f = true →
      s.tracker.command = some cmd → f.payload = [BitVec.ofNat 8 cmd.code.code, slot, 0] →
      (cmd.slot = none ∨ cmd.slot = some slot.toNat) →
      let t := s.tracker
      let heard := condition f (s.offerCab f)
      ∃ s', exec (.fieldFrame f.bytes) s = .next (transmit s') ∧ s'.tables = s.tables ∧
        (s.inputOf f = none → heard = s.offerCab f) ∧ connHanded heard s' ∧
        (cmd.code = .breakHead → t.conn = .headOn →
          s'.tracker = { t with command := none
                                conn := if t.hold = none then .headOffEmpty else .headOffHolding }) ∧
        (cmd.code = .makeHead → t.conn = .headOffEmpty →
          s'.tracker = { t with command := none, conn := .headOn }) ∧
        (∀ r, cmd.code = .pick → t.conn = .headOffEmpty → t.hold = none →
          t.slot slot.toNat = some r → s'.tracker = { t.setSlot slot.toNat none with
            command := none, hold := some (r, .rack), conn := .headOffHolding }) ∧
        (∀ r, cmd.code = .makeRod → t.conn = .headOffHolding → t.hold = some (r, .rack) →
          t.stack.length < 128 → s'.tracker = { t with
            command := none, hold := none, conn := .headOffEmpty
            stack := t.stack ++ [{ r with runs := min 65535 (r.runs + 1) }] } ∧
          s'.depth.stringLength = t.length + r.length ∧ lengthTaken heard s') ∧
        (∀ below r, cmd.code = .breakRod → t.conn = .headOffEmpty → t.hold = none →
          t.stack = below ++ [r] → r.kind = .rod → s'.tracker = { t with
            command := none, hold := some (r, .string), conn := .headOffHolding, stack := below } ∧
          s'.depth.stringLength = t.length - r.length ∧ lengthTaken heard s') ∧
        (∀ r src, cmd.code = .lay → t.hold = some (r, src) → t.slot slot.toNat = none →
          s'.tracker = { t.setSlot slot.toNat (some r) with
            command := none, hold := none
            conn := if t.conn = .headOffHolding then .headOffEmpty else t.conn })) ∧
  (∀ (f : Frame) (cmd : PendingCommand) (slot : Byte) (s : State), f.payload.length ≤ 48 →
      s.mode ≠ .starting → s.inputOf f = none → s.isHandlerReport f = true →
      s.tracker.command = some cmd → f.payload = [BitVec.ofNat 8 cmd.code.code, slot, 0] →
      (cmd.slot = none ∨ cmd.slot = some slot.toNat) →
      ∃ s', exec (.fieldFrame f.bytes) s = .next (transmit s') ∧ connHanded s s' ∧
        (cmd.code = .breakHead → s.tracker.conn = .headOn → s'.tracker.conn ≠ .headOn) ∧
        (cmd.code = .makeHead → s.tracker.conn = .headOffEmpty → s'.tracker.conn = .headOn))

/-- R65, R67 to R69, R76: a mismatched OK report sets TALLY_UNCERTAIN, sends TALLY_MISMATCH with its cause
and moves no record; only the two head commands take the connection state with them, and a changed one is
handed to Pump Control as at a matching report (R58, R47). A matching OK report
whose move cannot be applied clears the pending command and is a mismatch of cause CANNOT_APPLY. A FAILED
report is notified and clears a matching command. A payload that is no report is counted; in STARTING an OK
report only sets TALLY_UNCERTAIN. A new setting of TALLY_UNCERTAIN outside STARTING marks the open interval
DEPTH_UNCERTAIN (R76, R101). The handler timer's expiry clears the pending command with
HANDLER_TIMEOUT; a stopped timer does not expire, and the millisecond timer stands at the deadline or later
(log 2). -/
def Obligations.HandlerMismatchesFailuresAndTimeout : Prop :=
  (∀ (f : Frame) (code : HandlerCode) (slot result : Byte) (s : State), f.payload.length ≤ 48 →
      s.mgmt.remembered ≠ some .starting → s.isHandlerReport f = true →
      let t := s.tracker
      let matched (p : PendingCommand) := p.code = code ∧ (p.slot = none ∨ p.slot = some slot.toNat)
      let conn : Conn := match code with
        | .breakHead => if t.hold = none then .headOffEmpty else .headOffHolding
        | .makeHead => .headOn
        | _ => t.conn
      let applies : Prop := match code with
        | .breakHead => t.conn = .headOn
        | .makeHead => t.conn = .headOffEmpty
        | .pick => t.conn = .headOffEmpty ∧ t.hold = none ∧ t.slot slot.toNat ≠ none
        | .makeRod => t.conn = .headOffHolding ∧ (∃ r, t.hold = some (r, Source.rack)) ∧
            t.stack.length < 128
        | .breakRod => t.conn = .headOffEmpty ∧ t.hold = none ∧
            ∃ r, t.stack.getLast? = some r ∧ r.kind = .rod
        | .lay => t.hold ≠ none ∧ t.slot slot.toNat = none
      let heard := condition f (s.offerCab f)
      let interval := if t.tallyUncertain = true then heard.recorder else heard.recorder.marked
      ∃ s', exec (.fieldFrame f.bytes) s = .next (transmit s') ∧
        (s.inputOf f = none → heard = s.offerCab f) ∧ (s.mode ≠ .starting → connHanded heard s') ∧
        ((f.payload.length ≠ 3 ∨ ∃ a, f.payload = [a, slot, result] ∧
            (a = 0 ∨ 6 < a.toNat ∨ 1 < result.toNat)) →
          s'.tracker = { t with frameErrors := min 65535 (t.frameErrors + 1) }) ∧
        (f.payload = [BitVec.ofNat 8 code.code, slot, 0] →
          (s.mode = .starting → s'.tracker = { t with tallyUncertain := true }) ∧
          (s.mode ≠ .starting → t.command = none →
            s'.tracker = { t with tallyUncertain := true, conn := conn } ∧
            s'.recorder = interval ∧ notified s s' .tallyMismatch code.code 1) ∧
          (∀ p, s.mode ≠ .starting → t.command = some p → ¬matched p →
            s'.tracker = { t with tallyUncertain := true, conn := conn } ∧
            s'.recorder = interval ∧ notified s s' .tallyMismatch code.code 2) ∧
          (∀ p, s.mode ≠ .starting → t.command = some p → matched p → ¬applies →
            s'.tracker = { t with command := none, tallyUncertain := true, conn := conn } ∧
            s'.recorder = interval ∧ notified s s' .tallyMismatch code.code 3)) ∧
        (f.payload = [BitVec.ofNat 8 code.code, slot, 1] →
          (s.mode = .starting → s'.tracker = t) ∧
          (s.mode ≠ .starting → notified s s' .handlerFailed code.code slot.toNat ∧
            (∀ p, t.command = some p → matched p → s'.tracker = { t with command := none }) ∧
            ((t.command = none ∨ ∃ p, t.command = some p ∧ ¬matched p) → s'.tracker = t)))) ∧
  ∀ s : State,
    (s.tracker.command = none → exec .handlerTimeout s = .next (transmit s)) ∧
    (∀ p, s.tracker.command = some p → ∃ s', exec .handlerTimeout s = .next (transmit s') ∧
      s'.tracker = { s.tracker with command := none } ∧
      s'.mgmt = { s.mgmt with clock := max s.mgmt.clock p.due } ∧
      notified s s' .handlerTimeout p.code.code p.timeout ∧ keepsAllBut [.tracker, .mgmt, .trunk] s s')

/-- R71 to R76, R56: the tests of RACK PUT, RACK TAKE, BHA ADD, BHA REMOVE and HOLD TO SLOT in their order,
the record each makes, moves or removes, and the reply that carries a removed record; a new string length is
handed on, and without the slips freeze sets ANCHOR_UNCERTAIN (R83). TALLY CONFIRM clears TALLY_UNCERTAIN and
changes nothing else. -/
def Obligations.RodRequestsAreTestedInOrder : Prop :=
  (∀ (h : ReqHeader) (slot : Byte) (serial : BitVec 32) (length : BitVec 16) (s : State), s.ready →
      let argsBad := 63 < slot.toNat ∨ serial = 0 ∨ 999999 < serial.toNat ∨ length.toNat < 300 ∨
        12000 < length.toNat
      let held := ∃ r ∈ s.tracker.rods, r.serial = serial.toNat
      let put (c : ReplyCode) := exec (.rackPut h slot serial length) s = answers s h 32 (.plain c)
      let take (c : ReplyCode) := exec (.rackTake h slot) s = answers s h 33 (.plain c)
      (argsBad → put .refusedValue) ∧
      (¬argsBad → s.tracker.command ≠ none → put .refusedState) ∧
      (¬argsBad → s.tracker.command = none → s.tracker.slot slot.toNat ≠ none → put .refusedState) ∧
      (¬argsBad → s.tracker.command = none → s.tracker.slot slot.toNat = none → held →
        put .refusedValue) ∧
      (¬argsBad → s.tracker.command = none → s.tracker.slot slot.toNat = none → ¬held →
        exec (.rackPut h slot serial length) s = answers { s with
          tracker := s.tracker.setSlot slot.toNat (some ⟨serial.toNat, .rod, length.toNat, 0, 0⟩) } h 32
          (.plain .done)) ∧
      (63 < slot.toNat → take .refusedValue) ∧
      (slot.toNat ≤ 63 → s.tracker.command ≠ none → take .refusedState) ∧
      (slot.toNat ≤ 63 → s.tracker.command = none → s.tracker.slot slot.toNat = none →
        take .refusedState) ∧
      (∀ r, slot.toNat ≤ 63 → s.tracker.command = none → s.tracker.slot slot.toNat = some r →
        exec (.rackTake h slot) s = answers { s with
          tracker := s.tracker.setSlot slot.toNat none } h 33
          ⟨.done, [0, 1, 0, 0] ++ sendNumber 4 false r.serial ++ sendNumber 4 false r.length ++
            sendNumber 4 false r.seconds ++ sendNumber 2 false r.runs⟩ ∧
        (s.tracker.law →
          ∀ q ∈ (s.tracker.setSlot slot.toNat none).rods, q.serial ≠ r.serial))) ∧
  (∀ (h : ReqHeader) (serial : BitVec 32) (length : BitVec 16) (s : State), s.ready →
      let t := s.tracker
      let argsBad := serial = 0 ∨ 999999 < serial.toNat ∨ length.toNat < 300 ∨ 12000 < length.toNat
      let closed := t.command ≠ none ∨ t.conn ≠ .headOffEmpty ∨ (∃ r ∈ t.stack, r.kind = .rod)
      let held := ∃ r ∈ t.rods, r.serial = serial.toNat
      let add (c : ReplyCode) := exec (.bhaAdd h serial length) s = answers s h 34 (.plain c)
      let remove (c : ReplyCode) := exec (.bhaRemove h) s = answers s h 35 (.plain c)
      (argsBad → add .refusedValue) ∧
      (¬argsBad → closed ∨ 4 ≤ t.bhaCount → add .refusedState) ∧
      (¬argsBad → ¬closed → t.bhaCount < 4 → held → add .refusedValue) ∧
      (¬argsBad → ¬closed → t.bhaCount < 4 → ¬held → ∃ s',
        exec (.bhaAdd h serial length) s = answers s' h 34 (.plain .done) ∧
        s'.tracker = { t with stack := t.stack ++ [⟨serial.toNat, .bha, length.toNat, 0, 1⟩] } ∧
        s'.depth.stringLength = t.length + length.toNat ∧ lengthTaken s s' ∧
        keepsAllBut [.tracker, .depth, .recorder, .banks, .billing, .trunk] s s') ∧
      (closed ∨ t.stack = [] → remove .refusedState) ∧
      (∀ below r, ¬closed → t.stack = below ++ [r] → ∃ s',
        exec (.bhaRemove h) s = answers s' h 35 ⟨.done, [0, 1, 0, 0] ++
          sendNumber 4 false r.serial ++ sendNumber 4 false r.length ++
          sendNumber 4 false r.seconds ++ sendNumber 2 false r.runs⟩ ∧
        s'.tracker = { t with stack := below } ∧ s'.depth.stringLength = t.length - r.length ∧
        lengthTaken s s' ∧
        keepsAllBut [.tracker, .depth, .recorder, .banks, .billing, .trunk] s s')) ∧
  (∀ (h : ReqHeader) (slot : Byte) (s : State), s.ready →
      let refused (c : ReplyCode) := exec (.holdToSlot h slot) s = answers s h 36 (.plain c)
      (63 < slot.toNat → refused .refusedValue) ∧
      (slot.toNat ≤ 63 → s.tracker.command ≠ none ∨ s.tracker.hold = none ∨
        s.tracker.slot slot.toNat ≠ none → refused .refusedState) ∧
      (∀ r src, slot.toNat ≤ 63 → s.tracker.command = none → s.tracker.hold = some (r, src) →
        s.tracker.slot slot.toNat = none →
        exec (.holdToSlot h slot) s = answers { s with
          tracker := { s.tracker with
            rack := s.tracker.rack.setIfInBounds slot.toNat (some r), hold := none
            conn := if s.tracker.conn = .headOffHolding then .headOffEmpty else s.tracker.conn } } h 36
          (.plain .done)) ∧
      exec (.tallyConfirm h) s =
        answers { s with tracker := { s.tracker with tallyUncertain := false } } h 37 (.plain .done))

/-- R54 to R58: every step keeps the law of the rods: no serial twice among the rack, the stack and the
hold, ROD records in the rack and the hold, at most 128 stack entries with at most 4 BHA below every ROD,
and a head-off state that shows whether the hold is occupied. -/
def Obligations.EveryStepKeepsTheRodLaw : Prop :=
  ∀ s t : State, s.tracker.law → step s = .next t → t.tracker.law

/-! ### Channel conditioning (R1 to R14) -/

/-- R1, R2: over stored tables an input takes exactly the field frames its enabled row names. A frame
whose payload has another length than the input accepts only raises the input's refused count, beside
being forwarded. -/
def Obligations.FieldFrameIsTakenByItsRowOrRefused : Prop :=
  ∀ (f : Frame) (i : InputId) (s : State),
    (s.tables.law → (s.inputOf f = some i ↔ (s.tables.channels[i]).enabled = true ∧
      f.src.val = (s.tables.channels[i]).node ∧ f.kind.code.toNat = (s.tables.channels[i]).kind ∧
      f.tag.toNat = (s.tables.channels[i]).channel)) ∧
    (rawOf i f.payload = none ↔ f.payload.length ∉ (if i = 0 then [4] else
      if i = 6 ∨ i = 7 then [2] else [2, 4])) ∧
    (f.payload.length ≤ 48 → s.inputOf f = some i → rawOf i f.payload = none →
      s.isHandlerReport f = false → (s.mode ≠ .starting ∨ s.mgmt.checksDone = false) →
      exec (.fieldFrame f.bytes) s = .next (transmit { s.offerCab f with
        inputs := s.inputs.set i { s.inputs[i] with
          refused := min 65535 ((s.inputs[i]).refused + 1) } }))

/-- R6, R7, R9, R10, R20: what an acceptance by a value input leaves: the conditioned value, truncated
toward minus infinity and clamped, in the smoothing ring, which a return from STALE has emptied; the mean,
truncated toward zero; the state FRESH with the stale timer started. Torque and pit levels change nothing
else of the part, and FLOW_OUT is collected into the period. -/
def Obligations.ValueInputConditionsAndSmooths : Prop :=
  ∀ (f : Frame) (i : InputId) (x : Int) (s : State), f.payload.length ≤ 48 →
    s.inputOf f = some i → i.val ∉ [0, 6, 7] → rawOf i f.payload = some x →
    let u := s.inputs[i]
    let row := s.tables.channels[i]
    let free := (x * row.gain).fdiv 1024 + row.offset
    let c := max row.low (min free row.high)
    let kept := if u.state = .stale then [] else u.ring
    let ring := if row.depth ≤ kept.length then kept.tail ++ [c] else kept ++ [c]
    let mean := ring.sum.tdiv ring.length
    ∃ s', exec (.fieldFrame f.bytes) s = .next (transmit s') ∧ s'.tables = s.tables ∧
      s'.inputs = s.inputs.set i { u with
        state := .fresh, staleDue := some (s.mgmt.clock + row.stale)
        acceptedAt := some s.mgmt.clock, lastRaw := some x, lastConditioned := some c
        clamped := decide (c ≠ free), ring := ring, smoothed := some mean } ∧
      (s.mode ≠ .starting → s.isHandlerReport f = false →
        (i = inTorque ∨ 9 ≤ i.val → keepsAllBut [.inputs, .trunk] s s') ∧
        (i = inFlowOut → keepsAllBut [.inputs, .circ, .trunk] s s' ∧
          s'.circ = { s.circ with
            flowSum := s.circ.flowSum + mean, flowCount := s.circ.flowCount + 1 }))

/-- R9, R11, R12, R14, R19, R172: a stroke report takes the new count and differences it mod 65536 against a
count it has; a delta above 0 restarts the running timer. A used pump's delta at or below its plausibility
limit is counted into the period; one above it is notified and marks the period HELD. A start of running
ends STANDBY. A stale timer's expiry makes its input STALE with its values held, and sends INPUT_LOST for a
mandatory row; a running timer's expiry ends running; a stopped timer does not expire (log 2). Both expiries
and a report with a delta end in the depth unit's tests (R86, R91). -/
def Obligations.StrokesAreCountedAndTimersExpire : Prop :=
  (∀ (f : Frame) (p : PumpId) (a b : Byte) (s : State), f.payload = [a, b] →
      s.inputOf f = some (strokeInput p) → s.mgmt.remembered ≠ some .starting →
      let u := s.inputs[strokeInput p]
      let c := a.toNat * 256 + b.toNat
      let delta := match u.lastCount with
        | some last => (c + 65536 - last) % 65536
        | none => 0
      let counted := s.mode ≠ .starting ∧ (s.tables.pumps[p]).node ≠ 0 ∧ u.lastCount ≠ none
      ∃ s', exec (.fieldFrame f.bytes) s = .next (transmit s') ∧
        s'.inputs = s.inputs.set (strokeInput p) { u with
          state := .fresh
          staleDue := some (s.mgmt.clock + (s.tables.channels[strokeInput p]).stale)
          acceptedAt := some s.mgmt.clock, lastRaw := some (c : Int), lastCount := some c
          runningDue := if 0 < delta then some (s.mgmt.clock + 2000) else u.runningDue } ∧
        (counted → delta ≤ (s.tables.pumps[p]).plausibility → s'.circ = { s.circ with
          strokes1 := s.circ.strokes1 + if p = 0 then delta else 0
          strokes2 := s.circ.strokes2 + if p = 0 then 0 else delta }) ∧
        (counted → (s.tables.pumps[p]).plausibility < delta →
          s'.circ = { s.circ with periodHeld := true } ∧
          notified s s' .pumpCountJump (p.val + 1) delta) ∧
        (s.mode ≠ .starting → ¬counted → s'.circ = s.circ) ∧
        (s.isHandlerReport f = false → s.mode ≠ .starting ∨ s.mgmt.checksDone = false →
          (u.lastCount = none → keepsAllBut [.inputs, .trunk] s s') ∧
          (u.lastCount ≠ none → testedAfter [.inputs, .circ, .pumpCtl, .mgmt, .trunk] s s')) ∧
        (∀ r, s.mode = .standby → s.mgmt.remembered = some r → u.runningDue = none → 0 < delta →
          s'.mgmt = { s.mgmt with mode := r, remembered := none } ∧ notified s s' .wake 2 r.code)) ∧
  (∀ (i : InputId) (p : PumpId) (d : Nat) (s : State),
      (s.inputs[i].staleDue = none → exec (.staleTimerExpiry i) s = .next (transmit s)) ∧
      (s.inputs[i].staleDue = some d → ∃ s',
        exec (.staleTimerExpiry i) s = .next (transmit s') ∧
        s'.inputs = s.inputs.set i { s.inputs[i] with state := .stale, staleDue := none } ∧
        testedAfter [.inputs, .mgmt, .trunk] s s' ∧
        s'.mgmt = { s.mgmt with clock := max s.mgmt.clock d } ∧
        keepsAllBut [.inputs, .mgmt, .depth, .recorder, .banks, .billing, .trunk] s s' ∧
        ((s.tables.channels[i]).mandatory = true → notified s s' .inputLost i.val
          (if i = 0 then s.depth.lastCount
           else if i = 6 ∨ i = 7 then (((s.inputs[i]).lastCount).getD 0 : Nat)
           else ((s.inputs[i]).smoothed).getD 0)) ∧
        ((s.tables.channels[i]).mandatory = false → ∀ n ∈ s'.trunk.urgent, n.kind = .inputLost →
          n ∈ s.trunk.urgent)) ∧
      (s.inputs[strokeInput p].runningDue = none →
        exec (.runningTimerExpiry p) s = .next (transmit s)) ∧
      (s.inputs[strokeInput p].runningDue = some d → ∃ s',
        exec (.runningTimerExpiry p) s = .next (transmit s') ∧
        s'.inputs = s.inputs.set (strokeInput p) { s.inputs[strokeInput p] with runningDue := none } ∧
        testedAfter [.inputs, .mgmt] s s' ∧
        s'.running p = false ∧ s'.mgmt = { s.mgmt with clock := max s.mgmt.clock d } ∧
        keepsAllBut [.inputs, .mgmt, .depth, .recorder, .banks, .billing, .trunk] s s'))

/-! ### Depth and rig activity (R80 to R94) -/

/-- R13, R80 to R82: a HEAD_POS report's difference, a signed 32-bit number, is converted with the residue.
Within the limit, 500 mm for the first report after a reset and 2000 mm later, it is applied with the head
height clamped; beyond it the head keeps its height, ENCODER_UNCERTAIN is set and DEPTH_JUMP sent, and a new
setting outside STARTING marks the open interval DEPTH_UNCERTAIN (R89, R101). The first report after a row
load only takes the count. Every report ends in the depth unit's tests, which can advance the hole (R86, R87,
R91), and leaves the free hookload, which R88 takes at HOOKLOAD acceptances (log 47). -/
def Obligations.HeadReportMovesTheHead : Prop :=
  ∀ (f : Frame) (s : State), f.payload.length = 4 → s.inputOf f = some inHeadPos →
    let n := intOfBytes f.payload
    let ppm : Int := (s.tables.channels[inHeadPos]).aux
    let numerator := (n - s.depth.lastCount).bmod (2 ^ 32) * 1000 + s.depth.residue
    let mm := numerator.fdiv ppm
    let limit : Int := if s.depth.firstReport = true then 500 else 2000
    let dropped := (s.inputs[inHeadPos]).historyDropped = true
    ∃ s', exec (.fieldFrame f.bytes) s = .next (transmit s') ∧
      s'.inputs = s.inputs.set inHeadPos { s.inputs[inHeadPos] with
        state := .fresh
        staleDue := some (s.mgmt.clock + (s.tables.channels[inHeadPos]).stale)
        acceptedAt := some s.mgmt.clock, lastRaw := some n, historyDropped := false } ∧
      s'.depth.lastCount = n ∧ s'.depth.firstReport = false ∧
      (¬dropped → |mm| ≤ limit → s'.depth.head = max 0 (min (s.depth.head + mm) 20000) ∧
        s'.depth.residue = numerator.fmod ppm ∧
        s'.depth.encoderUncertain = s.depth.encoderUncertain) ∧
      (¬dropped → limit < |mm| → s'.depth.head = s.depth.head ∧ s'.depth.residue = s.depth.residue ∧
        s'.depth.encoderUncertain = true ∧
        notified s s' .depthJump (if s.depth.firstReport = true then 1 else 0)
          (max (-2 ^ 31) (min mm (2 ^ 31 - 1)))) ∧
      (dropped → s'.depth.head = s.depth.head ∧ s'.depth.residue = 0 ∧
        s'.depth.encoderUncertain = s.depth.encoderUncertain) ∧
      (s.isHandlerReport f = false → s.mode ≠ .starting ∨ s.mgmt.checksDone = false → ∃ s1,
        s' = react s1 ∧ keepsAllBut [.inputs, .depth, .recorder, .trunk] s s1 ∧
        s1.inputs = s'.inputs ∧
        s1.depth = { s.depth with
          head := if ¬dropped ∧ |mm| ≤ limit then max 0 (min (s.depth.head + mm) 20000)
            else s.depth.head
          residue := if dropped then 0 else if |mm| ≤ limit then numerator.fmod ppm
            else s.depth.residue
          lastCount := n, firstReport := false
          encoderUncertain := s.depth.encoderUncertain || decide (¬dropped ∧ limit < |mm|) } ∧
        s1.recorder = if ¬dropped ∧ limit < |mm| ∧ s.depth.encoderUncertain = false ∧
          s.mode ≠ .starting then s.recorder.marked else s.recorder)

/-- R83 to R85: a SLIPS reading of 1 freezes the bit depth where it is and a reading of 0 releases it with
C re-anchored so that B does not move; the first reading of 1 after a reset also sets ANCHOR_UNCERTAIN, and
a new setting outside STARTING marks the open interval DEPTH_UNCERTAIN (R89, R101). Every reading ends in the
depth unit's tests. -/
def Obligations.SlipsReadingFreezesAndReleases : Prop :=
  ∀ (f : Frame) (x v : Int) (s : State), f.payload.length ≤ 48 → s.inputOf f = some inSlips →
    rawOf inSlips f.payload = some x → s.isHandlerReport f = false →
    smoothedOf (pushRing (s.tables.channels[inSlips]).depth
      (if s.inputs[inSlips].state = .stale then [] else s.inputs[inSlips].ring)
      (conditioned s.tables.channels[inSlips] x)) = some v →
    let d := s.depth
    ∃ s', exec (.fieldFrame f.bytes) s = .next (transmit s') ∧ s'.depth.awaitSlips = false ∧
      s'.depth.head = d.head ∧ s'.depth.stringLength = d.stringLength ∧
      s'.depth.encoderUncertain = d.encoderUncertain ∧
      (d.awaitSlips = true → d.freeze = none →
        (v = 1 → s'.depth.freeze = some (d.stringLength - d.head + d.corr) ∧
          s'.depth.corr = d.corr ∧ s'.depth.anchorUncertain = true) ∧
        (v ≠ 1 → s'.depth.freeze = none ∧ s'.depth.corr = d.corr ∧
          s'.depth.anchorUncertain = d.anchorUncertain)) ∧
      (d.awaitSlips = false → s'.depth.anchorUncertain = d.anchorUncertain ∧
        (d.freeze = none → v = 1 → s'.depth.corr = d.corr ∧
          s'.depth.freeze = some (d.stringLength - d.head + d.corr)) ∧
        (d.freeze = none → v ≠ 1 → s'.depth.corr = d.corr ∧ s'.depth.freeze = none) ∧
        (∀ b, d.freeze = some b → v = 1 → s'.depth.corr = d.corr ∧ s'.depth.freeze = some b) ∧
        (∀ b, d.freeze = some b → v ≠ 1 → s'.depth.freeze = none ∧
          s'.depth.corr = b - d.stringLength + d.head ∧ s'.depth.bit = b)) ∧
      (s.mode ≠ .starting ∨ s.mgmt.checksDone = false → d.awaitSlips = false ∨ d.freeze = none →
        let anchors := d.awaitSlips = true ∧ v = 1
        ∃ s1, s' = react s1 ∧ keepsAllBut [.inputs, .depth, .recorder, .trunk] s s1 ∧
          s1.depth = { d with
            awaitSlips := false
            freeze := if v = 1 then some (d.freeze.getD (d.stringLength - d.head + d.corr)) else none
            corr := match d.freeze with
              | some b => if v = 1 then d.corr else b - d.stringLength + d.head
              | none => d.corr
            anchorUncertain := d.anchorUncertain || decide anchors } ∧
          s1.recorder = if anchors ∧ d.anchorUncertain = false ∧ s.mode ≠ .starting
            then s.recorder.marked else s.recorder)

/-- R86 to R88: the unit advances D to B exactly when the five conditions hold, B is below D and the mode
is not STARTING, and never lowers it; a hookload acceptance takes the free hookload more than 500 mm off
bottom with the slips out, in every mode (log 17), and then makes the unit's tests. So does an acceptance of
ROTARY_SPEED outside STANDBY; the statements of the other inputs, of the timers, of the string length, of the
modes and of the loads say of their events that they end in these tests. -/
def Obligations.HoleAdvancesOnBottomOnly : Prop :=
  ∀ s : State,
    let wob : Int := match (s.inputs[inHookload]).smoothed with
      | some v => max (s.depth.freeHookload - v) 0
      | none => 0
    let onBottom := s.inputs[inRotary].state = .fresh ∧
      (∃ v, s.inputs[inRotary].smoothed = some v ∧ (s.tables.limits.stop : Int) < v) ∧
      (s.running 0 = true ∨ s.running 1 = true) ∧ s.inputs[inHookload].state = .fresh ∧
      (s.tables.limits.wob : Int) ≤ wob ∧ s.inputs[inHeadPos].state = .fresh ∧
      s.depth.hole - s.tables.limits.distance ≤ s.depth.bit
    (s.mode ≠ .starting → onBottom → s.depth.hole < s.depth.bit →
      (react s).depth.hole = s.depth.bit) ∧
    ((s.mode = .starting ∨ ¬onBottom ∨ s.depth.bit ≤ s.depth.hole) →
      (react s).depth.hole = s.depth.hole ∧ (react s).recorder = s.recorder ∧
      (react s).banks = s.banks ∧ (react s).billing = s.billing) ∧
    keepsAllBut [.depth, .recorder, .banks, .billing, .trunk] s (react s) ∧
    { (react s).depth with
      hole := s.depth.hole, indicated := s.depth.indicated, taken := s.depth.taken
      settleDue := s.depth.settleDue } = s.depth ∧
    (onHookload s).depth.freeHookload =
      (if s.inputs[inSlips].state = .fresh ∧
          s.inputs[inSlips].smoothed ≠ some 1 ∧ s.depth.freeze = none ∧
          s.depth.bit < s.depth.hole - 500 then (s.inputs[inHookload].smoothed).getD 0
       else s.depth.freeHookload) ∧
    keepsAllBut [.depth] s (onHookload s) ∧
    (∀ (f : Frame) (x : Int), f.payload.length ≤ 48 → s.inputOf f = some inRotary →
      rawOf inRotary f.payload = some x → s.isHandlerReport f = false → s.mode ≠ .standby →
      (s.mode ≠ .starting ∨ s.mgmt.checksDone = false) →
      ∃ s', exec (.fieldFrame f.bytes) s = .next (transmit s') ∧
        testedAfter [.inputs, .trunk] s s' ∧ s'.inputs[inRotary].state = .fresh ∧
        s'.inputs[inRotary].lastRaw = some x) ∧
    ∀ (f : Frame) (x : Int), f.payload.length ≤ 48 → s.inputOf f = some inHookload →
      rawOf inHookload f.payload = some x → s.isHandlerReport f = false →
      (s.mode ≠ .starting ∨ s.mgmt.checksDone = false) →
      let row := s.tables.channels[inHookload]
      ∃ s1, exec (.fieldFrame f.bytes) s = .next (transmit (react (onHookload s1))) ∧
        keepsAllBut [.inputs, .trunk] s s1 ∧ s1.inputs[inHookload].state = .fresh ∧
        s1.inputs[inHookload].smoothed = smoothedOf (pushRing row.depth
          (if s.inputs[inHookload].state = .stale then [] else s.inputs[inHookload].ring)
          (conditioned row x)) ∧
        ∀ j : InputId, j ≠ inHookload → s1.inputs[j] = s.inputs[j]

/-- R91, R93, R94: the indicated activity is the first line of the table that holds. Its change to
CONNECTION or SHUT_DOWN, or away from SHUT_DOWN, is taken at once with an ACTIVITY notice; another change
starts the settle timer, or stops it where the taken activity is indicated again. The timer's expiry takes
the indicated activity. Where the hole does not advance the unit's tests are this one alone. The movement is
computed at every evaluation, absent counting as none (log 18); a stopped timer does not expire, and the
millisecond timer stands at the deadline or later (log 2). -/
def Obligations.ActivityIsIndicatedAndTaken : Prop :=
  ∀ s : State,
    let d := s.depth
    let indicated : Activity :=
      if s.mode = .standby then .shutDown
      else if s.inputs[inSlips].state = .fresh ∧ s.inputs[inSlips].smoothed = some 1 then .connection
      else if s.rotationAbove = true ∧ s.onBottom = true then .drilling
      else if s.rotationAbove = true then .reaming
      else if s.running 0 = true ∨ s.running 1 = true then .circulating
      else if d.lastMovement.any (fun m => decide (200 < m)) = true ∨
        d.periodHead.any (fun h => decide (200 < |d.head - h|)) = true then .tripping
      else .idle
    let t := reindicate s
    let atOnce := indicated = .connection ∨ indicated = .shutDown ∨ d.indicated = .shutDown
    (s.mode = .starting ∨ d.indicated = indicated → t = s) ∧
    (s.mode = .starting ∨ s.onBottom = false ∨ d.bit ≤ d.hole → react s = t) ∧
    (s.mode ≠ .starting → d.indicated ≠ indicated →
      t.depth.indicated = indicated ∧ keepsAllBut [.depth, .trunk] s t ∧
      (atOnce → t.depth.taken = indicated ∧ t.depth.settleDue = none ∧
        (d.taken ≠ indicated → notified s t .activity 0 indicated.code.val)) ∧
      (¬atOnce → t.depth.taken = d.taken ∧ t.trunk = s.trunk ∧
        t.depth.settleDue = if indicated = d.taken then none
          else some (s.mgmt.clock + 1000 * s.settings.settle))) ∧
    (d.settleDue = none → exec .settleTimerExpiry s = .next (transmit s)) ∧
    (∀ due, d.settleDue = some due → ∃ s', exec .settleTimerExpiry s = .next (transmit s') ∧
      s'.depth = { d with taken := d.indicated, settleDue := none } ∧
      s'.mgmt = { s.mgmt with clock := max s.mgmt.clock due } ∧
      keepsAllBut [.depth, .mgmt, .trunk] s s' ∧
      (d.taken = d.indicated → s'.trunk = s.trunk) ∧
      (d.taken ≠ d.indicated → notified s s' .activity 0 d.indicated.code.val))

/-- R90, R107, R106: DEPTH CORRECT's refusals in their order; executed, it moves C, B and D by the same
amount, clears the residue and both flags, and hands the recorder the old and the new D: the open interval
closes at the old D, or is dropped when that is not below its top, and a CORRECTED interval opens at the new
D. The record that closes goes to the FILLING bank, to the meter while the job is OPEN, and gives the current
class; it can fill the bank, and the interval that opens can then extend. -/
def Obligations.DepthCorrectMovesTheDepths : Prop :=
  ∀ (h : ReqHeader) (depth : BitVec 32) (s : State), s.ready →
    let new := depth.toInt
    let δ := new - s.depth.hole
    let n := s.recorder.closedCount + 1
    let refused (c : ReplyCode) := exec (.depthCorrect h depth) s = answers s h 48 (.plain c)
    (new < 0 ∨ 2000000 < new → refused .refusedValue) ∧
    (0 ≤ new → new ≤ 2000000 → s.onBottom = true ∨ s.recorder.extending = true →
      refused .refusedState) ∧
    (0 ≤ new → new ≤ 2000000 → s.onBottom = false → s.recorder.extending = false → ∃ s',
      exec (.depthCorrect h depth) s = answers s' h 48 (.plain .done) ∧
      s'.depth = { s.depth with
        corr := s.depth.corr + δ, freeze := s.depth.freeze.map (· + δ), hole := new, residue := 0
        encoderUncertain := false, anchorUncertain := false } ∧
      s'.depth.bit = s.depth.bit + δ ∧
      keepsAllBut [.depth, .recorder, .banks, .billing, .trunk] s s' ∧
      (s.recorder.interval = none → s' = { s with depth := s'.depth }) ∧
      (∀ i, s.recorder.interval = some i → s.recorder.closingMark = false →
        0 < s.tables.settings.step → s.recorder.closedCount < 65534 → ∃ j,
        s'.recorder.interval = some j ∧ j.top = new ∧ j.seconds = 0 ∧ new < j.target ∧
        hasFlag j.flags flagCorrected = true ∧
        s'.recorder.closedCount = s.recorder.closedCount + if i.top < s.depth.hole then 1 else 0) ∧
      (∀ i, s.recorder.interval = some i → s.recorder.closingMark = false →
        0 < s.tables.settings.step → s.depth.hole ≤ i.top → s'.banks = s.banks ∧ s'.billing = s.billing) ∧
      (∀ (i : Interval) (b : Fin 2), s.recorder.interval = some i → s.recorder.closingMark = false →
        0 < s.tables.settings.step → i.top < s.depth.hole → s.fillingBank = some b →
        let kept := (s.banks[b]).records
        let other := s.banks[1 - b]
        let r := closedRecord i s.depth.hole s
        r.bottom = s.depth.hole ∧ r.closeTime = s.mgmt.siteTime ∧
        r.interval = { i with flags := i.flags ||| (if i.seconds = 0 then 256#10 else 0) |||
          (if s.mgmt.timeUnset = true then 512#10 else 0) } ∧
        recordAppended r b s s' ∧ s'.recorder.currentClass = r.cls ∧
        s'.recorder.closedCount = n ∧
        s'.billing = (if s.job.state = .opened
          then (billFootage i.top s.depth.hole r.cls.val s).billing else s.billing) ∧
        (65535 ≤ n → s'.recorder.interval = none) ∧
        (n < 65535 → ∃ j, s'.recorder.interval = some j ∧
          intervalOpens (n + 1) new 32#10 { s with depth := s'.depth } j) ∧
        (kept.length < 31 → s'.recorder.extending = false) ∧
        (kept.length = 31 →
          (other.state = .free → s'.recorder.extending = false) ∧
          (other.state = .full → n < 65535 →
            s'.recorder.extending = true ∧ notified s s' .banksExhausted 0 (n + 1 : Nat)))))

/-! ### Flow balance and circulation states (R18 to R36, R48) -/

/-- R18, R22 to R24, R30, R31: at the expiry of a period with counted strokes the record of the period
joins the window: flow-in from the strokes, flow-out from FLOW_OUT, else from the pits, else held. The
held count and the state move with it, and the next period begins in the same event, with the pits taken
again, at the deadline or later (log 2). -/
def Obligations.PumpedPeriodJoinsTheWindow : Prop :=
  ∀ (due : Nat) (s : State), s.windowLaw → s.mode ≠ .starting → s.circ.periodDue = some due →
    0 < s.circ.strokes1 + s.circ.strokes2 →
    let c := s.circ
    let pumpIn (p : PumpId) (n : Nat) : Nat := if (s.tables.pumps[p]).node = 0 then 0
      else n * (s.tables.pumps[p]).displacement * (s.tables.pumps[p]).efficiency
    let T : Nat := pumpIn 0 c.strokes1 + pumpIn 1 c.strokes2 + c.carryIn
    let U (q : Nat) : Nat := q * s.settings.period * 5 + c.carryOut
    let qavg : Nat := (max 0 (min (c.flowSum.fdiv (c.flowCount : Int)) 20000)).toNat
    let volume (k : Fin 4) (level : Int) : Int :=
      (level * ((s.tables.channels[pitInput k]).aux : Int)).fdiv 10
    let fromFlow := s.inputs[inFlowOut].state = .fresh ∧ c.flowCount ≠ 0
    let joined (r : PeriodRecord) : List PeriodRecord :=
      (if s.settings.window ≤ c.window.length then c.window.tail else c.window) ++ [r]
    let held (r : PeriodRecord) : Nat := if r.held = true then c.held + 1 else 0
    ∃ (s' : State) (r : PeriodRecord), exec .periodExpiry s = .next (transmit s') ∧
      r.vin = T / 100 ∧
      (fromFlow → r.vout = ((U qavg / 3 : Nat) : Int) ∧ r.held = c.periodHeld ∧ r.pitDerived = false ∧
        s'.circ.heldMean = some qavg) ∧
      (¬fromFlow → s.pitSet ≠ [] → r.pitDerived = true ∧ r.held = c.periodHeld ∧
        r.vout = ((T / 100 : Nat) : Int) + (s.pitSet.map fun q =>
          volume q.1 ((s.inputs[pitInput q.1].smoothed).getD 0) - volume q.1 q.2).sum ∧
        s'.circ.heldMean = c.heldMean) ∧
      (¬fromFlow → s.pitSet = [] → r.held = true ∧ r.pitDerived = false ∧
        (∀ m, c.heldMean = some m → r.vout = ((U m / 3 : Nat) : Int)) ∧
        (c.heldMean = none → r.vout = (r.vin : Int)) ∧ s'.circ.heldMean = c.heldMean) ∧
      (c.state ≠ .blind ∨ r.held = true → s'.circ.window = joined r ∧ s'.circ.carryIn = T % 100 ∧
        s'.circ.held = held r ∧ (fromFlow → s'.circ.carryOut = U qavg % 3) ∧
        (¬fromFlow → s.pitSet ≠ [] → s'.circ.carryOut = c.carryOut) ∧
        (¬fromFlow → s.pitSet = [] →
          (∀ m, c.heldMean = some m → s'.circ.carryOut = U m % 3) ∧
          (c.heldMean = none → s'.circ.carryOut = c.carryOut))) ∧
      (c.state = .blind → r.held = false → s'.circ.window = [r] ∧ s'.circ.carryIn = 0 ∧
        s'.circ.carryOut = 0 ∧ s'.circ.held = 0 ∧ s'.circ.state = .filling) ∧
      s'.circ.sumR = (s'.circ.window.map fun r => (r.vin : Int) - r.vout).sum ∧
      (c.state = .pumpsOff ∨ c.state = .flowing →
        s'.circ.state = .filling ∧ s'.circ.flowing = 0) ∧
      (c.state = .blind → r.held = true → s'.circ.state = .blind) ∧
      (c.state = .filling ∨ c.state.evaluated = true →
        (3 ≤ held r → s'.circ.state = .blind) ∧
        (held r < 3 → (joined r).length < s.settings.window → s'.circ.state = .filling) ∧
        (held r < 3 → s.settings.window ≤ (joined r).length →
          s'.circ.state = evaluate s.tables.thresholds[s.recorder.currentClass] c.state
            s'.circ.sumR s'.circ.sumIn s'.circ.sumOut)) ∧
      s'.circ.strokes1 = 0 ∧ s'.circ.strokes2 = 0 ∧ s'.circ.flowSum = 0 ∧ s'.circ.flowCount = 0 ∧
      s'.circ.periodHeld = false ∧ pitsTaken s' ∧
      s'.circ.periodDue = some (max s.mgmt.clock due + 1000 * s.settings.period) ∧
      s'.depth.periodHead = some s.depth.head ∧
      s'.depth.lastMovement = s.depth.periodHead.map (fun h => |s.depth.head - h|) ∧
      s'.inputs = s.inputs ∧ s'.tables = s.tables ∧ s'.tracker = s.tracker

/-- R18, R27 to R29: at the expiry of a period without counted strokes the window is cleared. PUMPS_OFF and
FLOWING make their tests of three periods; every other state becomes PUMPS_OFF with its mark set and makes the
flowing test in the same event. The next period begins with the collection emptied and the pits taken again.
The flowing count goes on across these clearings (log 15), and the expiry stands at the deadline or later (log
2). -/
def Obligations.NoPumpPeriodClearsTheWindow : Prop :=
  ∀ (due : Nat) (s : State), s.mode ≠ .starting → s.circ.periodDue = some due →
    s.circ.strokes1 + s.circ.strokes2 = 0 →
    let c := s.circ
    let now := max s.mgmt.clock due
    let qavg : Nat := (max 0 (min (c.flowSum.fdiv (c.flowCount : Int)) 20000)).toNat
    let good := s.inputs[inFlowOut].state = .fresh ∧ c.flowCount ≠ 0
    let counts := good ∧ s.settings.noiseFloor ≤ qavg ∧
      ∃ t, c.pumpsOffAt = some t ∧ t + 1000 * s.settings.flowback ≤ now
    ∃ s', exec .periodExpiry s = .next (transmit s') ∧
      s'.circ.window = [] ∧ s'.circ.carryIn = 0 ∧ s'.circ.carryOut = 0 ∧ s'.circ.sumR = 0 ∧
      s'.circ.sumIn = 0 ∧ s'.circ.sumOut = 0 ∧ s'.circ.held = 0 ∧ s'.circ.heldMean = c.heldMean ∧
      s'.circ.strokes1 = 0 ∧ s'.circ.strokes2 = 0 ∧ s'.circ.flowSum = 0 ∧ s'.circ.flowCount = 0 ∧
      s'.circ.periodHeld = false ∧ pitsTaken s' ∧
      s'.circ.periodDue = some (now + 1000 * s.settings.period) ∧
      (c.state = .pumpsOff → s'.circ.pumpsOffAt = c.pumpsOffAt ∧
        (counts → c.flowing < 2 → s'.circ.state = .pumpsOff ∧ s'.circ.flowing = c.flowing + 1) ∧
        (counts → 2 ≤ c.flowing → s'.circ.state = .flowing ∧ s'.circ.flowing = 0 ∧
          notified s s' .gain 1 qavg) ∧
        (¬counts → s'.circ.state = .pumpsOff ∧ s'.circ.flowing = 0)) ∧
      (c.state = .flowing → s'.circ.pumpsOffAt = c.pumpsOffAt ∧
        (good → qavg < s.settings.noiseFloor → c.flowing < 2 →
          s'.circ.state = .flowing ∧ s'.circ.flowing = c.flowing + 1) ∧
        (good → qavg < s.settings.noiseFloor → 2 ≤ c.flowing →
          s'.circ.state = .pumpsOff ∧ s'.circ.flowing = 0 ∧ notified s s' .circulationState 0 0) ∧
        (good → s.settings.noiseFloor ≤ qavg → s'.circ.state = .flowing ∧ s'.circ.flowing = 0) ∧
        (¬good → c.flowing < 3 → s'.circ.state = .flowing ∧ s'.circ.flowing = c.flowing)) ∧
      (c.state ≠ .pumpsOff → c.state ≠ .flowing →
        s'.circ.state = .pumpsOff ∧ s'.circ.pumpsOffAt = some now ∧
        s'.circ.flowing = (if good ∧ s.settings.noiseFloor ≤ qavg ∧ s.settings.flowback = 0
          then 1 else 0) ∧
        notified s s' .circulationState 0 0)

/-- R32: the evaluation judges the sums of the window against the threshold row of the recorder's current
class, and takes the first line of the rule's table whose condition holds. -/
def Obligations.EvaluationTakesTheFirstLineThatHolds : Prop :=
  (∀ (s : State) (before : CircState), s.judged before =
    evaluate s.tables.thresholds[s.recorder.currentClass] before s.circ.sumR s.circ.sumIn
      s.circ.sumOut) ∧
  ∀ (th : Thresholds) (before : CircState) (r vin vout : Int),
    let total := 0 < th.ratio ∧ vout * 100 < vin * th.ratio
    let lossSide := before = .loss ∨ before = .totalLoss
    (total → evaluate th before r vin vout = .totalLoss) ∧
    (¬total → (th.lossLevel : Int) ≤ r → evaluate th before r vin vout =
      if before = .lossWatch ∨ before = .loss ∨ before = .totalLoss then .loss else .lossWatch) ∧
    (¬total → r < (th.lossLevel : Int) → (th.lossWatch : Int) ≤ r → evaluate th before r vin vout =
      if before = .loss ∨ before = .totalLoss then .loss else .lossWatch) ∧
    (¬total → r < (th.lossLevel : Int) → r < (th.lossWatch : Int) →
      ((th.gainLevel : Int) ≤ -r → evaluate th before r vin vout =
        if before = .gainWatch ∨ before = .gain then .gain else .gainWatch) ∧
      (-r < (th.gainLevel : Int) → (th.gainWatch : Int) ≤ -r → evaluate th before r vin vout =
        if before = .gain then .gain else .gainWatch) ∧
      (-r < (th.gainLevel : Int) → -r < (th.gainWatch : Int) →
        (lossSide ∨ before = .lossWatch → ((th.lossWatch / 2 : Nat) : Int) ≤ r →
          evaluate th before r vin vout = .lossWatch) ∧
        (¬((lossSide ∨ before = .lossWatch) ∧ ((th.lossWatch / 2 : Nat) : Int) ≤ r) →
          (before = .gain ∨ before = .gainWatch → ((th.gainWatch / 2 : Nat) : Int) ≤ -r →
            evaluate th before r vin vout = .gainWatch) ∧
          (¬((before = .gain ∨ before = .gainWatch) ∧ ((th.gainWatch / 2 : Nat) : Int) ≤ -r) →
            evaluate th before r vin vout = .normal))))

/-- R25, R33, R35, R36, R48, R100, R139: what a period expiry hands on: the notice of the state's change
with its value, the volumes and flags of the open interval, the lost mud of an OPEN job in LOSS and
TOTAL_LOSS, and in SUPERVISED and STANDBY each used pump's measured rate and not-following test. The head
movement of the period is recorded (R92), and the event ends in the depth unit's tests, which close no
interval unless the hole advances. -/
def Obligations.PeriodResultIsHandedOn : Prop :=
  ∀ (due : Nat) (s : State), s.windowLaw → s.mode ≠ .starting → s.circ.periodDue = some due →
    let pumped := 0 < s.circ.strokes1 + s.circ.strokes2
    ∃ s1 s', exec .periodExpiry s = .next (transmit s') ∧ s' = react s1 ∧
      keepsAllBut [.circ, .pumpCtl, .depth, .recorder, .billing, .trunk, .mgmt] s s1 ∧
      s1.depth = { s.depth with
        periodHead := some s.depth.head
        lastMovement := s.depth.periodHead.map fun h => |s.depth.head - h| } ∧
      (s.onBottom = false ∨ s.depth.bit ≤ s.depth.hole →
        s'.recorder = s1.recorder ∧ s'.banks = s.banks ∧ s'.billing = s1.billing) ∧
      (s'.circ.state = s.circ.state → ∀ n ∈ s'.trunk.urgent, n.kind = .loss ∨ n.kind = .gain →
        n ∈ s.trunk.urgent) ∧
      (s'.circ.state ≠ s.circ.state →
        (s'.circ.state = .loss → notified s s' .loss 0 s'.lossRate) ∧
        (s'.circ.state = .totalLoss → notified s s' .loss 2 s'.lossRate) ∧
        (s'.circ.state = .gain → notified s s' .gain 0 s'.lossRate) ∧
        (s'.circ.state ∉ [.loss, .totalLoss, .gain, .flowing] →
          notified s s' .circulationState 0 s'.circ.state.code)) ∧
      (s'.circ.window.length ≠ 0 → s'.lossRate = max (-99999) (min
        (Int.sign (s'.circ.sumR) * ((2 * (s'.circ.sumR * 36).natAbs +
          10 * s'.circ.window.length * s.settings.period) /
          (2 * (10 * s'.circ.window.length * s.settings.period)) : Nat)) 99999)) ∧
      (s.recorder.interval = none → s1.recorder = s.recorder) ∧
      (∀ i, s.recorder.interval = some i → s1.recorder = { s.recorder with interval := some { i with
        loss := min 4294967295 (i.loss + if pumped then s.periodRecord.balance.toNat else 0)
        gain := min 4294967295 (i.gain + if pumped then (-s.periodRecord.balance).toNat else 0)
        flags := i.flags |||
          (if (pumped ∧ s.periodRecord.held = true) ∨ (¬pumped ∧ s.circ.periodHeld = true)
            then 8#10 else 0) |||
          (if s'.circ.state = .loss ∨ s'.circ.state = .totalLoss then 1#10 else 0) |||
          (if s'.circ.state = .gain then 2#10 else 0) |||
          (if s'.circ.state = .flowing then 4#10 else 0) } }) ∧
      s'.billing.acc.lostMud = (if s.job.state = .opened ∧ pumped ∧
          0 < s.periodRecord.balance ∧ (s'.circ.state = .loss ∨ s'.circ.state = .totalLoss)
        then min (2 ^ 48 - 1) (s.billing.acc.lostMud + s.periodRecord.balance.toNat)
        else s.billing.acc.lostMud) ∧
      ∀ p : PumpId,
        let u := s.pumpCtl.pumps[p]
        let n := if p = 0 then s.circ.strokes1 else s.circ.strokes2
        let m := n * 60 / s.settings.period
        let misses := (0 < u.commanded ∧ u.commanded < ((m : Int) - u.commanded).natAbs * 5) ∨
          (u.commanded = 0 ∧ 0 < n)
        ((s.mode = .monitor ∨ (s.tables.pumps[p]).node = 0) → s'.pumpCtl.pumps[p] = u) ∧
        (s.mode ≠ .monitor → (s.tables.pumps[p]).node ≠ 0 →
          (¬misses → s'.pumpCtl.pumps[p] = { u with measured := some m, notFollowing := 0 }) ∧
          (misses → u.notFollowing < 2 → s'.pumpCtl.pumps[p] =
            { u with measured := some m, notFollowing := u.notFollowing + 1 }) ∧
          (misses → 2 ≤ u.notFollowing → s'.pumpCtl.pumps[p] =
              { u with measured := some m, notFollowing := 0 } ∧
            notified s s' .pumpNotFollowing (p.val + 1) m))

/-- R24, R27, R173, section 2.5: every step keeps the law of the window: at most W records with the sums
of their values, W of them in an evaluated state, none with the pumps off, and a monitor at rest in
STARTING. -/
def Obligations.EveryStepKeepsTheWindowLaw : Prop :=
  ∀ s t : State, s.windowLaw → step s = .next t → t.windowLaw

/-! ### Strata intervals and banks (R98 to R123) -/

/-- R104: a record without drilling seconds has class 15. Of any other the class is the code of the first
row, in index order, that is enabled, holds PI and TR in its spans, and whose mask finds each of its flags
on the closed record exactly when the value contains it; with no such row it is 15. The table as it stands
at the close decides, and a later load changes no class. -/
def Obligations.ClassIsTheFirstMatchingRow : Prop :=
  ∀ (i : Interval) (bottom : Int) (s : State),
    let r := closedRecord i bottom s
    let fits (k : Fin 16) : Prop :=
      let row := s.tables.classes[k]
      row.enabled = true ∧ (∃ m, r.means = some m ∧ row.piLow ≤ m.pi ∧ m.pi ≤ row.piHigh ∧
        row.trLow ≤ m.tr ∧ m.tr ≤ row.trHigh) ∧
      ∀ n : Fin 10, row.mask[n] = true → r.interval.flags[n] = row.value[n]
    (i.seconds = 0 → r.cls = 15 ∧ r.interval.flags[8] = true ∧ r.means = none) ∧
    (∀ k : Fin 16, 0 < i.seconds → fits k → (∀ j, j < k → ¬fits j) →
      (s.tables.classes[k]).code ≤ 14 → r.cls.val = (s.tables.classes[k]).code) ∧
    (0 < i.seconds → (∀ k : Fin 16, ¬fits k) → r.cls = 15) ∧
    (∀ (h : ReqHeader) (row : Byte) (f : ClassForm), ∃ t,
      exec (.loadRowStrataClassTable h row f) s = .next t ∧ t.recorder = s.recorder ∧
      t.banks = s.banks)

/-- R102, R103, R106, R98, R108, R117 to R119, R87: while D is at or above the open interval's target, the
check closes it there: the record with its means and indices goes to the FILLING bank, the class becomes the
current class, the span goes to the meter while the job is OPEN, and the next interval opens at the bottom
with the next multiple of the step as its target, marked DEPTH_UNCERTAIN where a flag is set (R101). A count
at the fill mark sets the bank's flag, once, with BANK_FILL_MARK. The 32nd record fills the bank; with the
other bank FULL the recorder then extends. Below the target, and while extending or closing, nothing happens.
A hole advance makes this check; while the recorder extends it sets the overdue mark instead, once, with
BANKS_EXHAUSTED of subject 1. -/
def Obligations.AdvanceClosesIntervalsAtTheirTargets : Prop :=
  (∀ (i : Interval) (s : State), s.recorder.interval = some i →
    s.depth.hole < i.target ∨ s.recorder.extending = true ∨ s.recorder.closingMark = true →
    boundaryCheck s = s) ∧
  (∀ s : State, s.mode ≠ .starting → s.onBottom = true → s.depth.hole < s.depth.bit →
    let moved : State := { s with depth := { s.depth with hole := s.depth.bit } }
    (s.recorder.extending = false → react s = reindicate (boundaryCheck moved)) ∧
    (s.recorder.interval = none → react s = reindicate moved) ∧
    ∀ i, s.recorder.interval = some i → s.recorder.extending = true →
      (s.recorder.overdue = true ∨ s.depth.bit < i.target → react s = reindicate moved) ∧
      (s.recorder.overdue = false → i.target ≤ s.depth.bit → ∃ t, react s = reindicate t ∧
        t.depth = moved.depth ∧ t.recorder = { s.recorder with overdue := true } ∧
        notified s t .banksExhausted 1 s.depth.bit ∧ keepsAllBut [.depth, .recorder, .trunk] s t)) ∧
  (∀ (i : Interval) (bottom : Int) (s : State),
    let r := closedRecord i bottom s
    r.bottom = bottom ∧ r.closeTime = s.mgmt.siteTime ∧
    r.interval = { i with flags := i.flags ||| (if i.seconds = 0 then 256#10 else 0) |||
      (if s.mgmt.timeUnset = true then 512#10 else 0) } ∧
    (i.seconds = 0 → r.means = none) ∧
    (0 < i.seconds → ∃ m, r.means = some m ∧ m.wob = i.wobSum.fdiv i.seconds ∧
      m.torque = i.torqueSum.fdiv i.seconds ∧ m.rpm = i.rpmSum.fdiv i.seconds ∧
      m.pressure = i.pressureSum.fdiv i.seconds ∧
      (m.rop : Int) = max 0 (min (((bottom - i.top) * 60).fdiv i.seconds) 65535) ∧
      (m.pi : Int) = (if m.wob * m.rpm = 0 then 65535
        else max 0 (min (((m.rop : Int) * 1000).fdiv (m.wob * m.rpm)) 65535)) ∧
      (m.tr : Int) = (if m.wob = 0 then 65535
        else max 0 (min ((m.torque * 10).fdiv m.wob) 65535)))) ∧
  ∀ (i : Interval) (b : Fin 2) (s : State), s.bankLaw → s.recorder.interval = some i →
    s.recorder.extending = false → s.recorder.closingMark = false → i.target ≤ s.depth.hole →
    0 < s.settings.step → s.fillingBank = some b →
    let other := s.banks[1 - b]
    let n := s.recorder.closedCount + 1
    let r := closedRecord i i.target s
    ∃ s1 : State, boundaryCheck s = boundaryCheck s1 ∧
      keepsAllBut [.recorder, .banks, .billing, .trunk] s s1 ∧ recordAppended r b s s1 ∧
      s1.recorder.currentClass = r.cls ∧ s1.recorder.closedCount = n ∧
      s1.billing = (if s.job.state = .opened then (billFootage i.top i.target r.cls.val s).billing
        else s.billing) ∧
      (65535 ≤ n → s1.recorder.interval = none) ∧
      (n < 65535 → ∃ j : Interval, s1.recorder.interval = some j ∧
        intervalOpens (n + 1) i.target 0 s j ∧
        (s1.recorder.extending = true → s.recorder.overdue = false →
          s1.recorder.overdue = decide (j.target ≤ s.depth.hole) ∧
          (j.target ≤ s.depth.hole → notified s s1 .banksExhausted 1 s.depth.hole))) ∧
      (s1.recorder.extending = false → s1.recorder.overdue = s.recorder.overdue) ∧
      ((s.banks[b]).records.length < 31 → s1.recorder.extending = false) ∧
      ((s.banks[b]).records.length = 31 →
        (other.state = .free → s1.recorder.extending = false) ∧
        (other.state = .full → n < 65535 →
          s1.recorder.extending = true ∧ notified s s1 .banksExhausted 0 (n + 1 : Nat)))

/-- R122, R109, R111: RELEASE BANK is refused for a bank code above 1 and for a bank that is not FULL.
Else the records are gone, and the bank waits FREE while the other fills or no job is in progress, and is
FILLING otherwise. That ends an extension, with the boundary check made again: below its target the interval
carries on; overdue it closes EXTENDED at the last multiple of the step at or below D, goes to the meter while
the job is OPEN, and the next opens; with the closing mark it closes as the job's last, unbilled, and the
final ticket is issued (R145 to R149), or deferred at a full store with the number it would have had
(log 27). -/
def Obligations.ReleaseBankFreesTheBankAndEndsTheExtension : Prop :=
  ∀ (h : ReqHeader) (bank : Byte) (s : State), s.ready →
    (2 ≤ bank.toNat → exec (.releaseBank h bank) s = answers s h 65 (.plain .refusedValue)) ∧
    ∀ b : Fin 2, bank.toNat = b.val →
      ((s.banks[b]).state ≠ .full →
        exec (.releaseBank h bank) s = answers s h 65 (.plain .refusedState)) ∧
      ((s.banks[b]).state = .full →
        ((s.banks[1 - b]).state = .filling ∨ s.job.state = .noJob ∨ s.job.state = .closed →
          exec (.releaseBank h bank) s =
            answers { s with banks := s.banks.set b ⟨.free, [], false⟩ } h 65 (.plain .done)) ∧
        ((s.banks[1 - b]).state ≠ .filling →
          s.job.state = .opened ∨ s.job.state = .suspended ∨ s.job.state = .closing →
          (s.recorder.extending = false → exec (.releaseBank h bank) s =
            answers { s with banks := s.banks.set b ⟨.filling, [], false⟩ } h 65 (.plain .done)) ∧
          (∀ i, s.recorder.extending = true → s.recorder.interval = some i →
            (s.recorder.overdue = false → s.recorder.closingMark = false →
              exec (.releaseBank h bank) s = answers (boundaryCheck { s with
                banks := s.banks.set b ⟨.filling, [], false⟩
                recorder := { s.recorder with extending := false } }) h 65 (.plain .done)) ∧
            (s.recorder.overdue = false → s.recorder.closingMark = false →
              s.depth.hole < i.target → exec (.releaseBank h bank) s = answers { s with
                banks := s.banks.set b ⟨.filling, [], false⟩
                recorder := { s.recorder with extending := false } } h 65 (.plain .done)) ∧
            (s.recorder.overdue = true → s.recorder.closingMark = false → i.top < i.target →
              0 < s.tables.settings.step →
              let step : Int := s.tables.settings.step
              let floor := s.depth.hole.fdiv step * step
              let bottom := if i.top < floor then floor else i.target
              let n := s.recorder.closedCount + 1
              let r := closedRecord { i with flags := i.flags ||| 64#10 } bottom s
              ∃ s' : State, exec (.releaseBank h bank) s = answers s' h 65 (.plain .done) ∧
                keepsAllBut [.recorder, .banks, .billing, .trunk] s s' ∧
                s'.banks = s.banks.set b ⟨.filling, [r], decide (s.tables.settings.fillMark = 1)⟩ ∧
                (s.tables.settings.fillMark = 1 → notified s s' .bankFillMark b.val 1) ∧
                s'.billing = (if s.job.state = .opened
                  then (billFootage i.top bottom r.cls.val s).billing else s.billing) ∧
                s'.recorder = { s.recorder with
                  interval := s'.recorder.interval, currentClass := r.cls, extending := false
                  overdue := false, closedCount := n } ∧
                (65535 ≤ n → s'.recorder.interval = none) ∧
                (n < 65535 → ∃ j, s'.recorder.interval = some j ∧ s.depth.hole < j.target ∧
                  intervalOpens (n + 1) bottom 0 s j)) ∧
            (s.recorder.closingMark = true → s.job.state = .closing →
              let r := closedRecord { i with flags := i.flags ||| 128#10 |||
                (if s.recorder.overdue = true then 64#10 else 0) } s.depth.hole s
              ∃ s1 s' : State, exec (.releaseBank h bank) s = answers s' h 65 (.plain .done) ∧
                keepsAllBut [.recorder, .banks, .billing, .trunk] s s1 ∧
                s1.billing = { s.billing with
                  job := { s.billing.job with closingInterval := true } } ∧
                (i.top < s.depth.hole →
                  s1.banks = s.banks.set b ⟨.filling, [r], decide (s.tables.settings.fillMark = 1)⟩ ∧
                  (s.tables.settings.fillMark = 1 → notified s s1 .bankFillMark b.val 1) ∧
                  s1.recorder = { s.recorder with
                    interval := none, currentClass := r.cls, extending := false, overdue := false
                    closingMark := false, closedCount := s.recorder.closedCount + 1 }) ∧
                (s.depth.hole ≤ i.top → s1.trunk = s.trunk ∧
                  s1.banks = s.banks.set b ⟨.filling, [], false⟩ ∧
                  s1.recorder = { s.recorder with
                    interval := none, extending := false, overdue := false, closingMark := false }) ∧
                (s.billing.tickets.length < 8 → s' = issueTicket true s1 ∧ s'.job.state = .closed ∧
                  (s.depth.hole ≤ i.top → s'.banks = s.banks.set b ⟨.free, [], false⟩) ∧
                  (i.top < s.depth.hole → (s'.banks[b]).state = .full ∧ (s'.banks[b]).records = [r] ∧
                    s'.banks[1 - b] = s.banks[1 - b] ∧ notified s s' .bankReady b.val 1)) ∧
                (8 ≤ s.billing.tickets.length → s'.billing = { s1.billing with deferred := true } ∧
                  notified s s' .ticketDeferred 1 (min 65535 (s.job.ticketCounter + 1) : Nat) ∧
                  keepsAllBut [.billing, .trunk] s1 s')))))

/-! ### Jobs, the tariff and tickets (R127 to R150) -/

/-- R127, R110, R116: JOB OPEN's tests in their order; executed, it takes the number, the customer and the
depth D, puts every amount to 0, makes bank A FILLING and opens interval 1 at D with current class 15, its
flags as at any opening (R98, R101). The cleared mark cadencePending (log 6) and the site time from which the
first ticket runs (log 23) are the model's. -/
def Obligations.JobOpenBeginsAJob : Prop :=
  ∀ (h : ReqHeader) (number : BitVec 32) (customer : BitVec 16) (s : State), s.ready →
    let argsBad := number = 0 ∨ 999999 < number.toNat ∨ customer = 0
    let D := s.depth.hole
    let step : Int := s.tables.settings.step
    let refused (c : ReplyCode) := exec (.jobOpen h number customer) s = answers s h 72 (.plain c)
    (argsBad → refused .refusedValue) ∧
    (¬argsBad → s.job.state = .opened ∨ s.job.state = .suspended ∨ s.job.state = .closing ∨
      (s.banks[0]).state ≠ .free ∨ (s.banks[1]).state ≠ .free ∨ s.billing.tickets ≠ [] →
      refused .refusedState) ∧
    (¬argsBad → s.job.state = .noJob ∨ s.job.state = .closed → (s.banks[0]).state = .free →
      (s.banks[1]).state = .free → s.billing.tickets = [] → 0 < step →
      ∃ (s' : State) (i : Interval),
        exec (.jobOpen h number customer) s = answers s' h 72 (.plain .done) ∧
        s'.billing = {
          job := {
            number := number.toNat, customer := customer.toNat, state := .opened
            opened := ⟨s.mgmt.siteTime, s.mgmt.timeUnset⟩, startDepth := D, billedMark := D
            metered := 0, closingInterval := false, ticketCounter := 0, billedTotal := 0
            lastTicketTo := ⟨s.mgmt.siteTime, s.mgmt.timeUnset⟩ }
          acc := {
            seconds := Vector.replicate 7 0, carries := Vector.replicate 7 0
            bands := Vector.replicate 8 0, unbanded := 0, footageCharge := 0, lostMud := 0
            mudCarry := 0, products := 0, additions := 0 }
          deferred := false, tickets := [], cadencePending := false } ∧
        s'.banks = s.banks.set 0 ⟨.filling, [], false⟩ ∧
        s'.recorder = {
          interval := some i, currentClass := 15, extending := false, overdue := false
          closingMark := false, closedCount := 0 } ∧
        D < i.target ∧ i.target ≤ D + step ∧ step ∣ i.target ∧
        i = {
          number := 1, top := D, target := i.target, seconds := 0, wobSum := 0, torqueSum := 0
          rpmSum := 0, pressureSum := 0, loss := 0, gain := 0, openTime := s.mgmt.siteTime
          flags := (if s.depth.encoderUncertain = true ∨ s.depth.anchorUncertain = true ∨
              s.tracker.tallyUncertain = true then 16#10 else 0) |||
            (if s.mgmt.timeUnset = true then 512#10 else 0) } ∧
        keepsAllBut [.recorder, .banks, .billing] s s')

/-- R128, R129, R130, R111, R123, R145: JOB SUSPEND and JOB RESUME move the job state and nothing else.
JOB CLOSE closes the open interval PARTIAL at D, or drops it when D is not below its top, and bills the
span while the job is OPEN; with room in the store the final ticket takes what is then unbilled, closes the
job and seals the bank, and a full store defers it, with every amount left as it stands and a notice that
carries the number it would have had (log 27). While the recorder
extends, the job waits in CLOSING. -/
def Obligations.JobSuspendResumeAndClose : Prop :=
  ∀ (h : ReqHeader) (s : State), s.ready → s.bankLaw →
    let open' := s.job.state = .opened ∨ s.job.state = .suspended
    let becomes (j : JobState) : State :=
      { s with billing := { s.billing with job := { s.billing.job with state := j } } }
    (exec (.jobSuspend h) s = if s.job.state = .opened
      then answers (becomes .suspended) h 73 (.plain .done)
      else answers s h 73 (.plain .refusedState)) ∧
    (exec (.jobResume h) s = if s.job.state = .suspended
      then answers (becomes .opened) h 74 (.plain .done)
      else answers s h 74 (.plain .refusedState)) ∧
    (¬open' → exec (.jobClose h) s = answers s h 75 (.plain .refusedState)) ∧
    (open' → s.recorder.extending = true → s.job.closingInterval = false →
      exec (.jobClose h) s = answers { becomes .closing with
        recorder := { s.recorder with closingMark := true } } h 75 (.plain .done)) ∧
    (∀ b : Fin 2, open' → s.recorder.extending = false → s.fillingBank = some b →
      let kept := (s.banks[b]).records
      let partialClose := ∃ i, s.recorder.interval = some i ∧ i.top < s.depth.hole
      let closing (k : Billing) : Billing :=
        { k with job := { k.job with closingInterval := true, state := .closing } }
      ∃ s1 s' : State, exec (.jobClose h) s = answers s' h 75 (.plain .done) ∧
        keepsAllBut [.recorder, .banks, .billing, .trunk] s s1 ∧
        (∀ i, s.recorder.interval = some i → i.top < s.depth.hole →
          let r := closedRecord { i with flags := i.flags ||| 128#10 } s.depth.hole s
          recordAppended r b s s1 ∧
          s1.recorder = { s.recorder with
            interval := none, currentClass := r.cls, closingMark := false
            closedCount := s.recorder.closedCount + 1 } ∧
          s1.billing = closing (if s.job.state = .opened
            then (billFootage i.top s.depth.hole r.cls.val s).billing else s.billing)) ∧
        (¬partialClose → s1.banks = s.banks ∧ s1.trunk = s.trunk ∧
          s1.recorder = { s.recorder with interval := none, closingMark := false } ∧
          s1.billing = closing s.billing) ∧
        s'.recorder = s1.recorder ∧ (s'.banks[b]).records = (s1.banks[b]).records ∧
        (s.billing.tickets.length < 8 → s' = issueTicket true s1 ∧
          s'.job.state = .closed ∧ s'.billing.deferred = false ∧
          (∃ k : Ticket, s'.billing.tickets = s.billing.tickets ++ [k] ∧ k.final = true ∧
            k.number = min 65535 (s.job.ticketCounter + 1)) ∧
          (s'.banks[b]).state = (if kept = [] ∧ ¬partialClose then .free else .full) ∧
          (kept ≠ [] ∨ partialClose →
            notified s s' .bankReady b.val (s'.banks[b]).records.length) ∧
          s'.fillingBank = none) ∧
        (8 ≤ s.billing.tickets.length → s'.billing = { s1.billing with deferred := true } ∧
          keepsAllBut [.billing, .trunk] s1 s' ∧
          notified s s' .ticketDeferred 1 (min 65535 (s.job.ticketCounter + 1) : Nat)))

/-- R140: MUD ADDITION's tests in their order; executed, the products charge rises by the quantity times
the product's rate and the additions count by 1, both saturating, and nothing else changes. -/
def Obligations.MudAdditionIsJudgedAndAdded : Prop :=
  ∀ (h : ReqHeader) (code : Byte) (quantity : BitVec 16) (s : State), s.ready → s.tables.law →
    let argsBad := code = 0 ∨ quantity = 0 ∨ 1000 < quantity.toNat
    let refused (c : ReplyCode) := exec (.mudAddition h code quantity) s = answers s h 77 (.plain c)
    (argsBad → refused .refusedValue) ∧
    (¬argsBad → s.job.state ≠ .opened → refused .refusedState) ∧
    (¬argsBad → s.job.state = .opened →
      (∀ (i : Fin 24) (r : Nat), s.tables.tariff[i] ≠ .product code.toNat r) →
      refused .refusedValue) ∧
    (∀ (i : Fin 24) (r : Nat), ¬argsBad → s.job.state = .opened →
      s.tables.tariff[i] = .product code.toNat r →
      exec (.mudAddition h code quantity) s = answers { s with billing := { s.billing with
        acc := { s.billing.acc with
          products := min 281474976710655 (s.billing.acc.products + quantity.toNat * r)
          additions := min 65535 (s.billing.acc.additions + 1) } } } h 77 (.plain .done))

/-- R134, R137, R138: the Tariff Table is read by key, a missing row counting 0, and a depth by its band:
the last band in the order of the froms whose from is at or above it, and the first band above them all. A
closed interval bills each millimetre of its span deeper than the billed depth mark once: it counts in the
footage of its band, and adds the band's rate times 100 plus the surcharge of the interval's class to the
footage charge, which has no top (log 30). Without bands it counts as unbanded. The mark becomes the
bottom. -/
def Obligations.FootageIsBilledByTheMillimetre : Prop :=
  ∀ (s : State), s.tables.law → s.meterLaw →
    let bs := s.bands
    (∀ (i : Fin 24) (key rate : Nat),
      (s.tables.tariff[i] = .activity key rate → s.activityRate key = rate) ∧
      (s.tables.tariff[i] = .surcharge key rate → s.surcharge key = rate) ∧
      (s.tables.tariff[i] = .product key rate → s.productRate key = some rate) ∧
      (s.tables.tariff[i] = .mudLost rate → s.mudRate = rate)) ∧
    (∀ key : Nat,
      ((∀ (i : Fin 24) (q : Nat), s.tables.tariff[i] ≠ .activity key q) → s.activityRate key = 0) ∧
      ((∀ (i : Fin 24) (q : Nat), s.tables.tariff[i] ≠ .surcharge key q) → s.surcharge key = 0) ∧
      ((∀ (i : Fin 24) (q : Nat), s.tables.tariff[i] ≠ .mudLost q) → s.mudRate = 0)) ∧
    bs.Pairwise (fun a b => a.fromM < b.fromM) ∧
    (∀ b : Band, b ∈ bs ↔ ∃ i : Fin 24, s.tables.tariff[i] = .band b.fromM b.toM b.rate) ∧
    (∀ (j : Nat) (b : Band) (x : Int), bs[j]? = some b →
      (j = 0 ∨ (b.fromM : Int) * 1000 ≤ x) →
      (∀ c : Band, bs[j + 1]? = some c → x < (c.fromM : Int) * 1000) → bandIndex bs x = j) ∧
    ∀ (top bottom : Int) (cls : Nat), top < bottom →
      let t := billFootage top bottom cls s
      let lo := max top s.job.billedMark
      let depths : List Int := (List.range (bottom - lo).toNat).map fun k => lo + (k : Int)
      let rate (x : Int) : Nat := ((bs[bandIndex bs x]?).map Band.rate).getD 0
      (bottom ≤ s.job.billedMark → t = s) ∧
      (s.job.billedMark < bottom → keepsAllBut [.billing] s t ∧
        t.billing = { s.billing with
          job := { s.billing.job with billedMark := bottom }, acc := t.billing.acc } ∧
        (bs = [] → t.billing.acc = { s.billing.acc with
          unbanded := min 4294967295 (s.billing.acc.unbanded + depths.length) }) ∧
        (bs ≠ [] →
          t.billing.acc = { s.billing.acc with
            bands := t.billing.acc.bands
            footageCharge := s.billing.acc.footageCharge +
              (depths.map rate).sum * (100 + s.surcharge cls) } ∧
          ∀ j : Fin 8, t.billing.acc.bands[j] = min 4294967295 (s.billing.acc.bands[j] +
            depths.countP fun x => bandIndex bs x == j.val)))

/-- R147 to R149, R123: a ticket takes the job's number and the next ticket number, the span since the
newest ticket, every unbilled amount, and the charges of the rates with their carries. The accumulators
keep the remainders alone, the billed total rises by the ticket's total, and the ticket joins the store and
is announced. The final ticket also closes the job and seals the FILLING bank. The from site time is kept
beside the store (log 23), and the footage charge has no top (log 30). TICKET NOW, CADENCE_TRIGGER, a second
tick and RELEASE TICKET issue with this operation, as the next statement says, and so do the final tickets of
JOB CLOSE and RELEASE BANK, as theirs say. -/
def Obligations.TicketsTakeAndPriceTheUnbilledAmounts : Prop :=
  ∀ (final : Bool) (s : State),
    let acc := s.billing.acc
    let act (a : Fin 7) : Nat := acc.seconds[a] * s.activityRate a.val + acc.carries[a]
    let mud := acc.lostMud * s.mudRate + acc.mudCarry
    let total := min 281474976710655 (((List.finRange 7).map fun a => act a / 3600).sum +
      acc.footageCharge / 100000 + mud / 1000000 + acc.products)
    let n := if final = true then min 65535 (s.job.ticketCounter + 1) else s.job.ticketCounter + 1
    let k : Ticket := {
      jobNumber := s.job.number, number := n, final := final
      fromTime := s.job.lastTicketTo.time, toTime := s.mgmt.siteTime
      timeUnset := s.job.lastTicketTo.unset || s.mgmt.timeUnset
      seconds := acc.seconds, charges := Vector.ofFn fun a => act a / 3600
      bandCount := s.bands.length, bands := acc.bands, unbanded := acc.unbanded
      footageCharge := acc.footageCharge / 100000, lostMud := acc.lostMud
      mudCharge := mud / 1000000, products := acc.products, additions := acc.additions
      total := total, runningTotal := min 281474976710655 (s.job.billedTotal + total) }
    let t := issueTicket final s
    t.billing = { s.billing with
      tickets := s.billing.tickets ++ [k], deferred := false
      job := { s.job with
        ticketCounter := n, billedTotal := k.runningTotal
        lastTicketTo := ⟨s.mgmt.siteTime, s.mgmt.timeUnset⟩
        state := if final = true then .closed else s.job.state }
      acc := {
        seconds := Vector.replicate 7 0, carries := Vector.ofFn fun a => act a % 3600
        bands := Vector.replicate 8 0, unbanded := 0, footageCharge := acc.footageCharge % 100000
        lostMud := 0, mudCarry := mud % 1000000, products := 0, additions := 0 } } ∧
    notified s t .ticketReady final.toNat n ∧
    keepsAllBut [.billing, .banks, .trunk] s t ∧
    (final = false ∨ s.fillingBank = none → t.banks = s.banks) ∧
    (∀ b : Fin 2, final = true → s.fillingBank = some b →
      ((s.banks[b]).records = [] → t.banks = s.banks.set b ⟨.free, [], false⟩) ∧
      ((s.banks[b]).records ≠ [] →
        t.banks = s.banks.set b { s.banks[b] with state := .full } ∧
        notified s t .bankReady b.val (s.banks[b]).records.length))

/-- R143, R144, R146, R150: TICKET NOW and a cadence trigger that has fired issue an ordinary ticket while
the store holds fewer than 8 and defer it otherwise; neither does so from ticket counter 65534. A second
tick of an OPEN job fires the trigger when its metered seconds leave 2^k modulo 2^(k+1), and then issues or
defers with the second metered, at the new site time. RELEASE TICKET
removes the oldest ticket, and then issues a deferred one, the final one in CLOSING with its mark set. What
the command CADENCE_TRIGGER does with the mark cadencePending (log 6), and the mask bit and the width of the
number in TICKET NOW's reply (log 13, 14), are the model's choices. -/
def Obligations.TicketsAreIssuedDeferredAndReleased : Prop :=
  ∀ (h : ReqHeader) (number : BitVec 16) (s : State),
    let n := s.job.ticketCounter + 1
    let live := s.job.state = .opened ∨ s.job.state = .suspended
    let room := s.billing.tickets.length < 8
    let defers (s0 t : State) : Prop :=
      t.billing = { s0.billing with deferred := true } ∧ notified s0 t .ticketDeferred 0 n ∧
      keepsAllBut [.billing, .trunk] s0 t
    let taken : State := { s with billing := { s.billing with cadencePending := false } }
    let m := s.job.metered + 1
    let a := s.depth.taken.code
    let metered (s1 : State) : State := { s1 with billing := { s.billing with
      cadencePending := false
      job := { s.billing.job with metered := min 4294967295 m }
      acc := { s.billing.acc with
        seconds := s.billing.acc.seconds.set a (min 4294967295 (s.billing.acc.seconds[a] + 1)) } } }
    let fires := m % 2 ^ (s.tables.settings.ticketBit + 1) = 2 ^ s.tables.settings.ticketBit
    (s.ready →
      (¬live ∨ 65534 ≤ s.job.ticketCounter →
        exec (.ticketNow h) s = answers s h 80 (.plain .refusedState)) ∧
      (live → s.job.ticketCounter < 65534 →
        (room → exec (.ticketNow h) s = answers (issueTicket false s) h 80
          ⟨.done, [0, 1, 0, 1] ++ bytesOfNat 4 n⟩) ∧
        (¬room → ∃ t, exec (.ticketNow h) s = answers t h 80 ⟨.done, [0, 1, 0, 0, 0, 0, 0, 0]⟩ ∧
          defers s t))) ∧
    (s.billing.cadencePending = false → exec .cadenceTrigger s = .next (transmit s)) ∧
    (s.billing.cadencePending = true → s.job.state = .opened → s.mode ≠ .starting →
      s.job.ticketCounter < 65534 →
      (room → exec .cadenceTrigger s = .next (transmit (issueTicket false taken))) ∧
      (¬room → ∃ t, exec .cadenceTrigger s = .next (transmit t) ∧ defers taken t)) ∧
    (s.job.state = .opened → s.mode ≠ .starting → ∃ s1 t, exec .secondTick s = .next (transmit t) ∧
      keepsAllBut [.pumpCtl, .tracker, .recorder, .trunk, .mgmt] s s1 ∧
      s1.mgmt = { s.mgmt with
        siteTime := s.mgmt.siteTime + 1, secondDue := s.mgmt.secondDue + 1000
        clock := max s.mgmt.clock s.mgmt.secondDue } ∧
      (fires → m ≤ 4294967295 → s.job.ticketCounter < 65534 →
        (room → t = issueTicket false (metered s1)) ∧ (¬room → defers (metered s1) t)) ∧
      (¬fires ∨ 4294967295 < m ∨ 65534 ≤ s.job.ticketCounter → t = metered s1)) ∧
    (s.ready → s.billing.tickets = [] →
      exec (.releaseTicket h number) s = answers s h 81 (.plain .refusedValue)) ∧
    (∀ k rest, s.ready → s.billing.tickets = k :: rest →
      let removed : State := { s with billing := { s.billing with tickets := rest } }
      (k.number ≠ number.toNat →
        exec (.releaseTicket h number) s = answers s h 81 (.plain .refusedValue)) ∧
      (k.number = number.toNat →
        (s.billing.deferred = false ∨ s.job.state = .noJob ∨ s.job.state = .closed ∨
            (s.job.state = .closing ∧ s.job.closingInterval = false) →
          exec (.releaseTicket h number) s = answers removed h 81 (.plain .done)) ∧
        (s.billing.deferred = true → live →
          exec (.releaseTicket h number) s =
            answers (issueTicket false removed) h 81 (.plain .done)) ∧
        (s.billing.deferred = true → s.job.state = .closing → s.job.closingInterval = true →
          exec (.releaseTicket h number) s =
            answers (issueTicket true removed) h 81 (.plain .done))))

/-! ### Laws every step keeps, and the state after a reset -/

/-- R114, R98, R108, R142, R147, R149, section 8.4, R3, R38, R39, R131, R167, R56, R80: every step keeps the
law of the banks, of the recorder over them (EXTENDING exactly while an interval is open and no bank is
FILLING, and a FILLING bank for every OPEN or SUSPENDED job that does not extend), of the meter and its ticket
store, of the tickets' consecutive numbers and running totals, of the stored tables, and of the head height
and the string length. -/
def Obligations.EveryStepKeepsTheStoreLaws : Prop :=
  ∀ s t : State, step s = .next t →
    (s.bankLaw → t.bankLaw) ∧ (s.bankLaw → s.recorderLaw → t.recorderLaw) ∧
    (s.meterLaw → t.meterLaw) ∧ (s.ticketLaw → t.ticketLaw) ∧ (s.tables.law → t.tables.law) ∧
    (s.depthLaw → t.depthLaw)

/-- R87, R90, R96: hole depth rises by an advance and falls by no event but a DEPTH CORRECT, as its row or
as its frame, and the restoring of a failed DEPTH area. -/
def Obligations.HoleDepthFallsOnlyByCorrectionOrLoss : Prop :=
  ∀ (c : Instr) (s t : State), exec c s = .next t →
    s.depth.hole ≤ t.depth.hole ∨ (∃ h d, c = .depthCorrect h d) ∨
    (∃ bytes f, c = .cabFrame bytes ∧ parseFrame bytes = some f ∧ f.kind = .request ∧ f.tag = 48) ∨
    (∃ failed, c = .checksComplete failed ∧ failed.depth = true)

/-- R174, R165: the state after POWER_ON meets every law above. The retained areas stand at their
defaults in it (log 9). -/
def Obligations.ResetMeetsEveryLaw : Prop :=
  State.reset.trunk.settled ∧ State.reset.trunk.bounded ∧ State.reset.setpointLaw ∧
  State.reset.pumpLaw ∧
  State.reset.tracker.law ∧ State.reset.bankLaw ∧ State.reset.recorderLaw ∧ State.reset.meterLaw ∧
  State.reset.ticketLaw ∧ State.reset.tables.law ∧ State.reset.windowLaw ∧ State.reset.depthLaw ∧ State.reset.pending = []
end

