-- ==== Sys2Proof/Laws/State.lean ====
section
/-! SUPPORT. What each update of one block leaves in every block: one lemma per field per update. -/

namespace Sys2Proof.Machine

variable (s : State)

/-! ### onTables -/

@[simp] theorem State.onTables_tables (f : Tables → Tables) : (s.onTables f).tables = f s.tables := rfl
@[simp] theorem State.onTables_inputs (f : Tables → Tables) : (s.onTables f).inputs = s.inputs := rfl
@[simp] theorem State.onTables_circ (f : Tables → Tables) : (s.onTables f).circ = s.circ := rfl
@[simp] theorem State.onTables_pumpCtl (f : Tables → Tables) : (s.onTables f).pumpCtl = s.pumpCtl := rfl
@[simp] theorem State.onTables_tracker (f : Tables → Tables) : (s.onTables f).tracker = s.tracker := rfl
@[simp] theorem State.onTables_depth (f : Tables → Tables) : (s.onTables f).depth = s.depth := rfl
@[simp] theorem State.onTables_recorder (f : Tables → Tables) : (s.onTables f).recorder = s.recorder := rfl
@[simp] theorem State.onTables_banks (f : Tables → Tables) : (s.onTables f).banks = s.banks := rfl
@[simp] theorem State.onTables_billing (f : Tables → Tables) : (s.onTables f).billing = s.billing := rfl
@[simp] theorem State.onTables_trunk (f : Tables → Tables) : (s.onTables f).trunk = s.trunk := rfl
@[simp] theorem State.onTables_mgmt (f : Tables → Tables) : (s.onTables f).mgmt = s.mgmt := rfl
@[simp] theorem State.onTables_pending (f : Tables → Tables) : (s.onTables f).pending = s.pending := rfl

/-! ### onCirc -/

@[simp] theorem State.onCirc_tables (f : Circulation → Circulation) : (s.onCirc f).tables = s.tables := rfl
@[simp] theorem State.onCirc_inputs (f : Circulation → Circulation) : (s.onCirc f).inputs = s.inputs := rfl
@[simp] theorem State.onCirc_circ (f : Circulation → Circulation) : (s.onCirc f).circ = f s.circ := rfl
@[simp] theorem State.onCirc_pumpCtl (f : Circulation → Circulation) : (s.onCirc f).pumpCtl = s.pumpCtl := rfl
@[simp] theorem State.onCirc_tracker (f : Circulation → Circulation) : (s.onCirc f).tracker = s.tracker := rfl
@[simp] theorem State.onCirc_depth (f : Circulation → Circulation) : (s.onCirc f).depth = s.depth := rfl
@[simp] theorem State.onCirc_recorder (f : Circulation → Circulation) : (s.onCirc f).recorder = s.recorder := rfl
@[simp] theorem State.onCirc_banks (f : Circulation → Circulation) : (s.onCirc f).banks = s.banks := rfl
@[simp] theorem State.onCirc_billing (f : Circulation → Circulation) : (s.onCirc f).billing = s.billing := rfl
@[simp] theorem State.onCirc_trunk (f : Circulation → Circulation) : (s.onCirc f).trunk = s.trunk := rfl
@[simp] theorem State.onCirc_mgmt (f : Circulation → Circulation) : (s.onCirc f).mgmt = s.mgmt := rfl
@[simp] theorem State.onCirc_pending (f : Circulation → Circulation) : (s.onCirc f).pending = s.pending := rfl

/-! ### onPumpCtl -/

@[simp] theorem State.onPumpCtl_tables (f : PumpControl → PumpControl) : (s.onPumpCtl f).tables = s.tables := rfl
@[simp] theorem State.onPumpCtl_inputs (f : PumpControl → PumpControl) : (s.onPumpCtl f).inputs = s.inputs := rfl
@[simp] theorem State.onPumpCtl_circ (f : PumpControl → PumpControl) : (s.onPumpCtl f).circ = s.circ := rfl
@[simp] theorem State.onPumpCtl_pumpCtl (f : PumpControl → PumpControl) : (s.onPumpCtl f).pumpCtl = f s.pumpCtl := rfl
@[simp] theorem State.onPumpCtl_tracker (f : PumpControl → PumpControl) : (s.onPumpCtl f).tracker = s.tracker := rfl
@[simp] theorem State.onPumpCtl_depth (f : PumpControl → PumpControl) : (s.onPumpCtl f).depth = s.depth := rfl
@[simp] theorem State.onPumpCtl_recorder (f : PumpControl → PumpControl) : (s.onPumpCtl f).recorder = s.recorder := rfl
@[simp] theorem State.onPumpCtl_banks (f : PumpControl → PumpControl) : (s.onPumpCtl f).banks = s.banks := rfl
@[simp] theorem State.onPumpCtl_billing (f : PumpControl → PumpControl) : (s.onPumpCtl f).billing = s.billing := rfl
@[simp] theorem State.onPumpCtl_trunk (f : PumpControl → PumpControl) : (s.onPumpCtl f).trunk = s.trunk := rfl
@[simp] theorem State.onPumpCtl_mgmt (f : PumpControl → PumpControl) : (s.onPumpCtl f).mgmt = s.mgmt := rfl
@[simp] theorem State.onPumpCtl_pending (f : PumpControl → PumpControl) : (s.onPumpCtl f).pending = s.pending := rfl

/-! ### onTracker -/

@[simp] theorem State.onTracker_tables (f : Tracker → Tracker) : (s.onTracker f).tables = s.tables := rfl
@[simp] theorem State.onTracker_inputs (f : Tracker → Tracker) : (s.onTracker f).inputs = s.inputs := rfl
@[simp] theorem State.onTracker_circ (f : Tracker → Tracker) : (s.onTracker f).circ = s.circ := rfl
@[simp] theorem State.onTracker_pumpCtl (f : Tracker → Tracker) : (s.onTracker f).pumpCtl = s.pumpCtl := rfl
@[simp] theorem State.onTracker_tracker (f : Tracker → Tracker) : (s.onTracker f).tracker = f s.tracker := rfl
@[simp] theorem State.onTracker_depth (f : Tracker → Tracker) : (s.onTracker f).depth = s.depth := rfl
@[simp] theorem State.onTracker_recorder (f : Tracker → Tracker) : (s.onTracker f).recorder = s.recorder := rfl
@[simp] theorem State.onTracker_banks (f : Tracker → Tracker) : (s.onTracker f).banks = s.banks := rfl
@[simp] theorem State.onTracker_billing (f : Tracker → Tracker) : (s.onTracker f).billing = s.billing := rfl
@[simp] theorem State.onTracker_trunk (f : Tracker → Tracker) : (s.onTracker f).trunk = s.trunk := rfl
@[simp] theorem State.onTracker_mgmt (f : Tracker → Tracker) : (s.onTracker f).mgmt = s.mgmt := rfl
@[simp] theorem State.onTracker_pending (f : Tracker → Tracker) : (s.onTracker f).pending = s.pending := rfl

/-! ### onDepth -/

@[simp] theorem State.onDepth_tables (f : Depth → Depth) : (s.onDepth f).tables = s.tables := rfl
@[simp] theorem State.onDepth_inputs (f : Depth → Depth) : (s.onDepth f).inputs = s.inputs := rfl
@[simp] theorem State.onDepth_circ (f : Depth → Depth) : (s.onDepth f).circ = s.circ := rfl
@[simp] theorem State.onDepth_pumpCtl (f : Depth → Depth) : (s.onDepth f).pumpCtl = s.pumpCtl := rfl
@[simp] theorem State.onDepth_tracker (f : Depth → Depth) : (s.onDepth f).tracker = s.tracker := rfl
@[simp] theorem State.onDepth_depth (f : Depth → Depth) : (s.onDepth f).depth = f s.depth := rfl
@[simp] theorem State.onDepth_recorder (f : Depth → Depth) : (s.onDepth f).recorder = s.recorder := rfl
@[simp] theorem State.onDepth_banks (f : Depth → Depth) : (s.onDepth f).banks = s.banks := rfl
@[simp] theorem State.onDepth_billing (f : Depth → Depth) : (s.onDepth f).billing = s.billing := rfl
@[simp] theorem State.onDepth_trunk (f : Depth → Depth) : (s.onDepth f).trunk = s.trunk := rfl
@[simp] theorem State.onDepth_mgmt (f : Depth → Depth) : (s.onDepth f).mgmt = s.mgmt := rfl
@[simp] theorem State.onDepth_pending (f : Depth → Depth) : (s.onDepth f).pending = s.pending := rfl

/-! ### onRecorder -/

@[simp] theorem State.onRecorder_tables (f : Recorder → Recorder) : (s.onRecorder f).tables = s.tables := rfl
@[simp] theorem State.onRecorder_inputs (f : Recorder → Recorder) : (s.onRecorder f).inputs = s.inputs := rfl
@[simp] theorem State.onRecorder_circ (f : Recorder → Recorder) : (s.onRecorder f).circ = s.circ := rfl
@[simp] theorem State.onRecorder_pumpCtl (f : Recorder → Recorder) : (s.onRecorder f).pumpCtl = s.pumpCtl := rfl
@[simp] theorem State.onRecorder_tracker (f : Recorder → Recorder) : (s.onRecorder f).tracker = s.tracker := rfl
@[simp] theorem State.onRecorder_depth (f : Recorder → Recorder) : (s.onRecorder f).depth = s.depth := rfl
@[simp] theorem State.onRecorder_recorder (f : Recorder → Recorder) : (s.onRecorder f).recorder = f s.recorder := rfl
@[simp] theorem State.onRecorder_banks (f : Recorder → Recorder) : (s.onRecorder f).banks = s.banks := rfl
@[simp] theorem State.onRecorder_billing (f : Recorder → Recorder) : (s.onRecorder f).billing = s.billing := rfl
@[simp] theorem State.onRecorder_trunk (f : Recorder → Recorder) : (s.onRecorder f).trunk = s.trunk := rfl
@[simp] theorem State.onRecorder_mgmt (f : Recorder → Recorder) : (s.onRecorder f).mgmt = s.mgmt := rfl
@[simp] theorem State.onRecorder_pending (f : Recorder → Recorder) : (s.onRecorder f).pending = s.pending := rfl

/-! ### onBilling -/

@[simp] theorem State.onBilling_tables (f : Billing → Billing) : (s.onBilling f).tables = s.tables := rfl
@[simp] theorem State.onBilling_inputs (f : Billing → Billing) : (s.onBilling f).inputs = s.inputs := rfl
@[simp] theorem State.onBilling_circ (f : Billing → Billing) : (s.onBilling f).circ = s.circ := rfl
@[simp] theorem State.onBilling_pumpCtl (f : Billing → Billing) : (s.onBilling f).pumpCtl = s.pumpCtl := rfl
@[simp] theorem State.onBilling_tracker (f : Billing → Billing) : (s.onBilling f).tracker = s.tracker := rfl
@[simp] theorem State.onBilling_depth (f : Billing → Billing) : (s.onBilling f).depth = s.depth := rfl
@[simp] theorem State.onBilling_recorder (f : Billing → Billing) : (s.onBilling f).recorder = s.recorder := rfl
@[simp] theorem State.onBilling_banks (f : Billing → Billing) : (s.onBilling f).banks = s.banks := rfl
@[simp] theorem State.onBilling_billing (f : Billing → Billing) : (s.onBilling f).billing = f s.billing := rfl
@[simp] theorem State.onBilling_trunk (f : Billing → Billing) : (s.onBilling f).trunk = s.trunk := rfl
@[simp] theorem State.onBilling_mgmt (f : Billing → Billing) : (s.onBilling f).mgmt = s.mgmt := rfl
@[simp] theorem State.onBilling_pending (f : Billing → Billing) : (s.onBilling f).pending = s.pending := rfl

/-! ### onTrunk -/

@[simp] theorem State.onTrunk_tables (f : Trunk → Trunk) : (s.onTrunk f).tables = s.tables := rfl
@[simp] theorem State.onTrunk_inputs (f : Trunk → Trunk) : (s.onTrunk f).inputs = s.inputs := rfl
@[simp] theorem State.onTrunk_circ (f : Trunk → Trunk) : (s.onTrunk f).circ = s.circ := rfl
@[simp] theorem State.onTrunk_pumpCtl (f : Trunk → Trunk) : (s.onTrunk f).pumpCtl = s.pumpCtl := rfl
@[simp] theorem State.onTrunk_tracker (f : Trunk → Trunk) : (s.onTrunk f).tracker = s.tracker := rfl
@[simp] theorem State.onTrunk_depth (f : Trunk → Trunk) : (s.onTrunk f).depth = s.depth := rfl
@[simp] theorem State.onTrunk_recorder (f : Trunk → Trunk) : (s.onTrunk f).recorder = s.recorder := rfl
@[simp] theorem State.onTrunk_banks (f : Trunk → Trunk) : (s.onTrunk f).banks = s.banks := rfl
@[simp] theorem State.onTrunk_billing (f : Trunk → Trunk) : (s.onTrunk f).billing = s.billing := rfl
@[simp] theorem State.onTrunk_trunk (f : Trunk → Trunk) : (s.onTrunk f).trunk = f s.trunk := rfl
@[simp] theorem State.onTrunk_mgmt (f : Trunk → Trunk) : (s.onTrunk f).mgmt = s.mgmt := rfl
@[simp] theorem State.onTrunk_pending (f : Trunk → Trunk) : (s.onTrunk f).pending = s.pending := rfl

/-! ### onMgmt -/

@[simp] theorem State.onMgmt_tables (f : Management → Management) : (s.onMgmt f).tables = s.tables := rfl
@[simp] theorem State.onMgmt_inputs (f : Management → Management) : (s.onMgmt f).inputs = s.inputs := rfl
@[simp] theorem State.onMgmt_circ (f : Management → Management) : (s.onMgmt f).circ = s.circ := rfl
@[simp] theorem State.onMgmt_pumpCtl (f : Management → Management) : (s.onMgmt f).pumpCtl = s.pumpCtl := rfl
@[simp] theorem State.onMgmt_tracker (f : Management → Management) : (s.onMgmt f).tracker = s.tracker := rfl
@[simp] theorem State.onMgmt_depth (f : Management → Management) : (s.onMgmt f).depth = s.depth := rfl
@[simp] theorem State.onMgmt_recorder (f : Management → Management) : (s.onMgmt f).recorder = s.recorder := rfl
@[simp] theorem State.onMgmt_banks (f : Management → Management) : (s.onMgmt f).banks = s.banks := rfl
@[simp] theorem State.onMgmt_billing (f : Management → Management) : (s.onMgmt f).billing = s.billing := rfl
@[simp] theorem State.onMgmt_trunk (f : Management → Management) : (s.onMgmt f).trunk = s.trunk := rfl
@[simp] theorem State.onMgmt_mgmt (f : Management → Management) : (s.onMgmt f).mgmt = f s.mgmt := rfl
@[simp] theorem State.onMgmt_pending (f : Management → Management) : (s.onMgmt f).pending = s.pending := rfl

/-! ### onInput -/

@[simp] theorem State.onInput_tables (i : InputId) (f : Input → Input) :
    (s.onInput i f).tables = s.tables := rfl
@[simp] theorem State.onInput_inputs (i : InputId) (f : Input → Input) :
    (s.onInput i f).inputs = s.inputs.set i (f s.inputs[i]) := rfl
@[simp] theorem State.onInput_circ (i : InputId) (f : Input → Input) :
    (s.onInput i f).circ = s.circ := rfl
@[simp] theorem State.onInput_pumpCtl (i : InputId) (f : Input → Input) :
    (s.onInput i f).pumpCtl = s.pumpCtl := rfl
@[simp] theorem State.onInput_tracker (i : InputId) (f : Input → Input) :
    (s.onInput i f).tracker = s.tracker := rfl
@[simp] theorem State.onInput_depth (i : InputId) (f : Input → Input) :
    (s.onInput i f).depth = s.depth := rfl
@[simp] theorem State.onInput_recorder (i : InputId) (f : Input → Input) :
    (s.onInput i f).recorder = s.recorder := rfl
@[simp] theorem State.onInput_banks (i : InputId) (f : Input → Input) :
    (s.onInput i f).banks = s.banks := rfl
@[simp] theorem State.onInput_billing (i : InputId) (f : Input → Input) :
    (s.onInput i f).billing = s.billing := rfl
@[simp] theorem State.onInput_trunk (i : InputId) (f : Input → Input) :
    (s.onInput i f).trunk = s.trunk := rfl
@[simp] theorem State.onInput_mgmt (i : InputId) (f : Input → Input) :
    (s.onInput i f).mgmt = s.mgmt := rfl
@[simp] theorem State.onInput_pending (i : InputId) (f : Input → Input) :
    (s.onInput i f).pending = s.pending := rfl

/-! ### onBank -/

@[simp] theorem State.onBank_tables (b : Fin 2) (f : Bank → Bank) :
    (s.onBank b f).tables = s.tables := rfl
@[simp] theorem State.onBank_inputs (b : Fin 2) (f : Bank → Bank) :
    (s.onBank b f).inputs = s.inputs := rfl
@[simp] theorem State.onBank_circ (b : Fin 2) (f : Bank → Bank) :
    (s.onBank b f).circ = s.circ := rfl
@[simp] theorem State.onBank_pumpCtl (b : Fin 2) (f : Bank → Bank) :
    (s.onBank b f).pumpCtl = s.pumpCtl := rfl
@[simp] theorem State.onBank_tracker (b : Fin 2) (f : Bank → Bank) :
    (s.onBank b f).tracker = s.tracker := rfl
@[simp] theorem State.onBank_depth (b : Fin 2) (f : Bank → Bank) :
    (s.onBank b f).depth = s.depth := rfl
@[simp] theorem State.onBank_recorder (b : Fin 2) (f : Bank → Bank) :
    (s.onBank b f).recorder = s.recorder := rfl
@[simp] theorem State.onBank_banks (b : Fin 2) (f : Bank → Bank) :
    (s.onBank b f).banks = s.banks.set b (f s.banks[b]) := rfl
@[simp] theorem State.onBank_billing (b : Fin 2) (f : Bank → Bank) :
    (s.onBank b f).billing = s.billing := rfl
@[simp] theorem State.onBank_trunk (b : Fin 2) (f : Bank → Bank) :
    (s.onBank b f).trunk = s.trunk := rfl
@[simp] theorem State.onBank_mgmt (b : Fin 2) (f : Bank → Bank) :
    (s.onBank b f).mgmt = s.mgmt := rfl
@[simp] theorem State.onBank_pending (b : Fin 2) (f : Bank → Bank) :
    (s.onBank b f).pending = s.pending := rfl

/-! ### onPump -/

@[simp] theorem State.onPump_tables (p : PumpId) (f : Pump → Pump) :
    (s.onPump p f).tables = s.tables := rfl
@[simp] theorem State.onPump_inputs (p : PumpId) (f : Pump → Pump) :
    (s.onPump p f).inputs = s.inputs := rfl
@[simp] theorem State.onPump_circ (p : PumpId) (f : Pump → Pump) :
    (s.onPump p f).circ = s.circ := rfl
@[simp] theorem State.onPump_pumpCtl (p : PumpId) (f : Pump → Pump) :
    (s.onPump p f).pumpCtl = { s.pumpCtl with pumps := s.pumpCtl.pumps.set p (f s.pumpCtl.pumps[p]) } := rfl
@[simp] theorem State.onPump_tracker (p : PumpId) (f : Pump → Pump) :
    (s.onPump p f).tracker = s.tracker := rfl
@[simp] theorem State.onPump_depth (p : PumpId) (f : Pump → Pump) :
    (s.onPump p f).depth = s.depth := rfl
@[simp] theorem State.onPump_recorder (p : PumpId) (f : Pump → Pump) :
    (s.onPump p f).recorder = s.recorder := rfl
@[simp] theorem State.onPump_banks (p : PumpId) (f : Pump → Pump) :
    (s.onPump p f).banks = s.banks := rfl
@[simp] theorem State.onPump_billing (p : PumpId) (f : Pump → Pump) :
    (s.onPump p f).billing = s.billing := rfl
@[simp] theorem State.onPump_trunk (p : PumpId) (f : Pump → Pump) :
    (s.onPump p f).trunk = s.trunk := rfl
@[simp] theorem State.onPump_mgmt (p : PumpId) (f : Pump → Pump) :
    (s.onPump p f).mgmt = s.mgmt := rfl
@[simp] theorem State.onPump_pending (p : PumpId) (f : Pump → Pump) :
    (s.onPump p f).pending = s.pending := rfl

/-! ### onJob -/

@[simp] theorem State.onJob_tables (f : Job → Job) :
    (s.onJob f).tables = s.tables := rfl
@[simp] theorem State.onJob_inputs (f : Job → Job) :
    (s.onJob f).inputs = s.inputs := rfl
@[simp] theorem State.onJob_circ (f : Job → Job) :
    (s.onJob f).circ = s.circ := rfl
@[simp] theorem State.onJob_pumpCtl (f : Job → Job) :
    (s.onJob f).pumpCtl = s.pumpCtl := rfl
@[simp] theorem State.onJob_tracker (f : Job → Job) :
    (s.onJob f).tracker = s.tracker := rfl
@[simp] theorem State.onJob_depth (f : Job → Job) :
    (s.onJob f).depth = s.depth := rfl
@[simp] theorem State.onJob_recorder (f : Job → Job) :
    (s.onJob f).recorder = s.recorder := rfl
@[simp] theorem State.onJob_banks (f : Job → Job) :
    (s.onJob f).banks = s.banks := rfl
@[simp] theorem State.onJob_billing (f : Job → Job) :
    (s.onJob f).billing = { s.billing with job := f s.billing.job } := rfl
@[simp] theorem State.onJob_trunk (f : Job → Job) :
    (s.onJob f).trunk = s.trunk := rfl
@[simp] theorem State.onJob_mgmt (f : Job → Job) :
    (s.onJob f).mgmt = s.mgmt := rfl
@[simp] theorem State.onJob_pending (f : Job → Job) :
    (s.onJob f).pending = s.pending := rfl

/-! ### One entry of a register group -/

theorem State.onPump_pump (p q : PumpId) (f : Pump → Pump) :
    (s.onPump p f).pump q = if p = q then f (s.pump p) else s.pump q := by
  by_cases h : p = q
  · subst h; simp [State.pump]
  · have : (p : Nat) ≠ q := fun e => h (Fin.ext e)
    simp [State.pump, h, this]

theorem State.onInput_input (i j : InputId) (f : Input → Input) :
    (s.onInput i f).input j = if i = j then f (s.input i) else s.input j := by
  by_cases h : i = j
  · subst h; simp [State.input]
  · have : (i : Nat) ≠ j := fun e => h (Fin.ext e)
    simp [State.input, h, this]

theorem State.onBank_banks_get (b c : Fin 2) (f : Bank → Bank) :
    (s.onBank b f).banks[c] = if b = c then f s.banks[b] else s.banks[c] := by
  by_cases h : b = c
  · subst h; simp
  · have : (b : Nat) ≠ c := fun e => h (Fin.ext e)
    simp [h, this]

end Sys2Proof.Machine
end

