-- ==== Sys2Proof/Laws/Ops.lean ====
section
/-! SUPPORT. What each shared operation can do: the blocks it leaves alone, and what the queues, the
setpoint queue and the two transmitters hold after it. -/

namespace Sys2Proof.Machine

variable (s : State)

/-! ### raise -/

@[simp] theorem State.raise_tables (k : NoticeKind) (n : Nat) (v : Int) : (s.raise k n v).tables = s.tables := rfl
@[simp] theorem State.raise_inputs (k : NoticeKind) (n : Nat) (v : Int) : (s.raise k n v).inputs = s.inputs := rfl
@[simp] theorem State.raise_circ (k : NoticeKind) (n : Nat) (v : Int) : (s.raise k n v).circ = s.circ := rfl
@[simp] theorem State.raise_pumpCtl (k : NoticeKind) (n : Nat) (v : Int) : (s.raise k n v).pumpCtl = s.pumpCtl := rfl
@[simp] theorem State.raise_tracker (k : NoticeKind) (n : Nat) (v : Int) : (s.raise k n v).tracker = s.tracker := rfl
@[simp] theorem State.raise_depth (k : NoticeKind) (n : Nat) (v : Int) : (s.raise k n v).depth = s.depth := rfl
@[simp] theorem State.raise_recorder (k : NoticeKind) (n : Nat) (v : Int) : (s.raise k n v).recorder = s.recorder := rfl
@[simp] theorem State.raise_banks (k : NoticeKind) (n : Nat) (v : Int) : (s.raise k n v).banks = s.banks := rfl
@[simp] theorem State.raise_billing (k : NoticeKind) (n : Nat) (v : Int) : (s.raise k n v).billing = s.billing := rfl
@[simp] theorem State.raise_mgmt (k : NoticeKind) (n : Nat) (v : Int) : (s.raise k n v).mgmt = s.mgmt := rfl
@[simp] theorem State.raise_pending (k : NoticeKind) (n : Nat) (v : Int) : (s.raise k n v).pending = s.pending := rfl

/-! ### offerCab -/

@[simp] theorem State.offerCab_tables (f : Frame) : (s.offerCab f).tables = s.tables := rfl
@[simp] theorem State.offerCab_inputs (f : Frame) : (s.offerCab f).inputs = s.inputs := rfl
@[simp] theorem State.offerCab_circ (f : Frame) : (s.offerCab f).circ = s.circ := rfl
@[simp] theorem State.offerCab_pumpCtl (f : Frame) : (s.offerCab f).pumpCtl = s.pumpCtl := rfl
@[simp] theorem State.offerCab_tracker (f : Frame) : (s.offerCab f).tracker = s.tracker := rfl
@[simp] theorem State.offerCab_depth (f : Frame) : (s.offerCab f).depth = s.depth := rfl
@[simp] theorem State.offerCab_recorder (f : Frame) : (s.offerCab f).recorder = s.recorder := rfl
@[simp] theorem State.offerCab_banks (f : Frame) : (s.offerCab f).banks = s.banks := rfl
@[simp] theorem State.offerCab_billing (f : Frame) : (s.offerCab f).billing = s.billing := rfl
@[simp] theorem State.offerCab_mgmt (f : Frame) : (s.offerCab f).mgmt = s.mgmt := rfl
@[simp] theorem State.offerCab_pending (f : Frame) : (s.offerCab f).pending = s.pending := rfl

/-! ### offerField -/

@[simp] theorem State.offerField_tables (f : Frame) : (s.offerField f).tables = s.tables := rfl
@[simp] theorem State.offerField_inputs (f : Frame) : (s.offerField f).inputs = s.inputs := rfl
@[simp] theorem State.offerField_circ (f : Frame) : (s.offerField f).circ = s.circ := rfl
@[simp] theorem State.offerField_pumpCtl (f : Frame) : (s.offerField f).pumpCtl = s.pumpCtl := rfl
@[simp] theorem State.offerField_tracker (f : Frame) : (s.offerField f).tracker = s.tracker := rfl
@[simp] theorem State.offerField_depth (f : Frame) : (s.offerField f).depth = s.depth := rfl
@[simp] theorem State.offerField_recorder (f : Frame) : (s.offerField f).recorder = s.recorder := rfl
@[simp] theorem State.offerField_banks (f : Frame) : (s.offerField f).banks = s.banks := rfl
@[simp] theorem State.offerField_billing (f : Frame) : (s.offerField f).billing = s.billing := rfl
@[simp] theorem State.offerField_mgmt (f : Frame) : (s.offerField f).mgmt = s.mgmt := rfl
@[simp] theorem State.offerField_pending (f : Frame) : (s.offerField f).pending = s.pending := rfl

/-! ### countFieldError -/

@[simp] theorem State.countFieldError_tables : (s.countFieldError).tables = s.tables := rfl
@[simp] theorem State.countFieldError_inputs : (s.countFieldError).inputs = s.inputs := rfl
@[simp] theorem State.countFieldError_circ : (s.countFieldError).circ = s.circ := rfl
@[simp] theorem State.countFieldError_pumpCtl : (s.countFieldError).pumpCtl = s.pumpCtl := rfl
@[simp] theorem State.countFieldError_tracker : (s.countFieldError).tracker = s.tracker := rfl
@[simp] theorem State.countFieldError_depth : (s.countFieldError).depth = s.depth := rfl
@[simp] theorem State.countFieldError_recorder : (s.countFieldError).recorder = s.recorder := rfl
@[simp] theorem State.countFieldError_banks : (s.countFieldError).banks = s.banks := rfl
@[simp] theorem State.countFieldError_billing : (s.countFieldError).billing = s.billing := rfl
@[simp] theorem State.countFieldError_mgmt : (s.countFieldError).mgmt = s.mgmt := rfl
@[simp] theorem State.countFieldError_pending : (s.countFieldError).pending = s.pending := rfl

/-! ### countCabError -/

@[simp] theorem State.countCabError_tables : (s.countCabError).tables = s.tables := rfl
@[simp] theorem State.countCabError_inputs : (s.countCabError).inputs = s.inputs := rfl
@[simp] theorem State.countCabError_circ : (s.countCabError).circ = s.circ := rfl
@[simp] theorem State.countCabError_pumpCtl : (s.countCabError).pumpCtl = s.pumpCtl := rfl
@[simp] theorem State.countCabError_tracker : (s.countCabError).tracker = s.tracker := rfl
@[simp] theorem State.countCabError_depth : (s.countCabError).depth = s.depth := rfl
@[simp] theorem State.countCabError_recorder : (s.countCabError).recorder = s.recorder := rfl
@[simp] theorem State.countCabError_banks : (s.countCabError).banks = s.banks := rfl
@[simp] theorem State.countCabError_billing : (s.countCabError).billing = s.billing := rfl
@[simp] theorem State.countCabError_mgmt : (s.countCabError).mgmt = s.mgmt := rfl
@[simp] theorem State.countCabError_pending : (s.countCabError).pending = s.pending := rfl

/-! ### placeReply -/

@[simp] theorem State.placeReply_tables (h : ReqHeader) (tag : Byte) (r : Reply) : (s.placeReply h tag r).tables = s.tables := rfl
@[simp] theorem State.placeReply_inputs (h : ReqHeader) (tag : Byte) (r : Reply) : (s.placeReply h tag r).inputs = s.inputs := rfl
@[simp] theorem State.placeReply_circ (h : ReqHeader) (tag : Byte) (r : Reply) : (s.placeReply h tag r).circ = s.circ := rfl
@[simp] theorem State.placeReply_pumpCtl (h : ReqHeader) (tag : Byte) (r : Reply) : (s.placeReply h tag r).pumpCtl = s.pumpCtl := rfl
@[simp] theorem State.placeReply_tracker (h : ReqHeader) (tag : Byte) (r : Reply) : (s.placeReply h tag r).tracker = s.tracker := rfl
@[simp] theorem State.placeReply_depth (h : ReqHeader) (tag : Byte) (r : Reply) : (s.placeReply h tag r).depth = s.depth := rfl
@[simp] theorem State.placeReply_recorder (h : ReqHeader) (tag : Byte) (r : Reply) : (s.placeReply h tag r).recorder = s.recorder := rfl
@[simp] theorem State.placeReply_banks (h : ReqHeader) (tag : Byte) (r : Reply) : (s.placeReply h tag r).banks = s.banks := rfl
@[simp] theorem State.placeReply_billing (h : ReqHeader) (tag : Byte) (r : Reply) : (s.placeReply h tag r).billing = s.billing := rfl
@[simp] theorem State.placeReply_mgmt (h : ReqHeader) (tag : Byte) (r : Reply) : (s.placeReply h tag r).mgmt = s.mgmt := rfl
@[simp] theorem State.placeReply_pending (h : ReqHeader) (tag : Byte) (r : Reply) : (s.placeReply h tag r).pending = s.pending := rfl

/-! ### queueSetpoint -/

@[simp] theorem State.queueSetpoint_tables (p : PumpId) (v : Nat) : (s.queueSetpoint p v).tables = s.tables := rfl
@[simp] theorem State.queueSetpoint_inputs (p : PumpId) (v : Nat) : (s.queueSetpoint p v).inputs = s.inputs := rfl
@[simp] theorem State.queueSetpoint_circ (p : PumpId) (v : Nat) : (s.queueSetpoint p v).circ = s.circ := rfl
@[simp] theorem State.queueSetpoint_tracker (p : PumpId) (v : Nat) : (s.queueSetpoint p v).tracker = s.tracker := rfl
@[simp] theorem State.queueSetpoint_depth (p : PumpId) (v : Nat) : (s.queueSetpoint p v).depth = s.depth := rfl
@[simp] theorem State.queueSetpoint_recorder (p : PumpId) (v : Nat) : (s.queueSetpoint p v).recorder = s.recorder := rfl
@[simp] theorem State.queueSetpoint_banks (p : PumpId) (v : Nat) : (s.queueSetpoint p v).banks = s.banks := rfl
@[simp] theorem State.queueSetpoint_billing (p : PumpId) (v : Nat) : (s.queueSetpoint p v).billing = s.billing := rfl
@[simp] theorem State.queueSetpoint_mgmt (p : PumpId) (v : Nat) : (s.queueSetpoint p v).mgmt = s.mgmt := rfl
@[simp] theorem State.queueSetpoint_pending (p : PumpId) (v : Nat) : (s.queueSetpoint p v).pending = s.pending := rfl

/-! ### headZero -/

@[simp] theorem State.headZero_tables (p : PumpId) : (s.headZero p).tables = s.tables := rfl
@[simp] theorem State.headZero_inputs (p : PumpId) : (s.headZero p).inputs = s.inputs := rfl
@[simp] theorem State.headZero_circ (p : PumpId) : (s.headZero p).circ = s.circ := rfl
@[simp] theorem State.headZero_tracker (p : PumpId) : (s.headZero p).tracker = s.tracker := rfl
@[simp] theorem State.headZero_depth (p : PumpId) : (s.headZero p).depth = s.depth := rfl
@[simp] theorem State.headZero_recorder (p : PumpId) : (s.headZero p).recorder = s.recorder := rfl
@[simp] theorem State.headZero_banks (p : PumpId) : (s.headZero p).banks = s.banks := rfl
@[simp] theorem State.headZero_billing (p : PumpId) : (s.headZero p).billing = s.billing := rfl
@[simp] theorem State.headZero_mgmt (p : PumpId) : (s.headZero p).mgmt = s.mgmt := rfl
@[simp] theorem State.headZero_pending (p : PumpId) : (s.headZero p).pending = s.pending := rfl

/-! ### reach -/

@[simp] theorem State.reach_tables (d : Nat) : (s.reach d).tables = s.tables := rfl
@[simp] theorem State.reach_inputs (d : Nat) : (s.reach d).inputs = s.inputs := rfl
@[simp] theorem State.reach_circ (d : Nat) : (s.reach d).circ = s.circ := rfl
@[simp] theorem State.reach_pumpCtl (d : Nat) : (s.reach d).pumpCtl = s.pumpCtl := rfl
@[simp] theorem State.reach_tracker (d : Nat) : (s.reach d).tracker = s.tracker := rfl
@[simp] theorem State.reach_depth (d : Nat) : (s.reach d).depth = s.depth := rfl
@[simp] theorem State.reach_recorder (d : Nat) : (s.reach d).recorder = s.recorder := rfl
@[simp] theorem State.reach_banks (d : Nat) : (s.reach d).banks = s.banks := rfl
@[simp] theorem State.reach_billing (d : Nat) : (s.reach d).billing = s.billing := rfl
@[simp] theorem State.reach_trunk (d : Nat) : (s.reach d).trunk = s.trunk := rfl
@[simp] theorem State.reach_pending (d : Nat) : (s.reach d).pending = s.pending := rfl

/-! ### transmit -/

@[simp] theorem transmit_tables : (transmit s).tables = s.tables := rfl
@[simp] theorem transmit_inputs : (transmit s).inputs = s.inputs := rfl
@[simp] theorem transmit_circ : (transmit s).circ = s.circ := rfl
@[simp] theorem transmit_pumpCtl : (transmit s).pumpCtl = s.pumpCtl := rfl
@[simp] theorem transmit_tracker : (transmit s).tracker = s.tracker := rfl
@[simp] theorem transmit_depth : (transmit s).depth = s.depth := rfl
@[simp] theorem transmit_recorder : (transmit s).recorder = s.recorder := rfl
@[simp] theorem transmit_banks : (transmit s).banks = s.banks := rfl
@[simp] theorem transmit_billing : (transmit s).billing = s.billing := rfl
@[simp] theorem transmit_mgmt : (transmit s).mgmt = s.mgmt := rfl
@[simp] theorem transmit_pending : (transmit s).pending = s.pending := rfl
@[simp] theorem transmit_trunk : (transmit s).trunk = s.trunk.cabArbiter.fieldArbiter := rfl

/-! ### The notice queues (R161) -/

/-- An urgent notice joins the tail of a queue with room, and sets the flag of a full one. -/
theorem Trunk.joinUrgent_cases (t : Trunk) (n : Notice) :
    (t.urgent.length < Config.urgentSize ∧ t.joinUrgent n = { t with urgent := t.urgent ++ [n] }) ∨
    (Config.urgentSize ≤ t.urgent.length ∧ t.joinUrgent n = { t with overflow := true }) := by
  unfold Trunk.joinUrgent
  split
  · exact .inl ⟨‹_›, rfl⟩
  · exact .inr ⟨Nat.le_of_not_lt ‹_›, rfl⟩

/-- A general notice changes the general queue and the flag only. -/
theorem Trunk.joinGeneral_other (t : Trunk) (n : Notice) :
    t.joinGeneral n = { t with
      general := (t.joinGeneral n).general, overflow := (t.joinGeneral n).overflow } := by
  unfold Trunk.joinGeneral
  split
  · rfl
  · split <;> rfl

/-- The general queue never passes its capacity. -/
theorem Trunk.joinGeneral_length (t : Trunk) (n : Notice)
    (h : t.general.length ≤ Config.generalSize) :
    (t.joinGeneral n).general.length ≤ Config.generalSize := by
  unfold Trunk.joinGeneral
  split
  · simpa using h
  · split
    · rename_i h2; simpa using h2
    · exact h

/-- A notice leaves everything of the trunk but its two queues and the flag. -/
theorem Trunk.join_other (t : Trunk) (n : Notice) :
    t.join n = { t with
      urgent := (t.join n).urgent, general := (t.join n).general,
      overflow := (t.join n).overflow } := by
  unfold Trunk.join
  split
  · rcases t.joinUrgent_cases n with ⟨_, h⟩ | ⟨_, h⟩ <;> rw [h]
  · rw [t.joinGeneral_other n]

/-! ### The field setpoint queue (R158) -/

/-- The nodes of the queue after a setpoint joins: as before, or with its node at the tail. -/
theorem Trunk.queueSetpoint_nodes (t : Trunk) (e : SetpointEntry) :
    (t.queueSetpoint e).setpoints.map SetpointEntry.node =
      if t.setpoints.any (·.node == e.node) then t.setpoints.map SetpointEntry.node
      else t.setpoints.map SetpointEntry.node ++ [e.node] := by
  unfold Trunk.queueSetpoint
  split
  · simp only [List.map_map]
    apply List.map_congr_left
    intro q _
    simp only [Function.comp]
    split <;> rfl
  · simp

/-- A setpoint changes the setpoint queue only. -/
theorem Trunk.queueSetpoint_other (t : Trunk) (e : SetpointEntry) :
    t.queueSetpoint e = { t with setpoints := (t.queueSetpoint e).setpoints } := by
  unfold Trunk.queueSetpoint
  split <;> rfl

/-! ### The transmitters (R159, R163) -/

/-- A busy cab transmitter chooses nothing. -/
theorem Trunk.cabArbiter_busy (t : Trunk) (c : CabSend) (h : t.cabSending = some c) :
    t.cabArbiter = t := by
  unfold Trunk.cabArbiter
  rw [h]

/-- A busy field transmitter chooses nothing. -/
theorem Trunk.fieldArbiter_busy (t : Trunk) (f : Frame) (h : t.fieldSending = some f) :
    t.fieldArbiter = t := by
  unfold Trunk.fieldArbiter
  rw [h]

/-- The choice of the field transmitter leaves the cab port's side of the trunk alone. -/
theorem Trunk.fieldArbiter_other (t : Trunk) :
    t.fieldArbiter = { t with
      setpoints := t.fieldArbiter.setpoints, fieldFifo := t.fieldArbiter.fieldFifo,
      fieldSeq := t.fieldArbiter.fieldSeq, fieldSending := t.fieldArbiter.fieldSending } := by
  unfold Trunk.fieldArbiter
  split <;> rfl

/-- The choice of the cab transmitter leaves the field port's side of the trunk alone. -/
theorem Trunk.cabArbiter_other (t : Trunk) :
    t.cabArbiter = { t with
      replySlot := t.cabArbiter.replySlot, urgent := t.cabArbiter.urgent,
      cabFifo := t.cabArbiter.cabFifo, general := t.cabArbiter.general,
      noticeSeq := t.cabArbiter.noticeSeq, cabSending := t.cabArbiter.cabSending } := by
  unfold Trunk.cabArbiter
  split <;> rfl

/-! ### serve (R160, R165) -/

/-- Everything a request can come to: lost, refused in STARTING, or executed. -/
theorem serve_cases (early : Bool) (tag : Byte) (h : ReqHeader) (f : State → State × Reply) :
    (s.slotOccupied = true ∧ serve early tag h f s = s) ∨
    (s.slotOccupied = false ∧ s.mode = .starting ∧ early = false ∧
      serve early tag h f s = s.placeReply h tag (.plain .refusedState)) ∨
    (s.slotOccupied = false ∧ (s.mode = .starting → early = true) ∧
      serve early tag h f s = (f s).1.placeReply h tag (f s).2) := by
  unfold serve
  by_cases h1 : s.slotOccupied = true
  · simp [h1]
  · by_cases h2 : s.mode = .starting ∧ early = false
    · simp [h1, h2]
    · refine .inr (.inr ⟨by simpa using h1, ?_, by simp [h1, h2]⟩)
      intro hm
      by_contra he
      exact h2 ⟨hm, by simpa using he⟩

end Sys2Proof.Machine
end

