-- ==== Sys2Proof/Laws/Blocks.lean ====
section
/-! SUPPORT. For each operation of the blocks the blocks of the state it may change, once. The simp lemma
of an operation strips it from a claim that an event keeps every block but those named. -/

namespace Sys2Proof.Machine

/-! ### Composition -/

@[simp] theorem keepsAllBut_refl (l : List Block) (s : State) : keepsAllBut l s s := by
  intro b _
  cases b <;> rfl

theorem keepsAllBut_mono {k l : List Block} {s t : State} (h : keepsAllBut k s t) (hk : k ⊆ l) :
    keepsAllBut l s t := fun b hb => h b fun hm => hb (hk hm)

theorem keepsAllBut_symm {l : List Block} {s t : State} (h : keepsAllBut l s t) :
    keepsAllBut l t s := by
  intro b hb
  have := h b hb
  cases b <;> exact Eq.symm this

theorem keepsAllBut_trans {l : List Block} {s t u : State} (h : keepsAllBut l s t)
    (h' : keepsAllBut l t u) : keepsAllBut l s u := by
  intro b hb
  have h1 := h b hb
  have h2 := h' b hb
  cases b <;> exact Eq.trans h2 h1

/-- A later state may be replaced by one that differs only in blocks a claim leaves open. -/
theorem keepsAllBut_congr {k l : List Block} {s t t' : State} (h : keepsAllBut k t t') (hk : k ⊆ l) :
    keepsAllBut l s t' ↔ keepsAllBut l s t :=
  ⟨fun h1 => keepsAllBut_trans h1 (keepsAllBut_symm (keepsAllBut_mono h hk)),
   fun h1 => keepsAllBut_trans h1 (keepsAllBut_mono h hk)⟩

/-! ### Updates of one block -/


theorem onTables_keeps (f : Tables → Tables) (s : State) :
    keepsAllBut [.tables] s (s.onTables f) := by
  intro blk hb
  cases blk <;> first | rfl | simp at hb

@[simp] theorem keepsAllBut_onTables (f : Tables → Tables) (l : List Block) (s t : State) (hl : [.tables] ⊆ l) :
    keepsAllBut l s (t.onTables f) ↔ keepsAllBut l s t := keepsAllBut_congr (onTables_keeps f t) hl

theorem onInput_keeps (i : InputId) (f : Input → Input) (s : State) :
    keepsAllBut [.inputs] s (s.onInput i f) := by
  intro blk hb
  cases blk <;> first | rfl | simp at hb

@[simp] theorem keepsAllBut_onInput (i : InputId) (f : Input → Input) (l : List Block) (s t : State) (hl : [.inputs] ⊆ l) :
    keepsAllBut l s (t.onInput i f) ↔ keepsAllBut l s t := keepsAllBut_congr (onInput_keeps i f t) hl

theorem onCirc_keeps (f : Circulation → Circulation) (s : State) :
    keepsAllBut [.circ] s (s.onCirc f) := by
  intro blk hb
  cases blk <;> first | rfl | simp at hb

@[simp] theorem keepsAllBut_onCirc (f : Circulation → Circulation) (l : List Block) (s t : State) (hl : [.circ] ⊆ l) :
    keepsAllBut l s (t.onCirc f) ↔ keepsAllBut l s t := keepsAllBut_congr (onCirc_keeps f t) hl

theorem onPumpCtl_keeps (f : PumpControl → PumpControl) (s : State) :
    keepsAllBut [.pumpCtl] s (s.onPumpCtl f) := by
  intro blk hb
  cases blk <;> first | rfl | simp at hb

@[simp] theorem keepsAllBut_onPumpCtl (f : PumpControl → PumpControl) (l : List Block) (s t : State) (hl : [.pumpCtl] ⊆ l) :
    keepsAllBut l s (t.onPumpCtl f) ↔ keepsAllBut l s t := keepsAllBut_congr (onPumpCtl_keeps f t) hl

theorem onPump_keeps (p : PumpId) (f : Pump → Pump) (s : State) :
    keepsAllBut [.pumpCtl] s (s.onPump p f) := by
  intro blk hb
  cases blk <;> first | rfl | simp at hb

@[simp] theorem keepsAllBut_onPump (p : PumpId) (f : Pump → Pump) (l : List Block) (s t : State) (hl : [.pumpCtl] ⊆ l) :
    keepsAllBut l s (t.onPump p f) ↔ keepsAllBut l s t := keepsAllBut_congr (onPump_keeps p f t) hl

theorem onTracker_keeps (f : Tracker → Tracker) (s : State) :
    keepsAllBut [.tracker] s (s.onTracker f) := by
  intro blk hb
  cases blk <;> first | rfl | simp at hb

@[simp] theorem keepsAllBut_onTracker (f : Tracker → Tracker) (l : List Block) (s t : State) (hl : [.tracker] ⊆ l) :
    keepsAllBut l s (t.onTracker f) ↔ keepsAllBut l s t := keepsAllBut_congr (onTracker_keeps f t) hl

theorem onDepth_keeps (f : Depth → Depth) (s : State) :
    keepsAllBut [.depth] s (s.onDepth f) := by
  intro blk hb
  cases blk <;> first | rfl | simp at hb

@[simp] theorem keepsAllBut_onDepth (f : Depth → Depth) (l : List Block) (s t : State) (hl : [.depth] ⊆ l) :
    keepsAllBut l s (t.onDepth f) ↔ keepsAllBut l s t := keepsAllBut_congr (onDepth_keeps f t) hl

theorem onRecorder_keeps (f : Recorder → Recorder) (s : State) :
    keepsAllBut [.recorder] s (s.onRecorder f) := by
  intro blk hb
  cases blk <;> first | rfl | simp at hb

@[simp] theorem keepsAllBut_onRecorder (f : Recorder → Recorder) (l : List Block) (s t : State) (hl : [.recorder] ⊆ l) :
    keepsAllBut l s (t.onRecorder f) ↔ keepsAllBut l s t := keepsAllBut_congr (onRecorder_keeps f t) hl

theorem onBank_keeps (b : Fin 2) (f : Bank → Bank) (s : State) :
    keepsAllBut [.banks] s (s.onBank b f) := by
  intro blk hb
  cases blk <;> first | rfl | simp at hb

@[simp] theorem keepsAllBut_onBank (b : Fin 2) (f : Bank → Bank) (l : List Block) (s t : State) (hl : [.banks] ⊆ l) :
    keepsAllBut l s (t.onBank b f) ↔ keepsAllBut l s t := keepsAllBut_congr (onBank_keeps b f t) hl

theorem onBilling_keeps (f : Billing → Billing) (s : State) :
    keepsAllBut [.billing] s (s.onBilling f) := by
  intro blk hb
  cases blk <;> first | rfl | simp at hb

@[simp] theorem keepsAllBut_onBilling (f : Billing → Billing) (l : List Block) (s t : State) (hl : [.billing] ⊆ l) :
    keepsAllBut l s (t.onBilling f) ↔ keepsAllBut l s t := keepsAllBut_congr (onBilling_keeps f t) hl

theorem onJob_keeps (f : Job → Job) (s : State) :
    keepsAllBut [.billing] s (s.onJob f) := by
  intro blk hb
  cases blk <;> first | rfl | simp at hb

@[simp] theorem keepsAllBut_onJob (f : Job → Job) (l : List Block) (s t : State) (hl : [.billing] ⊆ l) :
    keepsAllBut l s (t.onJob f) ↔ keepsAllBut l s t := keepsAllBut_congr (onJob_keeps f t) hl

theorem onTrunk_keeps (f : Trunk → Trunk) (s : State) :
    keepsAllBut [.trunk] s (s.onTrunk f) := by
  intro blk hb
  cases blk <;> first | rfl | simp at hb

@[simp] theorem keepsAllBut_onTrunk (f : Trunk → Trunk) (l : List Block) (s t : State) (hl : [.trunk] ⊆ l) :
    keepsAllBut l s (t.onTrunk f) ↔ keepsAllBut l s t := keepsAllBut_congr (onTrunk_keeps f t) hl

theorem onMgmt_keeps (f : Management → Management) (s : State) :
    keepsAllBut [.mgmt] s (s.onMgmt f) := by
  intro blk hb
  cases blk <;> first | rfl | simp at hb

@[simp] theorem keepsAllBut_onMgmt (f : Management → Management) (l : List Block) (s t : State) (hl : [.mgmt] ⊆ l) :
    keepsAllBut l s (t.onMgmt f) ↔ keepsAllBut l s t := keepsAllBut_congr (onMgmt_keeps f t) hl

theorem raise_keeps (k : NoticeKind) (n : Nat) (v : Int) (s : State) :
    keepsAllBut [.trunk] s (s.raise k n v) := by
  intro blk hb
  cases blk <;> first | rfl | simp at hb

@[simp] theorem keepsAllBut_raise (k : NoticeKind) (n : Nat) (v : Int) (l : List Block) (s t : State) (hl : [.trunk] ⊆ l) :
    keepsAllBut l s (t.raise k n v) ↔ keepsAllBut l s t := keepsAllBut_congr (raise_keeps k n v t) hl

theorem offerCab_keeps (f : Frame) (s : State) :
    keepsAllBut [.trunk] s (s.offerCab f) := by
  intro blk hb
  cases blk <;> first | rfl | simp at hb

@[simp] theorem keepsAllBut_offerCab (f : Frame) (l : List Block) (s t : State) (hl : [.trunk] ⊆ l) :
    keepsAllBut l s (t.offerCab f) ↔ keepsAllBut l s t := keepsAllBut_congr (offerCab_keeps f t) hl

theorem offerField_keeps (f : Frame) (s : State) :
    keepsAllBut [.trunk] s (s.offerField f) := by
  intro blk hb
  cases blk <;> first | rfl | simp at hb

@[simp] theorem keepsAllBut_offerField (f : Frame) (l : List Block) (s t : State) (hl : [.trunk] ⊆ l) :
    keepsAllBut l s (t.offerField f) ↔ keepsAllBut l s t := keepsAllBut_congr (offerField_keeps f t) hl

theorem countFieldError_keeps (s : State) :
    keepsAllBut [.trunk] s (s.countFieldError) := by
  intro blk hb
  cases blk <;> first | rfl | simp at hb

@[simp] theorem keepsAllBut_countFieldError (l : List Block) (s t : State) (hl : [.trunk] ⊆ l) :
    keepsAllBut l s (t.countFieldError) ↔ keepsAllBut l s t := keepsAllBut_congr (countFieldError_keeps t) hl

theorem countCabError_keeps (s : State) :
    keepsAllBut [.trunk] s (s.countCabError) := by
  intro blk hb
  cases blk <;> first | rfl | simp at hb

@[simp] theorem keepsAllBut_countCabError (l : List Block) (s t : State) (hl : [.trunk] ⊆ l) :
    keepsAllBut l s (t.countCabError) ↔ keepsAllBut l s t := keepsAllBut_congr (countCabError_keeps t) hl

theorem queueSetpoint_keeps (p : PumpId) (v : Nat) (s : State) :
    keepsAllBut [.pumpCtl, .trunk] s (s.queueSetpoint p v) := by
  intro blk hb
  cases blk <;> first | rfl | simp at hb

@[simp] theorem keepsAllBut_queueSetpoint (p : PumpId) (v : Nat) (l : List Block) (s t : State) (hl : [.pumpCtl, .trunk] ⊆ l) :
    keepsAllBut l s (t.queueSetpoint p v) ↔ keepsAllBut l s t := keepsAllBut_congr (queueSetpoint_keeps p v t) hl

theorem headZero_keeps (p : PumpId) (s : State) :
    keepsAllBut [.pumpCtl, .trunk] s (s.headZero p) := by
  intro blk hb
  cases blk <;> first | rfl | simp at hb

@[simp] theorem keepsAllBut_headZero (p : PumpId) (l : List Block) (s t : State) (hl : [.pumpCtl, .trunk] ⊆ l) :
    keepsAllBut l s (t.headZero p) ↔ keepsAllBut l s t := keepsAllBut_congr (headZero_keeps p t) hl

theorem placeReply_keeps (h : ReqHeader) (tag : Byte) (r : Reply) (s : State) :
    keepsAllBut [.trunk] s (s.placeReply h tag r) := by
  intro blk hb
  cases blk <;> first | rfl | simp at hb

@[simp] theorem keepsAllBut_placeReply (h : ReqHeader) (tag : Byte) (r : Reply) (l : List Block) (s t : State) (hl : [.trunk] ⊆ l) :
    keepsAllBut l s (t.placeReply h tag r) ↔ keepsAllBut l s t := keepsAllBut_congr (placeReply_keeps h tag r t) hl

theorem reach_keeps (d : Nat) (s : State) :
    keepsAllBut [.mgmt] s (s.reach d) := by
  intro blk hb
  cases blk <;> first | rfl | simp at hb

@[simp] theorem keepsAllBut_reach (d : Nat) (l : List Block) (s t : State) (hl : [.mgmt] ⊆ l) :
    keepsAllBut l s (t.reach d) ↔ keepsAllBut l s t := keepsAllBut_congr (reach_keeps d t) hl

theorem transmit_keeps (s : State) :
    keepsAllBut [.trunk] s (transmit s) := by
  intro blk hb
  cases blk <;> first | rfl | simp at hb

@[simp] theorem keepsAllBut_transmit (l : List Block) (s t : State) (hl : [.trunk] ⊆ l) :
    keepsAllBut l s (transmit t) ↔ keepsAllBut l s t := keepsAllBut_congr (transmit_keeps t) hl

/-! ### Banks -/

theorem testFillMark_keeps (b : Fin 2) (s : State) :
    keepsAllBut [.banks, .trunk] s (testFillMark b s) := by
  unfold testFillMark
  repeat' split
  all_goals simp

@[simp] theorem keepsAllBut_testFillMark (b : Fin 2) (l : List Block) (s t : State) (hl : [.banks, .trunk] ⊆ l) :
    keepsAllBut l s (testFillMark b t) ↔ keepsAllBut l s t := keepsAllBut_congr (testFillMark_keeps b t) hl

theorem testBankFull_keeps (b : Fin 2) (s : State) :
    keepsAllBut [.banks, .trunk] s (testBankFull b s) := by
  unfold testBankFull
  dsimp only
  repeat' split
  all_goals simp

@[simp] theorem keepsAllBut_testBankFull (b : Fin 2) (l : List Block) (s t : State) (hl : [.banks, .trunk] ⊆ l) :
    keepsAllBut l s (testBankFull b t) ↔ keepsAllBut l s t := keepsAllBut_congr (testBankFull_keeps b t) hl

theorem appendRecord_keeps (r : ClosedRecord) (s : State) :
    keepsAllBut [.banks, .trunk] s (appendRecord r s) := by
  unfold appendRecord
  repeat' split
  all_goals simp

@[simp] theorem keepsAllBut_appendRecord (r : ClosedRecord) (l : List Block) (s t : State) (hl : [.banks, .trunk] ⊆ l) :
    keepsAllBut l s (appendRecord r t) ↔ keepsAllBut l s t := keepsAllBut_congr (appendRecord_keeps r t) hl

theorem sealBanks_keeps (s : State) :
    keepsAllBut [.banks, .trunk] s (sealBanks s) := by
  unfold sealBanks
  repeat' split
  all_goals simp

@[simp] theorem keepsAllBut_sealBanks (l : List Block) (s t : State) (hl : [.banks, .trunk] ⊆ l) :
    keepsAllBut l s (sealBanks t) ↔ keepsAllBut l s t := keepsAllBut_congr (sealBanks_keeps t) hl

/-! ### Billing -/

theorem billFootage_keeps (top bottom : Int) (cls : Nat) (s : State) :
    keepsAllBut [.billing] s (billFootage top bottom cls s) := by
  unfold billFootage
  repeat' split
  all_goals simp

@[simp] theorem keepsAllBut_billFootage (top bottom : Int) (cls : Nat) (l : List Block) (s t : State) (hl : [.billing] ⊆ l) :
    keepsAllBut l s (billFootage top bottom cls t) ↔ keepsAllBut l s t := keepsAllBut_congr (billFootage_keeps top bottom cls t) hl

theorem addLostMud_keeps (volume : Nat) (s : State) :
    keepsAllBut [.billing] s (addLostMud volume s) := by
  unfold addLostMud
  repeat' split
  all_goals simp

@[simp] theorem keepsAllBut_addLostMud (volume : Nat) (l : List Block) (s t : State) (hl : [.billing] ⊆ l) :
    keepsAllBut l s (addLostMud volume t) ↔ keepsAllBut l s t := keepsAllBut_congr (addLostMud_keeps volume t) hl

theorem issueTicket_keeps (final : Bool) (s : State) :
    keepsAllBut [.billing, .banks, .trunk] s (issueTicket final s) := by
  unfold issueTicket
  dsimp only
  split <;> simp

@[simp] theorem keepsAllBut_issueTicket (final : Bool) (l : List Block) (s t : State) (hl : [.billing, .banks, .trunk] ⊆ l) :
    keepsAllBut l s (issueTicket final t) ↔ keepsAllBut l s t := keepsAllBut_congr (issueTicket_keeps final t) hl

theorem ticketDue_keeps (final : Bool) (s : State) :
    keepsAllBut [.billing, .banks, .trunk] s (ticketDue final s) := by
  unfold ticketDue
  repeat' split
  all_goals simp

@[simp] theorem keepsAllBut_ticketDue (final : Bool) (l : List Block) (s t : State) (hl : [.billing, .banks, .trunk] ⊆ l) :
    keepsAllBut l s (ticketDue final t) ↔ keepsAllBut l s t := keepsAllBut_congr (ticketDue_keeps final t) hl

theorem finalTicketIfDue_keeps (s : State) :
    keepsAllBut [.billing, .banks, .trunk] s (finalTicketIfDue s) := by
  unfold finalTicketIfDue
  repeat' split
  all_goals simp

@[simp] theorem keepsAllBut_finalTicketIfDue (l : List Block) (s t : State) (hl : [.billing, .banks, .trunk] ⊆ l) :
    keepsAllBut l s (finalTicketIfDue t) ↔ keepsAllBut l s t := keepsAllBut_congr (finalTicketIfDue_keeps t) hl

theorem takeCadence_keeps (s : State) :
    keepsAllBut [.billing, .banks, .trunk] s (takeCadence s) := by
  unfold takeCadence
  dsimp only
  repeat' split
  all_goals simp

@[simp] theorem keepsAllBut_takeCadence (l : List Block) (s t : State) (hl : [.billing, .banks, .trunk] ⊆ l) :
    keepsAllBut l s (takeCadence t) ↔ keepsAllBut l s t := keepsAllBut_congr (takeCadence_keeps t) hl

theorem meterSecond_keeps (s : State) :
    keepsAllBut [.billing, .banks, .trunk] s (meterSecond s) := by
  unfold meterSecond
  dsimp only
  split <;> simp

@[simp] theorem keepsAllBut_meterSecond (l : List Block) (s t : State) (hl : [.billing, .banks, .trunk] ⊆ l) :
    keepsAllBut l s (meterSecond t) ↔ keepsAllBut l s t := keepsAllBut_congr (meterSecond_keeps t) hl

/-! ### Strata -/

theorem openInterval_keeps (top : Int) (corrected : Bool) (s : State) :
    keepsAllBut [.recorder] s (openInterval top corrected s) := by
  unfold openInterval
  simp

@[simp] theorem keepsAllBut_openInterval (top : Int) (corrected : Bool) (l : List Block) (s t : State) (hl : [.recorder] ⊆ l) :
    keepsAllBut l s (openInterval top corrected t) ↔ keepsAllBut l s t := keepsAllBut_congr (openInterval_keeps top corrected t) hl

theorem onInterval_keeps (f : Interval → Interval) (s : State) :
    keepsAllBut [.recorder] s (s.onInterval f) := by
  unfold State.onInterval
  simp

@[simp] theorem keepsAllBut_onInterval (f : Interval → Interval) (l : List Block) (s t : State) (hl : [.recorder] ⊆ l) :
    keepsAllBut l s (t.onInterval f) ↔ keepsAllBut l s t := keepsAllBut_congr (onInterval_keeps f t) hl

theorem markDepthUncertain_keeps (s : State) :
    keepsAllBut [.recorder] s (markDepthUncertain s) := by
  unfold markDepthUncertain
  simp

@[simp] theorem keepsAllBut_markDepthUncertain (l : List Block) (s t : State) (hl : [.recorder] ⊆ l) :
    keepsAllBut l s (markDepthUncertain t) ↔ keepsAllBut l s t := keepsAllBut_congr (markDepthUncertain_keeps t) hl

theorem handUncertain_keeps (changed : Bool) (s : State) :
    keepsAllBut [.recorder] s (handUncertain changed s) := by
  unfold handUncertain
  repeat' split
  all_goals simp

@[simp] theorem keepsAllBut_handUncertain (changed : Bool) (l : List Block) (s t : State) (hl : [.recorder] ⊆ l) :
    keepsAllBut l s (handUncertain changed t) ↔ keepsAllBut l s t := keepsAllBut_congr (handUncertain_keeps changed t) hl

theorem handOnRecord_keeps (r : ClosedRecord) (s : State) :
    keepsAllBut [.recorder, .banks, .billing, .trunk] s (handOnRecord r s) := by
  unfold handOnRecord
  dsimp only
  split <;> simp

@[simp] theorem keepsAllBut_handOnRecord (r : ClosedRecord) (l : List Block) (s t : State) (hl : [.recorder, .banks, .billing, .trunk] ⊆ l) :
    keepsAllBut l s (handOnRecord r t) ↔ keepsAllBut l s t := keepsAllBut_congr (handOnRecord_keeps r t) hl

theorem closeInterval_keeps (bottom : Int) (added : FlagSet) (s : State) :
    keepsAllBut [.recorder, .banks, .billing, .trunk] s (closeInterval bottom added s) := by
  unfold closeInterval
  repeat' split
  all_goals simp

@[simp] theorem keepsAllBut_closeInterval (bottom : Int) (added : FlagSet) (l : List Block) (s t : State) (hl : [.recorder, .banks, .billing, .trunk] ⊆ l) :
    keepsAllBut l s (closeInterval bottom added t) ↔ keepsAllBut l s t := keepsAllBut_congr (closeInterval_keeps bottom added t) hl

theorem discardInterval_keeps (s : State) :
    keepsAllBut [.recorder] s (discardInterval s) := by
  unfold discardInterval
  simp

@[simp] theorem keepsAllBut_discardInterval (l : List Block) (s t : State) (hl : [.recorder] ⊆ l) :
    keepsAllBut l s (discardInterval t) ↔ keepsAllBut l s t := keepsAllBut_congr (discardInterval_keeps t) hl

theorem testOverdue_keeps (s : State) :
    keepsAllBut [.recorder, .trunk] s (testOverdue s) := by
  unfold testOverdue
  repeat' split
  all_goals simp

@[simp] theorem keepsAllBut_testOverdue (l : List Block) (s t : State) (hl : [.recorder, .trunk] ⊆ l) :
    keepsAllBut l s (testOverdue t) ↔ keepsAllBut l s t := keepsAllBut_congr (testOverdue_keeps t) hl

theorem testExtension_keeps (s : State) :
    keepsAllBut [.recorder, .trunk] s (testExtension s) := by
  unfold testExtension
  repeat' split
  all_goals simp

@[simp] theorem keepsAllBut_testExtension (l : List Block) (s t : State) (hl : [.recorder, .trunk] ⊆ l) :
    keepsAllBut l s (testExtension t) ↔ keepsAllBut l s t := keepsAllBut_congr (testExtension_keeps t) hl

theorem reopen_keeps (top : Int) (corrected : Bool) (s : State) :
    keepsAllBut [.recorder, .trunk] s (reopen top corrected s) := by
  unfold reopen
  simp

@[simp] theorem keepsAllBut_reopen (top : Int) (corrected : Bool) (l : List Block) (s t : State) (hl : [.recorder, .trunk] ⊆ l) :
    keepsAllBut l s (reopen top corrected t) ↔ keepsAllBut l s t := keepsAllBut_congr (reopen_keeps top corrected t) hl

theorem boundaryLoop_keeps (n : Nat) (s : State) :
    keepsAllBut [.recorder, .banks, .billing, .trunk] s (boundaryLoop n s) := by
  induction n generalizing s with
  | zero => simp [boundaryLoop]
  | succ n ih =>
    unfold boundaryLoop
    split
    · exact (keepsAllBut_congr (ih _) (List.Subset.refl _)).2 (by simp)
    · simp

@[simp] theorem keepsAllBut_boundaryLoop (n : Nat) (l : List Block) (s t : State) (hl : [.recorder, .banks, .billing, .trunk] ⊆ l) :
    keepsAllBut l s (boundaryLoop n t) ↔ keepsAllBut l s t := keepsAllBut_congr (boundaryLoop_keeps n t) hl

theorem boundaryCheck_keeps (s : State) :
    keepsAllBut [.recorder, .banks, .billing, .trunk] s (boundaryCheck s) := by
  unfold boundaryCheck
  simp

@[simp] theorem keepsAllBut_boundaryCheck (l : List Block) (s t : State) (hl : [.recorder, .banks, .billing, .trunk] ⊆ l) :
    keepsAllBut l s (boundaryCheck t) ↔ keepsAllBut l s t := keepsAllBut_congr (boundaryCheck_keeps t) hl

theorem onHoleAdvance_keeps (s : State) :
    keepsAllBut [.recorder, .banks, .billing, .trunk] s (onHoleAdvance s) := by
  unfold onHoleAdvance
  simp

@[simp] theorem keepsAllBut_onHoleAdvance (l : List Block) (s t : State) (hl : [.recorder, .banks, .billing, .trunk] ⊆ l) :
    keepsAllBut l s (onHoleAdvance t) ↔ keepsAllBut l s t := keepsAllBut_congr (onHoleAdvance_keeps t) hl

theorem onCorrection_keeps (oldD newD : Int) (s : State) :
    keepsAllBut [.recorder, .banks, .billing, .trunk] s (onCorrection oldD newD s) := by
  unfold onCorrection
  dsimp only
  repeat' split
  all_goals simp

@[simp] theorem keepsAllBut_onCorrection (oldD newD : Int) (l : List Block) (s t : State) (hl : [.recorder, .banks, .billing, .trunk] ⊆ l) :
    keepsAllBut l s (onCorrection oldD newD t) ↔ keepsAllBut l s t := keepsAllBut_congr (onCorrection_keeps oldD newD t) hl

theorem recorderJobOpen_keeps (s : State) :
    keepsAllBut [.recorder] s (recorderJobOpen s) := by
  unfold recorderJobOpen
  simp

@[simp] theorem keepsAllBut_recorderJobOpen (l : List Block) (s t : State) (hl : [.recorder] ⊆ l) :
    keepsAllBut l s (recorderJobOpen t) ↔ keepsAllBut l s t := keepsAllBut_congr (recorderJobOpen_keeps t) hl

theorem closeForJob_keeps (added : FlagSet) (s : State) :
    keepsAllBut [.recorder, .banks, .billing, .trunk] s (closeForJob added s) := by
  unfold closeForJob
  dsimp only
  repeat' split
  all_goals simp

@[simp] theorem keepsAllBut_closeForJob (added : FlagSet) (l : List Block) (s t : State) (hl : [.recorder, .banks, .billing, .trunk] ⊆ l) :
    keepsAllBut l s (closeForJob added t) ↔ keepsAllBut l s t := keepsAllBut_congr (closeForJob_keeps added t) hl

theorem recorderJobClose_keeps (s : State) :
    keepsAllBut [.recorder, .banks, .billing, .trunk] s (recorderJobClose s) := by
  unfold recorderJobClose
  repeat' split
  all_goals simp

@[simp] theorem keepsAllBut_recorderJobClose (l : List Block) (s t : State) (hl : [.recorder, .banks, .billing, .trunk] ⊆ l) :
    keepsAllBut l s (recorderJobClose t) ↔ keepsAllBut l s t := keepsAllBut_congr (recorderJobClose_keeps t) hl

theorem endExtension_keeps (s : State) :
    keepsAllBut [.recorder, .banks, .billing, .trunk] s (endExtension s) := by
  unfold endExtension
  dsimp only
  repeat' split
  all_goals simp

@[simp] theorem keepsAllBut_endExtension (l : List Block) (s t : State) (hl : [.recorder, .banks, .billing, .trunk] ⊆ l) :
    keepsAllBut l s (endExtension t) ↔ keepsAllBut l s t := keepsAllBut_congr (endExtension_keeps t) hl

theorem releaseFullBank_keeps (b : Fin 2) (s : State) :
    keepsAllBut [.recorder, .banks, .billing, .trunk] s (releaseFullBank b s) := by
  unfold releaseFullBank
  dsimp only
  repeat' split
  all_goals simp

@[simp] theorem keepsAllBut_releaseFullBank (b : Fin 2) (l : List Block) (s t : State) (hl : [.recorder, .banks, .billing, .trunk] ⊆ l) :
    keepsAllBut l s (releaseFullBank b t) ↔ keepsAllBut l s t := keepsAllBut_congr (releaseFullBank_keeps b t) hl

theorem drillingSecond_keeps (s : State) :
    keepsAllBut [.recorder] s (drillingSecond s) := by
  unfold drillingSecond
  dsimp only
  split <;> simp

@[simp] theorem keepsAllBut_drillingSecond (l : List Block) (s t : State) (hl : [.recorder] ⊆ l) :
    keepsAllBut l s (drillingSecond t) ↔ keepsAllBut l s t := keepsAllBut_congr (drillingSecond_keeps t) hl

theorem onPeriodResult_keeps (loss gain : Nat) (held : Bool) (state : CircState) (s : State) :
    keepsAllBut [.recorder] s (onPeriodResult loss gain held state s) := by
  unfold onPeriodResult
  simp

@[simp] theorem keepsAllBut_onPeriodResult (loss gain : Nat) (held : Bool) (state : CircState) (l : List Block) (s t : State) (hl : [.recorder] ⊆ l) :
    keepsAllBut l s (onPeriodResult loss gain held state t) ↔ keepsAllBut l s t := keepsAllBut_congr (onPeriodResult_keeps loss gain held state t) hl

/-! ### Depth and activity -/

theorem advanceHole_keeps (s : State) :
    keepsAllBut [.depth, .recorder, .banks, .billing, .trunk] s (advanceHole s) := by
  unfold advanceHole
  repeat' split
  all_goals simp

@[simp] theorem keepsAllBut_advanceHole (l : List Block) (s t : State) (hl : [.depth, .recorder, .banks, .billing, .trunk] ⊆ l) :
    keepsAllBut l s (advanceHole t) ↔ keepsAllBut l s t := keepsAllBut_congr (advanceHole_keeps t) hl

theorem takeActivity_keeps (a : Activity) (s : State) :
    keepsAllBut [.depth, .trunk] s (takeActivity a s) := by
  unfold takeActivity
  dsimp only
  split <;> simp

@[simp] theorem keepsAllBut_takeActivity (a : Activity) (l : List Block) (s t : State) (hl : [.depth, .trunk] ⊆ l) :
    keepsAllBut l s (takeActivity a t) ↔ keepsAllBut l s t := keepsAllBut_congr (takeActivity_keeps a t) hl

theorem onIndicated_keeps (old new : Activity) (s : State) :
    keepsAllBut [.depth, .trunk] s (onIndicated old new s) := by
  unfold onIndicated
  repeat' split
  all_goals simp

@[simp] theorem keepsAllBut_onIndicated (old new : Activity) (l : List Block) (s t : State) (hl : [.depth, .trunk] ⊆ l) :
    keepsAllBut l s (onIndicated old new t) ↔ keepsAllBut l s t := keepsAllBut_congr (onIndicated_keeps old new t) hl

theorem reindicate_keeps (s : State) :
    keepsAllBut [.depth, .trunk] s (reindicate s) := by
  unfold reindicate
  repeat' split
  all_goals simp

@[simp] theorem keepsAllBut_reindicate (l : List Block) (s t : State) (hl : [.depth, .trunk] ⊆ l) :
    keepsAllBut l s (reindicate t) ↔ keepsAllBut l s t := keepsAllBut_congr (reindicate_keeps t) hl

theorem react_keeps (s : State) :
    keepsAllBut [.depth, .recorder, .banks, .billing, .trunk] s (react s) := by
  unfold react
  simp

@[simp] theorem keepsAllBut_react (l : List Block) (s t : State) (hl : [.depth, .recorder, .banks, .billing, .trunk] ⊆ l) :
    keepsAllBut l s (react t) ↔ keepsAllBut l s t := keepsAllBut_congr (react_keeps t) hl

theorem setEncoderUncertain_keeps (s : State) :
    keepsAllBut [.depth, .recorder] s (setEncoderUncertain s) := by
  unfold setEncoderUncertain
  simp

@[simp] theorem keepsAllBut_setEncoderUncertain (l : List Block) (s t : State) (hl : [.depth, .recorder] ⊆ l) :
    keepsAllBut l s (setEncoderUncertain t) ↔ keepsAllBut l s t := keepsAllBut_congr (setEncoderUncertain_keeps t) hl

theorem setAnchorUncertain_keeps (s : State) :
    keepsAllBut [.depth, .recorder] s (setAnchorUncertain s) := by
  unfold setAnchorUncertain
  simp

@[simp] theorem keepsAllBut_setAnchorUncertain (l : List Block) (s t : State) (hl : [.depth, .recorder] ⊆ l) :
    keepsAllBut l s (setAnchorUncertain t) ↔ keepsAllBut l s t := keepsAllBut_congr (setAnchorUncertain_keeps t) hl

theorem applyReport_keeps (n mm residue : Int) (s : State) :
    keepsAllBut [.depth] s (applyReport n mm residue s) := by
  unfold applyReport
  simp

@[simp] theorem keepsAllBut_applyReport (n mm residue : Int) (l : List Block) (s t : State) (hl : [.depth] ⊆ l) :
    keepsAllBut l s (applyReport n mm residue t) ↔ keepsAllBut l s t := keepsAllBut_congr (applyReport_keeps n mm residue t) hl

theorem rejectReport_keeps (n mm : Int) (s : State) :
    keepsAllBut [.depth, .recorder, .trunk] s (rejectReport n mm s) := by
  unfold rejectReport
  simp

@[simp] theorem keepsAllBut_rejectReport (n mm : Int) (l : List Block) (s t : State) (hl : [.depth, .recorder, .trunk] ⊆ l) :
    keepsAllBut l s (rejectReport n mm t) ↔ keepsAllBut l s t := keepsAllBut_congr (rejectReport_keeps n mm t) hl

theorem onHeadReport_keeps (n : Int) (s : State) :
    keepsAllBut [.depth, .recorder, .trunk] s (onHeadReport n s) := by
  unfold onHeadReport
  dsimp only
  split <;> simp

@[simp] theorem keepsAllBut_onHeadReport (n : Int) (l : List Block) (s t : State) (hl : [.depth, .recorder, .trunk] ⊆ l) :
    keepsAllBut l s (onHeadReport n t) ↔ keepsAllBut l s t := keepsAllBut_congr (onHeadReport_keeps n t) hl

theorem onHeadResync_keeps (n : Int) (s : State) :
    keepsAllBut [.depth] s (onHeadResync n s) := by
  unfold onHeadResync
  simp

@[simp] theorem keepsAllBut_onHeadResync (n : Int) (l : List Block) (s t : State) (hl : [.depth] ⊆ l) :
    keepsAllBut l s (onHeadResync n t) ↔ keepsAllBut l s t := keepsAllBut_congr (onHeadResync_keeps n t) hl

theorem onSlips_keeps (readsOne : Bool) (s : State) :
    keepsAllBut [.depth, .recorder] s (onSlips readsOne s) := by
  unfold onSlips
  dsimp only
  repeat' split
  all_goals simp

@[simp] theorem keepsAllBut_onSlips (readsOne : Bool) (l : List Block) (s t : State) (hl : [.depth, .recorder] ⊆ l) :
    keepsAllBut l s (onSlips readsOne t) ↔ keepsAllBut l s t := keepsAllBut_congr (onSlips_keeps readsOne t) hl

theorem handLength_keeps (s : State) :
    keepsAllBut [.depth, .recorder, .banks, .billing, .trunk] s (handLength s) := by
  unfold handLength
  dsimp only
  repeat' split
  all_goals simp

@[simp] theorem keepsAllBut_handLength (l : List Block) (s t : State) (hl : [.depth, .recorder, .banks, .billing, .trunk] ⊆ l) :
    keepsAllBut l s (handLength t) ↔ keepsAllBut l s t := keepsAllBut_congr (handLength_keeps t) hl

theorem onHookload_keeps (s : State) :
    keepsAllBut [.depth] s (onHookload s) := by
  unfold onHookload
  repeat' split
  all_goals simp

@[simp] theorem keepsAllBut_onHookload (l : List Block) (s t : State) (hl : [.depth] ⊆ l) :
    keepsAllBut l s (onHookload t) ↔ keepsAllBut l s t := keepsAllBut_congr (onHookload_keeps t) hl

theorem correctDepth_keeps (newD : Int) (s : State) :
    keepsAllBut [.depth, .recorder, .banks, .billing, .trunk] s (correctDepth newD s) := by
  unfold correctDepth
  dsimp only
  simp

@[simp] theorem keepsAllBut_correctDepth (newD : Int) (l : List Block) (s t : State) (hl : [.depth, .recorder, .banks, .billing, .trunk] ⊆ l) :
    keepsAllBut l s (correctDepth newD t) ↔ keepsAllBut l s t := keepsAllBut_congr (correctDepth_keeps newD t) hl

theorem endMovementPeriod_keeps (s : State) :
    keepsAllBut [.depth] s (endMovementPeriod s) := by
  unfold endMovementPeriod
  simp

@[simp] theorem keepsAllBut_endMovementPeriod (l : List Block) (s t : State) (hl : [.depth] ⊆ l) :
    keepsAllBut l s (endMovementPeriod t) ↔ keepsAllBut l s t := keepsAllBut_congr (endMovementPeriod_keeps t) hl

theorem restartMovementPeriod_keeps (s : State) :
    keepsAllBut [.depth] s (restartMovementPeriod s) := by
  unfold restartMovementPeriod
  simp

@[simp] theorem keepsAllBut_restartMovementPeriod (l : List Block) (s t : State) (hl : [.depth] ⊆ l) :
    keepsAllBut l s (restartMovementPeriod t) ↔ keepsAllBut l s t := keepsAllBut_congr (restartMovementPeriod_keeps t) hl

theorem startMovementPeriod_keeps (s : State) :
    keepsAllBut [.depth] s (startMovementPeriod s) := by
  unfold startMovementPeriod
  simp

@[simp] theorem keepsAllBut_startMovementPeriod (l : List Block) (s t : State) (hl : [.depth] ⊆ l) :
    keepsAllBut l s (startMovementPeriod t) ↔ keepsAllBut l s t := keepsAllBut_congr (startMovementPeriod_keeps t) hl

/-! ### Pumps -/

/-- Work done for both pumps keeps what the work for each keeps. -/
theorem eachPump_keeps {k : List Block} {f : PumpId → State → State}
    (hf : ∀ p t, keepsAllBut k t (f p t)) (s : State) : keepsAllBut k s (eachPump f s) :=
  keepsAllBut_trans (hf 0 s) (hf 1 _)

theorem changeRates_keeps (p : PumpId) (requested commanded : Nat) (s : State) :
    keepsAllBut [.pumpCtl, .trunk] s (changeRates p requested commanded s) := by
  unfold changeRates
  dsimp only
  split <;> simp

@[simp] theorem keepsAllBut_changeRates (p : PumpId) (requested commanded : Nat) (l : List Block) (s t : State) (hl : [.pumpCtl, .trunk] ⊆ l) :
    keepsAllBut l s (changeRates p requested commanded t) ↔ keepsAllBut l s t := keepsAllBut_congr (changeRates_keeps p requested commanded t) hl

theorem forceZero_keeps (p : PumpId) (s : State) :
    keepsAllBut [.pumpCtl, .trunk] s (forceZero p s) := by
  unfold forceZero
  dsimp only
  repeat' split
  all_goals simp

@[simp] theorem keepsAllBut_forceZero (p : PumpId) (l : List Block) (s t : State) (hl : [.pumpCtl, .trunk] ⊆ l) :
    keepsAllBut l s (forceZero p t) ↔ keepsAllBut l s t := keepsAllBut_congr (forceZero_keeps p t) hl

theorem forceHead_keeps (p : PumpId) (s : State) :
    keepsAllBut [.pumpCtl, .trunk] s (forceHead p s) := by
  unfold forceHead
  repeat' split
  all_goals simp

@[simp] theorem keepsAllBut_forceHead (p : PumpId) (l : List Block) (s t : State) (hl : [.pumpCtl, .trunk] ⊆ l) :
    keepsAllBut l s (forceHead p t) ↔ keepsAllBut l s t := keepsAllBut_congr (forceHead_keeps p t) hl

theorem forceBothHead_keeps (s : State) :
    keepsAllBut [.pumpCtl, .trunk] s (forceBothHead s) := by
  unfold forceBothHead
  simp

@[simp] theorem keepsAllBut_forceBothHead (l : List Block) (s t : State) (hl : [.pumpCtl, .trunk] ⊆ l) :
    keepsAllBut l s (forceBothHead t) ↔ keepsAllBut l s t := keepsAllBut_congr (forceBothHead_keeps t) hl

theorem onPressure_keeps (v : Int) (s : State) :
    keepsAllBut [.pumpCtl, .trunk] s (onPressure v s) := by
  unfold onPressure
  dsimp only
  repeat' split
  all_goals simp

@[simp] theorem keepsAllBut_onPressure (v : Int) (l : List Block) (s t : State) (hl : [.pumpCtl, .trunk] ⊆ l) :
    keepsAllBut l s (onPressure v t) ↔ keepsAllBut l s t := keepsAllBut_congr (onPressure_keeps v t) hl

theorem stopAfterReset_keeps (p : PumpId) (s : State) :
    keepsAllBut [.pumpCtl] s (stopAfterReset p s) := by
  unfold stopAfterReset
  repeat' split
  all_goals simp

@[simp] theorem keepsAllBut_stopAfterReset (p : PumpId) (l : List Block) (s t : State) (hl : [.pumpCtl] ⊆ l) :
    keepsAllBut l s (stopAfterReset p t) ↔ keepsAllBut l s t := keepsAllBut_congr (stopAfterReset_keeps p t) hl

theorem resetTrip_keeps (s : State) :
    keepsAllBut [.pumpCtl] s (resetTrip s) := by
  unfold resetTrip
  dsimp only
  repeat' split
  · simp
  · exact (keepsAllBut_congr (eachPump_keeps stopAfterReset_keeps _) (List.Subset.refl _)).2 (by simp)
  · simp

@[simp] theorem keepsAllBut_resetTrip (l : List Block) (s t : State) (hl : [.pumpCtl] ⊆ l) :
    keepsAllBut l s (resetTrip t) ↔ keepsAllBut l s t := keepsAllBut_congr (resetTrip_keeps t) hl

theorem endOpenString_keeps (p : PumpId) (s : State) :
    keepsAllBut [.pumpCtl] s (endOpenString p s) := by
  unfold endOpenString
  dsimp only
  repeat' split
  all_goals simp

@[simp] theorem keepsAllBut_endOpenString (p : PumpId) (l : List Block) (s t : State) (hl : [.pumpCtl] ⊆ l) :
    keepsAllBut l s (endOpenString p t) ↔ keepsAllBut l s t := keepsAllBut_congr (endOpenString_keeps p t) hl

theorem handConn_keeps (old : Conn) (s : State) :
    keepsAllBut [.pumpCtl, .trunk] s (handConn old s) := by
  unfold handConn
  repeat' split
  · simp
  · exact keepsAllBut_mono (eachPump_keeps endOpenString_keeps s) (by simp)
  · exact eachPump_keeps forceZero_keeps s
  · simp

@[simp] theorem keepsAllBut_handConn (old : Conn) (l : List Block) (s t : State) (hl : [.pumpCtl, .trunk] ⊆ l) :
    keepsAllBut l s (handConn old t) ↔ keepsAllBut l s t := keepsAllBut_congr (handConn_keeps old t) hl

theorem acceptSetpoint_keeps (p : PumpId) (v : Nat) (s : State) :
    keepsAllBut [.pumpCtl, .trunk] s (acceptSetpoint p v s) := by
  unfold acceptSetpoint
  dsimp only
  simp

@[simp] theorem keepsAllBut_acceptSetpoint (p : PumpId) (v : Nat) (l : List Block) (s t : State) (hl : [.pumpCtl, .trunk] ⊆ l) :
    keepsAllBut l s (acceptSetpoint p v t) ↔ keepsAllBut l s t := keepsAllBut_congr (acceptSetpoint_keeps p v t) hl

theorem refuseSetpoint_keeps (p : PumpId) (r : Reason) (s : State) :
    keepsAllBut [.trunk] s (refuseSetpoint p r s) := by
  unfold refuseSetpoint
  simp

@[simp] theorem keepsAllBut_refuseSetpoint (p : PumpId) (r : Reason) (l : List Block) (s t : State) (hl : [.trunk] ⊆ l) :
    keepsAllBut l s (refuseSetpoint p r t) ↔ keepsAllBut l s t := keepsAllBut_congr (refuseSetpoint_keeps p r t) hl

theorem judgeSetpoint_keeps (p : PumpId) (v : Nat) (s : State) :
    keepsAllBut [.pumpCtl, .trunk] s (judgeSetpoint p v s) := by
  unfold judgeSetpoint
  repeat' split
  all_goals simp

@[simp] theorem keepsAllBut_judgeSetpoint (p : PumpId) (v : Nat) (l : List Block) (s t : State) (hl : [.pumpCtl, .trunk] ⊆ l) :
    keepsAllBut l s (judgeSetpoint p v t) ↔ keepsAllBut l s t := keepsAllBut_congr (judgeSetpoint_keeps p v t) hl

theorem countBadSetpoint_keeps (s : State) :
    keepsAllBut [.pumpCtl] s (countBadSetpoint s) := by
  unfold countBadSetpoint
  simp

@[simp] theorem keepsAllBut_countBadSetpoint (l : List Block) (s t : State) (hl : [.pumpCtl] ⊆ l) :
    keepsAllBut l s (countBadSetpoint t) ↔ keepsAllBut l s t := keepsAllBut_congr (countBadSetpoint_keeps t) hl

theorem pumpSetpointFrame_keeps (p : PumpId) (f : Frame) (s : State) :
    keepsAllBut [.pumpCtl, .trunk] s (pumpSetpointFrame p f s) := by
  unfold pumpSetpointFrame
  repeat' split
  all_goals simp

@[simp] theorem keepsAllBut_pumpSetpointFrame (p : PumpId) (f : Frame) (l : List Block) (s t : State) (hl : [.pumpCtl, .trunk] ⊆ l) :
    keepsAllBut l s (pumpSetpointFrame p f t) ↔ keepsAllBut l s t := keepsAllBut_congr (pumpSetpointFrame_keeps p f t) hl

theorem rampPump_keeps (p : PumpId) (s : State) :
    keepsAllBut [.pumpCtl, .trunk] s (rampPump p s) := by
  unfold rampPump
  dsimp only
  repeat' split
  all_goals simp

@[simp] theorem keepsAllBut_rampPump (p : PumpId) (l : List Block) (s t : State) (hl : [.pumpCtl, .trunk] ⊆ l) :
    keepsAllBut l s (rampPump p t) ↔ keepsAllBut l s t := keepsAllBut_congr (rampPump_keeps p t) hl

theorem judgePeriod_keeps (p : PumpId) (strokes : Nat) (s : State) :
    keepsAllBut [.pumpCtl, .trunk] s (judgePeriod p strokes s) := by
  unfold judgePeriod
  dsimp only
  repeat' split
  all_goals simp

@[simp] theorem keepsAllBut_judgePeriod (p : PumpId) (strokes : Nat) (l : List Block) (s t : State) (hl : [.pumpCtl, .trunk] ⊆ l) :
    keepsAllBut l s (judgePeriod p strokes t) ↔ keepsAllBut l s t := keepsAllBut_congr (judgePeriod_keeps p strokes t) hl

theorem adoptRecord_keeps (p : PumpId) (s : State) :
    keepsAllBut [.pumpCtl] s (adoptRecord p s) := by
  unfold adoptRecord
  dsimp only
  split <;> simp

@[simp] theorem keepsAllBut_adoptRecord (p : PumpId) (l : List Block) (s t : State) (hl : [.pumpCtl] ⊆ l) :
    keepsAllBut l s (adoptRecord p t) ↔ keepsAllBut l s t := keepsAllBut_congr (adoptRecord_keeps p t) hl

theorem enterSupervised_keeps (s : State) :
    keepsAllBut [.pumpCtl, .trunk] s (enterSupervised s) := by
  have adopted : keepsAllBut [.pumpCtl, .trunk] s (eachPump adoptRecord s) :=
    keepsAllBut_mono (eachPump_keeps adoptRecord_keeps s) (by simp)
  unfold enterSupervised
  dsimp only
  repeat' split
  · simpa using adopted
  · exact keepsAllBut_trans adopted (eachPump_keeps forceZero_keeps _)
  · exact adopted

@[simp] theorem keepsAllBut_enterSupervised (l : List Block) (s t : State) (hl : [.pumpCtl, .trunk] ⊆ l) :
    keepsAllBut l s (enterSupervised t) ↔ keepsAllBut l s t := keepsAllBut_congr (enterSupervised_keeps t) hl

theorem enterMonitor_keeps (s : State) :
    keepsAllBut [.pumpCtl] s (enterMonitor s) := by
  unfold enterMonitor
  exact eachPump_keeps (by simp) s

@[simp] theorem keepsAllBut_enterMonitor (l : List Block) (s t : State) (hl : [.pumpCtl] ⊆ l) :
    keepsAllBut l s (enterMonitor t) ↔ keepsAllBut l s t := keepsAllBut_congr (enterMonitor_keeps t) hl

theorem enterStandby_keeps (s : State) :
    keepsAllBut [.pumpCtl, .trunk] s (enterStandby s) := by
  unfold enterStandby
  refine eachPump_keeps ?_ s
  intro p t
  dsimp only
  split <;> simp

@[simp] theorem keepsAllBut_enterStandby (l : List Block) (s t : State) (hl : [.pumpCtl, .trunk] ⊆ l) :
    keepsAllBut l s (enterStandby t) ↔ keepsAllBut l s t := keepsAllBut_congr (enterStandby_keeps t) hl

theorem leaveStandby_keeps (s : State) :
    keepsAllBut [.pumpCtl] s (leaveStandby s) := by
  unfold leaveStandby
  refine eachPump_keeps ?_ s
  intro p t
  dsimp only
  repeat' split
  all_goals simp

@[simp] theorem keepsAllBut_leaveStandby (l : List Block) (s t : State) (hl : [.pumpCtl] ⊆ l) :
    keepsAllBut l s (leaveStandby t) ↔ keepsAllBut l s t := keepsAllBut_congr (leaveStandby_keeps t) hl

theorem pumpNodeChanged_keeps (p : PumpId) (oldNode : Nat) (s : State) :
    keepsAllBut [.pumpCtl, .trunk] s (pumpNodeChanged p oldNode s) := by
  unfold pumpNodeChanged
  repeat' split
  all_goals simp

@[simp] theorem keepsAllBut_pumpNodeChanged (p : PumpId) (oldNode : Nat) (l : List Block) (s t : State) (hl : [.pumpCtl, .trunk] ⊆ l) :
    keepsAllBut l s (pumpNodeChanged p oldNode t) ↔ keepsAllBut l s t := keepsAllBut_congr (pumpNodeChanged_keeps p oldNode t) hl

theorem pumpMaxLowered_keeps (p : PumpId) (s : State) :
    keepsAllBut [.pumpCtl, .trunk] s (pumpMaxLowered p s) := by
  unfold pumpMaxLowered
  dsimp only
  split <;> simp

@[simp] theorem keepsAllBut_pumpMaxLowered (p : PumpId) (l : List Block) (s t : State) (hl : [.pumpCtl, .trunk] ⊆ l) :
    keepsAllBut l s (pumpMaxLowered p t) ↔ keepsAllBut l s t := keepsAllBut_congr (pumpMaxLowered_keeps p t) hl

theorem onPumpRow_keeps (p : PumpId) (oldNode : Nat) (s : State) :
    keepsAllBut [.pumpCtl, .trunk] s (onPumpRow p oldNode s) := by
  unfold onPumpRow
  repeat' split
  all_goals simp

@[simp] theorem keepsAllBut_onPumpRow (p : PumpId) (oldNode : Nat) (l : List Block) (s t : State) (hl : [.pumpCtl, .trunk] ⊆ l) :
    keepsAllBut l s (onPumpRow p oldNode t) ↔ keepsAllBut l s t := keepsAllBut_congr (onPumpRow_keeps p oldNode t) hl

/-! ### The string tracker -/

theorem setTallyUncertain_keeps (s : State) :
    keepsAllBut [.tracker, .recorder] s (setTallyUncertain s) := by
  unfold setTallyUncertain
  simp

@[simp] theorem keepsAllBut_setTallyUncertain (l : List Block) (s t : State) (hl : [.tracker, .recorder] ⊆ l) :
    keepsAllBut l s (setTallyUncertain t) ↔ keepsAllBut l s t := keepsAllBut_congr (setTallyUncertain_keeps t) hl

theorem handMove_keeps (old : Conn) (s : State) :
    keepsAllBut [.pumpCtl, .depth, .recorder, .banks, .billing, .trunk] s (handMove old s) := by
  unfold handMove
  simp

@[simp] theorem keepsAllBut_handMove (old : Conn) (l : List Block) (s t : State) (hl : [.pumpCtl, .depth, .recorder, .banks, .billing, .trunk] ⊆ l) :
    keepsAllBut l s (handMove old t) ↔ keepsAllBut l s t := keepsAllBut_congr (handMove_keeps old t) hl

theorem countHandlerError_keeps (s : State) :
    keepsAllBut [.tracker] s (countHandlerError s) := by
  unfold countHandlerError
  simp

@[simp] theorem keepsAllBut_countHandlerError (l : List Block) (s t : State) (hl : [.tracker] ⊆ l) :
    keepsAllBut l s (countHandlerError t) ↔ keepsAllBut l s t := keepsAllBut_congr (countHandlerError_keeps t) hl

theorem recordCommand_keeps (code : HandlerCode) (slot : Nat) (s : State) :
    keepsAllBut [.tracker] s (recordCommand code slot s) := by
  unfold recordCommand
  repeat' split
  all_goals simp

@[simp] theorem keepsAllBut_recordCommand (code : HandlerCode) (slot : Nat) (l : List Block) (s t : State) (hl : [.tracker] ⊆ l) :
    keepsAllBut l s (recordCommand code slot t) ↔ keepsAllBut l s t := keepsAllBut_congr (recordCommand_keeps code slot t) hl

theorem clearCommand_keeps (s : State) :
    keepsAllBut [.tracker] s (clearCommand s) := by
  unfold clearCommand
  simp

@[simp] theorem keepsAllBut_clearCommand (l : List Block) (s t : State) (hl : [.tracker] ⊆ l) :
    keepsAllBut l s (clearCommand t) ↔ keepsAllBut l s t := keepsAllBut_congr (clearCommand_keeps t) hl

theorem refuseCommand_keeps (code : HandlerCode) (r : Reason) (s : State) :
    keepsAllBut [.trunk] s (refuseCommand code r s) := by
  unfold refuseCommand
  simp

@[simp] theorem keepsAllBut_refuseCommand (code : HandlerCode) (r : Reason) (l : List Block) (s t : State) (hl : [.trunk] ⊆ l) :
    keepsAllBut l s (refuseCommand code r t) ↔ keepsAllBut l s t := keepsAllBut_congr (refuseCommand_keeps code r t) hl

theorem judgedCommand_keeps (code : HandlerCode) (slot : Nat) (f : Frame) (s : State) :
    keepsAllBut [.tracker, .trunk] s (judgedCommand code slot f s) := by
  unfold judgedCommand
  repeat' split
  all_goals simp

@[simp] theorem keepsAllBut_judgedCommand (code : HandlerCode) (slot : Nat) (f : Frame) (l : List Block) (s t : State) (hl : [.tracker, .trunk] ⊆ l) :
    keepsAllBut l s (judgedCommand code slot f t) ↔ keepsAllBut l s t := keepsAllBut_congr (judgedCommand_keeps code slot f t) hl

theorem handlerFrame_keeps (f : Frame) (s : State) :
    keepsAllBut [.tracker, .trunk] s (handlerFrame f s) := by
  unfold handlerFrame
  repeat' split
  all_goals simp

@[simp] theorem keepsAllBut_handlerFrame (f : Frame) (l : List Block) (s t : State) (hl : [.tracker, .trunk] ⊆ l) :
    keepsAllBut l s (handlerFrame f t) ↔ keepsAllBut l s t := keepsAllBut_congr (handlerFrame_keeps f t) hl

theorem mismatch_keeps (code : HandlerCode) (cause : Nat) (s : State) :
    keepsAllBut [.tracker, .pumpCtl, .recorder, .trunk] s (mismatch code cause s) := by
  unfold mismatch
  dsimp only
  simp

@[simp] theorem keepsAllBut_mismatch (code : HandlerCode) (cause : Nat) (l : List Block) (s t : State) (hl : [.tracker, .pumpCtl, .recorder, .trunk] ⊆ l) :
    keepsAllBut l s (mismatch code cause t) ↔ keepsAllBut l s t := keepsAllBut_congr (mismatch_keeps code cause t) hl

theorem completeCommand_keeps (r : Report) (s : State) :
    keepsAllBut [.tracker, .pumpCtl, .depth, .recorder, .banks, .billing, .trunk] s (completeCommand r s) := by
  unfold completeCommand
  dsimp only
  split <;> simp

@[simp] theorem keepsAllBut_completeCommand (r : Report) (l : List Block) (s t : State) (hl : [.tracker, .pumpCtl, .depth, .recorder, .banks, .billing, .trunk] ⊆ l) :
    keepsAllBut l s (completeCommand r t) ↔ keepsAllBut l s t := keepsAllBut_congr (completeCommand_keeps r t) hl

theorem okReport_keeps (r : Report) (s : State) :
    keepsAllBut [.tracker, .pumpCtl, .depth, .recorder, .banks, .billing, .trunk] s (okReport r s) := by
  unfold okReport
  repeat' split
  all_goals simp

@[simp] theorem keepsAllBut_okReport (r : Report) (l : List Block) (s t : State) (hl : [.tracker, .pumpCtl, .depth, .recorder, .banks, .billing, .trunk] ⊆ l) :
    keepsAllBut l s (okReport r t) ↔ keepsAllBut l s t := keepsAllBut_congr (okReport_keeps r t) hl

theorem failedReport_keeps (r : Report) (s : State) :
    keepsAllBut [.tracker, .trunk] s (failedReport r s) := by
  unfold failedReport
  repeat' split
  all_goals simp

@[simp] theorem keepsAllBut_failedReport (r : Report) (l : List Block) (s t : State) (hl : [.tracker, .trunk] ⊆ l) :
    keepsAllBut l s (failedReport r t) ↔ keepsAllBut l s t := keepsAllBut_congr (failedReport_keeps r t) hl

theorem handlerReport_keeps (payload : List Byte) (s : State) :
    keepsAllBut [.tracker, .pumpCtl, .depth, .recorder, .banks, .billing, .trunk] s (handlerReport payload s) := by
  unfold handlerReport
  repeat' split
  all_goals simp

@[simp] theorem keepsAllBut_handlerReport (payload : List Byte) (l : List Block) (s t : State) (hl : [.tracker, .pumpCtl, .depth, .recorder, .banks, .billing, .trunk] ⊆ l) :
    keepsAllBut l s (handlerReport payload t) ↔ keepsAllBut l s t := keepsAllBut_congr (handlerReport_keeps payload t) hl

theorem handlerExpiry_keeps (p : PendingCommand) (s : State) :
    keepsAllBut [.tracker, .trunk] s (handlerExpiry p s) := by
  unfold handlerExpiry
  simp

@[simp] theorem keepsAllBut_handlerExpiry (p : PendingCommand) (l : List Block) (s t : State) (hl : [.tracker, .trunk] ⊆ l) :
    keepsAllBut l s (handlerExpiry p t) ↔ keepsAllBut l s t := keepsAllBut_congr (handlerExpiry_keeps p t) hl

theorem rotatingSecond_keeps (s : State) :
    keepsAllBut [.tracker] s (rotatingSecond s) := by
  unfold rotatingSecond
  repeat' split
  all_goals simp

@[simp] theorem keepsAllBut_rotatingSecond (l : List Block) (s t : State) (hl : [.tracker] ⊆ l) :
    keepsAllBut l s (rotatingSecond t) ↔ keepsAllBut l s t := keepsAllBut_congr (rotatingSecond_keeps t) hl

/-! ### The circulation monitor -/

theorem collectStrokes_keeps (p : PumpId) (delta : Nat) (s : State) :
    keepsAllBut [.circ, .trunk] s (collectStrokes p delta s) := by
  unfold collectStrokes
  repeat' split
  all_goals simp

@[simp] theorem keepsAllBut_collectStrokes (p : PumpId) (delta : Nat) (l : List Block) (s t : State) (hl : [.circ, .trunk] ⊆ l) :
    keepsAllBut l s (collectStrokes p delta t) ↔ keepsAllBut l s t := keepsAllBut_congr (collectStrokes_keeps p delta t) hl

theorem collectFlow_keeps (s : State) :
    keepsAllBut [.circ] s (collectFlow s) := by
  unfold collectFlow
  repeat' split
  all_goals simp

@[simp] theorem keepsAllBut_collectFlow (l : List Block) (s t : State) (hl : [.circ] ⊆ l) :
    keepsAllBut l s (collectFlow t) ↔ keepsAllBut l s t := keepsAllBut_congr (collectFlow_keeps t) hl

theorem notifyState_keeps (old : CircState) (q : Nat) (s : State) :
    keepsAllBut [.trunk] s (notifyState old q s) := by
  unfold notifyState
  repeat' split
  all_goals simp

@[simp] theorem keepsAllBut_notifyState (old : CircState) (q : Nat) (l : List Block) (s t : State) (hl : [.trunk] ⊆ l) :
    keepsAllBut l s (notifyState old q t) ↔ keepsAllBut l s t := keepsAllBut_congr (notifyState_keeps old q t) hl

theorem flowingTest_keeps (s : State) :
    keepsAllBut [.circ] s (flowingTest s) := by
  unfold flowingTest
  extract_lets n
  split <;> simp

@[simp] theorem keepsAllBut_flowingTest (l : List Block) (s t : State) (hl : [.circ] ⊆ l) :
    keepsAllBut l s (flowingTest t) ↔ keepsAllBut l s t := keepsAllBut_congr (flowingTest_keeps t) hl

theorem returnTest_keeps (s : State) :
    keepsAllBut [.circ] s (returnTest s) := by
  unfold returnTest
  extract_lets n
  split <;> simp

@[simp] theorem keepsAllBut_returnTest (l : List Block) (s t : State) (hl : [.circ] ⊆ l) :
    keepsAllBut l s (returnTest t) ↔ keepsAllBut l s t := keepsAllBut_congr (returnTest_keeps t) hl

theorem clearNoPump_keeps (s : State) :
    keepsAllBut [.circ] s (clearNoPump s) := by
  unfold clearNoPump
  simp

@[simp] theorem keepsAllBut_clearNoPump (l : List Block) (s t : State) (hl : [.circ] ⊆ l) :
    keepsAllBut l s (clearNoPump t) ↔ keepsAllBut l s t := keepsAllBut_congr (clearNoPump_keeps t) hl

theorem noPumpPeriod_keeps (s : State) :
    keepsAllBut [.circ] s (noPumpPeriod s) := by
  unfold noPumpPeriod
  dsimp only
  repeat' split
  all_goals simp

@[simp] theorem keepsAllBut_noPumpPeriod (l : List Block) (s t : State) (hl : [.circ] ⊆ l) :
    keepsAllBut l s (noPumpPeriod t) ↔ keepsAllBut l s t := keepsAllBut_congr (noPumpPeriod_keeps t) hl

theorem joinPeriod_keeps (s : State) :
    keepsAllBut [.circ] s (joinPeriod s) := by
  unfold joinPeriod
  simp

@[simp] theorem keepsAllBut_joinPeriod (l : List Block) (s t : State) (hl : [.circ] ⊆ l) :
    keepsAllBut l s (joinPeriod t) ↔ keepsAllBut l s t := keepsAllBut_congr (joinPeriod_keeps t) hl

theorem setCircState_keeps (st : CircState) (s : State) :
    keepsAllBut [.circ] s (setCircState st s) := by
  unfold setCircState
  simp

@[simp] theorem keepsAllBut_setCircState (st : CircState) (l : List Block) (s t : State) (hl : [.circ] ⊆ l) :
    keepsAllBut l s (setCircState st t) ↔ keepsAllBut l s t := keepsAllBut_congr (setCircState_keeps st t) hl

theorem movePumped_keeps (before : CircState) (r : PeriodRecord) (s : State) :
    keepsAllBut [.circ] s (movePumped before r s) := by
  unfold movePumped
  repeat' split
  all_goals simp

@[simp] theorem keepsAllBut_movePumped (before : CircState) (r : PeriodRecord) (l : List Block) (s t : State) (hl : [.circ] ⊆ l) :
    keepsAllBut l s (movePumped before r t) ↔ keepsAllBut l s t := keepsAllBut_congr (movePumped_keeps before r t) hl

theorem pumpedPeriod_keeps (s : State) :
    keepsAllBut [.circ] s (pumpedPeriod s) := by
  unfold pumpedPeriod
  simp

@[simp] theorem keepsAllBut_pumpedPeriod (l : List Block) (s t : State) (hl : [.circ] ⊆ l) :
    keepsAllBut l s (pumpedPeriod t) ↔ keepsAllBut l s t := keepsAllBut_congr (pumpedPeriod_keeps t) hl

theorem beginPeriod_keeps (s : State) :
    keepsAllBut [.circ] s (beginPeriod s) := by
  unfold beginPeriod
  simp

@[simp] theorem keepsAllBut_beginPeriod (l : List Block) (s t : State) (hl : [.circ] ⊆ l) :
    keepsAllBut l s (beginPeriod t) ↔ keepsAllBut l s t := keepsAllBut_congr (beginPeriod_keeps t) hl

theorem handPeriodResult_keeps (pumped : Bool) (r : PeriodRecord) (mark : Bool) (s : State) :
    keepsAllBut [.recorder, .billing] s (handPeriodResult pumped r mark s) := by
  unfold handPeriodResult
  dsimp only
  repeat' split
  all_goals simp

@[simp] theorem keepsAllBut_handPeriodResult (pumped : Bool) (r : PeriodRecord) (mark : Bool) (l : List Block) (s t : State) (hl : [.recorder, .billing] ⊆ l) :
    keepsAllBut l s (handPeriodResult pumped r mark t) ↔ keepsAllBut l s t := keepsAllBut_congr (handPeriodResult_keeps pumped r mark t) hl

theorem workPeriod_keeps (s : State) :
    keepsAllBut [.circ, .recorder, .billing, .trunk] s (workPeriod s) := by
  unfold workPeriod
  dsimp only
  split <;> simp

@[simp] theorem keepsAllBut_workPeriod (l : List Block) (s t : State) (hl : [.circ, .recorder, .billing, .trunk] ⊆ l) :
    keepsAllBut l s (workPeriod t) ↔ keepsAllBut l s t := keepsAllBut_congr (workPeriod_keeps t) hl

theorem endPeriod_keeps (s : State) :
    keepsAllBut [.circ, .pumpCtl, .depth, .recorder, .banks, .billing, .trunk] s (endPeriod s) := by
  unfold endPeriod
  dsimp only
  simp

@[simp] theorem keepsAllBut_endPeriod (l : List Block) (s t : State) (hl : [.circ, .pumpCtl, .depth, .recorder, .banks, .billing, .trunk] ⊆ l) :
    keepsAllBut l s (endPeriod t) ↔ keepsAllBut l s t := keepsAllBut_congr (endPeriod_keeps t) hl

theorem stateAfterLoad_keeps (s : State) :
    keepsAllBut [.circ] s (stateAfterLoad s) := by
  unfold stateAfterLoad
  dsimp only
  simp

@[simp] theorem keepsAllBut_stateAfterLoad (l : List Block) (s t : State) (hl : [.circ] ⊆ l) :
    keepsAllBut l s (stateAfterLoad t) ↔ keepsAllBut l s t := keepsAllBut_congr (stateAfterLoad_keeps t) hl

theorem clearByLoad_keeps (dropMean : Bool) (s : State) :
    keepsAllBut [.circ, .depth, .trunk] s (clearByLoad dropMean s) := by
  unfold clearByLoad
  dsimp only
  simp

@[simp] theorem keepsAllBut_clearByLoad (dropMean : Bool) (l : List Block) (s t : State) (hl : [.circ, .depth, .trunk] ⊆ l) :
    keepsAllBut l s (clearByLoad dropMean t) ↔ keepsAllBut l s t := keepsAllBut_congr (clearByLoad_keeps dropMean t) hl

/-! ### Modes -/

theorem setModeTo_keeps (m : Mode) (s : State) :
    keepsAllBut [.mgmt] s (setModeTo m s) := by
  unfold setModeTo
  simp

@[simp] theorem keepsAllBut_setModeTo (m : Mode) (l : List Block) (s t : State) (hl : [.mgmt] ⊆ l) :
    keepsAllBut l s (setModeTo m t) ↔ keepsAllBut l s t := keepsAllBut_congr (setModeTo_keeps m t) hl

theorem wake_keeps (cause : WakeCause) (s : State) :
    keepsAllBut [.pumpCtl, .trunk, .mgmt] s (wake cause s) := by
  unfold wake
  dsimp only
  split <;> simp

@[simp] theorem keepsAllBut_wake (cause : WakeCause) (l : List Block) (s t : State) (hl : [.pumpCtl, .trunk, .mgmt] ⊆ l) :
    keepsAllBut l s (wake cause t) ↔ keepsAllBut l s t := keepsAllBut_congr (wake_keeps cause t) hl

theorem changeMode_keeps (m : Mode) (s : State) :
    keepsAllBut [.pumpCtl, .trunk, .mgmt] s (changeMode m s) := by
  unfold changeMode
  repeat' split
  all_goals simp

@[simp] theorem keepsAllBut_changeMode (m : Mode) (l : List Block) (s t : State) (hl : [.pumpCtl, .trunk, .mgmt] ⊆ l) :
    keepsAllBut l s (changeMode m t) ↔ keepsAllBut l s t := keepsAllBut_congr (changeMode_keeps m t) hl

theorem goStandby_keeps (s : State) :
    keepsAllBut [.pumpCtl, .trunk, .mgmt] s (goStandby s) := by
  unfold goStandby
  simp

@[simp] theorem keepsAllBut_goStandby (l : List Block) (s t : State) (hl : [.pumpCtl, .trunk, .mgmt] ⊆ l) :
    keepsAllBut l s (goStandby t) ↔ keepsAllBut l s t := keepsAllBut_congr (goStandby_keeps t) hl

theorem endStarting_keeps (s : State) :
    keepsAllBut [.circ, .pumpCtl, .depth, .recorder, .banks, .billing, .trunk, .mgmt] s (endStarting s) := by
  unfold endStarting
  dsimp only
  repeat' split
  all_goals simp

@[simp] theorem keepsAllBut_endStarting (l : List Block) (s t : State) (hl : [.circ, .pumpCtl, .depth, .recorder, .banks, .billing, .trunk, .mgmt] ⊆ l) :
    keepsAllBut l s (endStarting t) ↔ keepsAllBut l s t := keepsAllBut_congr (endStarting_keeps t) hl

theorem checkStarting_keeps (s : State) :
    keepsAllBut [.circ, .pumpCtl, .depth, .recorder, .banks, .billing, .trunk, .mgmt] s (checkStarting s) := by
  unfold checkStarting
  repeat' split
  all_goals simp

@[simp] theorem keepsAllBut_checkStarting (l : List Block) (s t : State) (hl : [.circ, .pumpCtl, .depth, .recorder, .banks, .billing, .trunk, .mgmt] ⊆ l) :
    keepsAllBut l s (checkStarting t) ↔ keepsAllBut l s t := keepsAllBut_congr (checkStarting_keeps t) hl

/-! ### The conditioner -/

theorem freshen_keeps (i : InputId) (s : State) :
    keepsAllBut [.inputs] s (freshen i s) := by
  unfold freshen
  simp

@[simp] theorem keepsAllBut_freshen (i : InputId) (l : List Block) (s t : State) (hl : [.inputs] ⊆ l) :
    keepsAllBut l s (freshen i t) ↔ keepsAllBut l s t := keepsAllBut_congr (freshen_keeps i t) hl

theorem takeValue_keeps (i : InputId) (x : Int) (s : State) :
    keepsAllBut [.inputs] s (takeValue i x s) := by
  unfold takeValue
  dsimp only
  simp

@[simp] theorem keepsAllBut_takeValue (i : InputId) (x : Int) (l : List Block) (s t : State) (hl : [.inputs] ⊆ l) :
    keepsAllBut l s (takeValue i x t) ↔ keepsAllBut l s t := keepsAllBut_congr (takeValue_keeps i x t) hl

theorem wakeByRotation_keeps (s : State) :
    keepsAllBut [.pumpCtl, .trunk, .mgmt] s (wakeByRotation s) := by
  unfold wakeByRotation
  repeat' split
  all_goals simp

@[simp] theorem keepsAllBut_wakeByRotation (l : List Block) (s t : State) (hl : [.pumpCtl, .trunk, .mgmt] ⊆ l) :
    keepsAllBut l s (wakeByRotation t) ↔ keepsAllBut l s t := keepsAllBut_congr (wakeByRotation_keeps t) hl

theorem deliver_keeps (i : InputId) (v : Int) (s : State) :
    keepsAllBut [.circ, .pumpCtl, .depth, .recorder, .banks, .billing, .trunk, .mgmt] s (deliver i v s) := by
  unfold deliver
  repeat' split
  all_goals simp

@[simp] theorem keepsAllBut_deliver (i : InputId) (v : Int) (l : List Block) (s t : State) (hl : [.circ, .pumpCtl, .depth, .recorder, .banks, .billing, .trunk, .mgmt] ⊆ l) :
    keepsAllBut l s (deliver i v t) ↔ keepsAllBut l s t := keepsAllBut_congr (deliver_keeps i v t) hl

theorem acceptValue_keeps (i : InputId) (x : Int) (s : State) :
    keepsAllBut [.inputs, .circ, .pumpCtl, .depth, .recorder, .banks, .billing, .trunk, .mgmt] s (acceptValue i x s) := by
  unfold acceptValue
  simp

@[simp] theorem keepsAllBut_acceptValue (i : InputId) (x : Int) (l : List Block) (s t : State) (hl : [.inputs, .circ, .pumpCtl, .depth, .recorder, .banks, .billing, .trunk, .mgmt] ⊆ l) :
    keepsAllBut l s (acceptValue i x t) ↔ keepsAllBut l s t := keepsAllBut_congr (acceptValue_keeps i x t) hl

theorem startRunning_keeps (p : PumpId) (s : State) :
    keepsAllBut [.inputs, .pumpCtl, .trunk, .mgmt] s (startRunning p s) := by
  unfold startRunning
  dsimp only
  split <;> simp

@[simp] theorem keepsAllBut_startRunning (p : PumpId) (l : List Block) (s t : State) (hl : [.inputs, .pumpCtl, .trunk, .mgmt] ⊆ l) :
    keepsAllBut l s (startRunning p t) ↔ keepsAllBut l s t := keepsAllBut_congr (startRunning_keeps p t) hl

theorem acceptStrokes_keeps (p : PumpId) (c : Nat) (s : State) :
    keepsAllBut [.inputs, .circ, .pumpCtl, .depth, .recorder, .banks, .billing, .trunk, .mgmt] s (acceptStrokes p c s) := by
  unfold acceptStrokes
  dsimp only
  repeat' split
  all_goals simp

@[simp] theorem keepsAllBut_acceptStrokes (p : PumpId) (c : Nat) (l : List Block) (s t : State) (hl : [.inputs, .circ, .pumpCtl, .depth, .recorder, .banks, .billing, .trunk, .mgmt] ⊆ l) :
    keepsAllBut l s (acceptStrokes p c t) ↔ keepsAllBut l s t := keepsAllBut_congr (acceptStrokes_keeps p c t) hl

theorem acceptHead_keeps (n : Int) (s : State) :
    keepsAllBut [.inputs, .depth, .recorder, .banks, .billing, .trunk] s (acceptHead n s) := by
  unfold acceptHead
  dsimp only
  split <;> simp

@[simp] theorem keepsAllBut_acceptHead (n : Int) (l : List Block) (s t : State) (hl : [.inputs, .depth, .recorder, .banks, .billing, .trunk] ⊆ l) :
    keepsAllBut l s (acceptHead n t) ↔ keepsAllBut l s t := keepsAllBut_congr (acceptHead_keeps n t) hl

theorem accept_keeps (i : InputId) (x : Int) (s : State) :
    keepsAllBut [.inputs, .circ, .pumpCtl, .depth, .recorder, .banks, .billing, .trunk, .mgmt] s (accept i x s) := by
  unfold accept
  repeat' split
  all_goals simp

@[simp] theorem keepsAllBut_accept (i : InputId) (x : Int) (l : List Block) (s t : State) (hl : [.inputs, .circ, .pumpCtl, .depth, .recorder, .banks, .billing, .trunk, .mgmt] ⊆ l) :
    keepsAllBut l s (accept i x t) ↔ keepsAllBut l s t := keepsAllBut_congr (accept_keeps i x t) hl

theorem countRefused_keeps (i : InputId) (s : State) :
    keepsAllBut [.inputs] s (countRefused i s) := by
  unfold countRefused
  simp

@[simp] theorem keepsAllBut_countRefused (i : InputId) (l : List Block) (s t : State) (hl : [.inputs] ⊆ l) :
    keepsAllBut l s (countRefused i t) ↔ keepsAllBut l s t := keepsAllBut_congr (countRefused_keeps i t) hl

theorem condition_keeps (f : Frame) (s : State) :
    keepsAllBut [.inputs, .circ, .pumpCtl, .depth, .recorder, .banks, .billing, .trunk, .mgmt] s (condition f s) := by
  unfold condition
  repeat' split
  all_goals simp

@[simp] theorem keepsAllBut_condition (f : Frame) (l : List Block) (s t : State) (hl : [.inputs, .circ, .pumpCtl, .depth, .recorder, .banks, .billing, .trunk, .mgmt] ⊆ l) :
    keepsAllBut l s (condition f t) ↔ keepsAllBut l s t := keepsAllBut_congr (condition_keeps f t) hl

theorem goStale_keeps (i : InputId) (s : State) :
    keepsAllBut [.inputs, .depth, .recorder, .banks, .billing, .trunk] s (goStale i s) := by
  unfold goStale
  dsimp only
  split <;> simp

@[simp] theorem keepsAllBut_goStale (i : InputId) (l : List Block) (s t : State) (hl : [.inputs, .depth, .recorder, .banks, .billing, .trunk] ⊆ l) :
    keepsAllBut l s (goStale i t) ↔ keepsAllBut l s t := keepsAllBut_congr (goStale_keeps i t) hl

theorem stopRunning_keeps (p : PumpId) (s : State) :
    keepsAllBut [.inputs, .depth, .recorder, .banks, .billing, .trunk] s (stopRunning p s) := by
  unfold stopRunning
  simp

@[simp] theorem keepsAllBut_stopRunning (p : PumpId) (l : List Block) (s t : State) (hl : [.inputs, .depth, .recorder, .banks, .billing, .trunk] ⊆ l) :
    keepsAllBut l s (stopRunning p t) ↔ keepsAllBut l s t := keepsAllBut_congr (stopRunning_keeps p t) hl

/-! ### The timebase -/

theorem secondTickWork_keeps (s : State) :
    keepsAllBut [.pumpCtl, .tracker, .recorder, .banks, .billing, .trunk, .mgmt] s (secondTickWork s) := by
  unfold secondTickWork
  dsimp only
  have ramps : keepsAllBut [.pumpCtl, .trunk]
      ((s.reach s.mgmt.secondDue).onMgmt fun m =>
        { m with siteTime := m.siteTime + 1, secondDue := m.secondDue + 1000 })
      (eachPump rampPump ((s.reach s.mgmt.secondDue).onMgmt fun m =>
        { m with siteTime := m.siteTime + 1, secondDue := m.secondDue + 1000 })) :=
    eachPump_keeps rampPump_keeps _
  simp only [keepsAllBut_meterSecond, keepsAllBut_drillingSecond, keepsAllBut_rotatingSecond,
    List.cons_subset, List.nil_subset, List.mem_cons, true_or, or_true, and_true, reduceCtorEq, false_or]
  exact (keepsAllBut_congr ramps (by simp)).2 (by simp)

@[simp] theorem keepsAllBut_secondTickWork (l : List Block) (s t : State) (hl : [.pumpCtl, .tracker, .recorder, .banks, .billing, .trunk, .mgmt] ⊆ l) :
    keepsAllBut l s (secondTickWork t) ↔ keepsAllBut l s t := keepsAllBut_congr (secondTickWork_keeps t) hl

theorem expireHandler_keeps (s : State) :
    keepsAllBut [.tracker, .trunk] s (expireHandler s) := by
  unfold expireHandler
  repeat' split
  all_goals simp

@[simp] theorem keepsAllBut_expireHandler (l : List Block) (s t : State) (hl : [.tracker, .trunk] ⊆ l) :
    keepsAllBut l s (expireHandler t) ↔ keepsAllBut l s t := keepsAllBut_congr (expireHandler_keeps t) hl

theorem expireStartHold_keeps (s : State) :
    keepsAllBut [.circ, .pumpCtl, .depth, .recorder, .banks, .billing, .trunk, .mgmt] s (expireStartHold s) := by
  unfold expireStartHold
  simp

@[simp] theorem keepsAllBut_expireStartHold (l : List Block) (s t : State) (hl : [.circ, .pumpCtl, .depth, .recorder, .banks, .billing, .trunk, .mgmt] ⊆ l) :
    keepsAllBut l s (expireStartHold t) ↔ keepsAllBut l s t := keepsAllBut_congr (expireStartHold_keeps t) hl

/-! ### Notices -/

/-- A notice that has just been raised waits in its queue, or found it full and set the overflow flag. -/
theorem State.raise_notified (s t : State) (kind : NoticeKind) (subject : Nat) (value : Int)
    (now : t.now = s.now) : notified s (t.raise kind subject value) kind subject value := by
  unfold notified State.raise State.onTrunk Trunk.join
  rw [← now]
  cases hk : kind.isUrgent
  · simp only [Bool.false_eq_true, if_false, Trunk.joinGeneral]
    split
    · rename_i hany
      obtain ⟨q, hq, hs⟩ := List.any_eq_true.1 hany
      refine .inl ⟨q.src, List.mem_map.2 ⟨q, hq, ?_⟩⟩
      simp [Notice.sameAs] at hs
      simp [Notice.sameAs, hs]
    · split
      · exact .inl ⟨t.trunkAddr, by simp⟩
      · exact .inr ⟨rfl, by simp_all⟩
  · simp only [if_true, Trunk.joinUrgent]
    split
    · exact .inl ⟨t.trunkAddr, by simp⟩
    · exact .inr ⟨rfl, by simp_all⟩
end Sys2Proof.Machine
end

