-- ==== Sys2Proof/WellFormed.lean ====
section
/-! DEFINITION. Which commands the trunk can carry. Operands at wire width need no check; the two cab
SETPOINT rows carry a whole frame, whose payload and destination have bounds. -/

namespace Sys2Proof

/-- A payload a frame can carry: at most 48 bytes (section 10.1). -/
def payloadFits (payload : List Byte) : Bool := payload.length ≤ Config.maxPayload

/-- A node address, 1 to 62 (section 10.1). -/
def isNode (a : Addr) : Bool := 1 ≤ a.val && a.val ≤ 62

/-- A command the trunk or the part itself can produce. -/
def Instr.wellFormed : Instr → Bool
  | .pumpSetpoint dest _ _ _ payload => payloadFits payload && isNode dest
  | .handlerCommand dest _ _ _ payload => payloadFits payload && isNode dest
  | _ => true

end Sys2Proof
end

