-- ==== Sys2Proof/Tests/Slice0.lean ====
section
/-! SUPPORT. Small tests: ill-formed commands, values of the manual's worked examples, and for each
obligation with premises a concrete state and operands that meet them, at the bounds of their clauses. -/

namespace Sys2Proof.Tests

open Sys2Proof Sys2Proof.Machine

/-! ### Small states -/

/-- A row of the Channel Map for a test: node 30 + i, SAMPLE, channel i, raw values as they come. -/
def row (i : Nat) : ChannelRow := { ChannelRow.default with
  enabled := true, node := 30 + i, kind := 1, channel := i, gain := 1024, low := 0, high := 20000
  mandatory := true, aux := 1000 }

/-- Tables with pump nodes 21 and 22, handler node 25, and every input enabled. -/
def rigTables : Tables := { Tables.default with
  channels := #v[row 0, row 1, row 2, row 3, row 4, row 5, row 6, row 7, row 8, row 9, row 10, row 11,
    row 12]
  pumps := #v[{ PumpRow.default with node := 21 }, { PumpRow.default with node := 22 }]
  limits := { Limits.default with handler := 25 } }

/-- The part in a mode, after STARTING, with the tables above. -/
def rig (m : Mode) : State := { State.reset with
  tables := rigTables
  mgmt := { State.reset.mgmt with
    mode := m, checksDone := true, holdDue := none
    remembered := if m = .standby then some .monitor else none } }

/-- An input that is FRESH with a value. -/
def freshAt (v : Int) : Input := { Input.afterReset with
  state := .fresh, staleDue := some 1000, lastRaw := some v, lastConditioned := some v, ring := [v]
  smoothed := some v }

/-- The same part with an input FRESH at a value. -/
def withInput (i : InputId) (v : Int) (s : State) : State :=
  { s with inputs := s.inputs.set i (freshAt v) }

/-- The same part with a tracker change, a job change, a circulation change. -/
def withTracker (f : Tracker → Tracker) (s : State) : State := { s with tracker := f s.tracker }
def withJob (f : Job → Job) (s : State) : State :=
  { s with billing := { s.billing with job := f s.billing.job } }
def withCirc (f : Circulation → Circulation) (s : State) : State := { s with circ := f s.circ }

/-- A request's header. -/
def hdr : ReqHeader := ⟨1, 7⟩

/-- A rod, and a BHA entry. -/
def rod (serial : Nat) : Rod := ⟨serial, .rod, 6096, 0, 3⟩
def bha (serial : Nat) : Rod := ⟨serial, .bha, 1850, 0, 1⟩

/-- An open interval from one depth to another. -/
def openAt (top target : Int) : Interval where
  number := 1
  top := top
  target := target
  seconds := 0
  wobSum := 0
  torqueSum := 0
  rpmSum := 0
  pressureSum := 0
  loss := 0
  gain := 0
  flags := 0
  openTime := 0

/-- A closed record with its number, for banks that hold records. -/
def closedOf (n : Nat) : ClosedRecord := ⟨{ openAt 0 500 with number := n }, 500, none, 15, 0⟩

/-- The rig with an OPEN job, bank A FILLING, an open interval and the hole at a depth. -/
def drilling (top target hole : Int) : State :=
  let s := withJob (fun j => { j with number := 7, customer := 3, state := .opened }) (rig .monitor)
  { s with
    recorder := { s.recorder with interval := some (openAt top target) }
    banks := #v[Bank.startFilling, Bank.free]
    depth := { s.depth with hole := hole } }

/-! ### Ill-formed commands -/

theorem test_payload_of_49_refused :
    (Instr.pumpSetpoint 21 1 0 0 (List.replicate 49 0)).wellFormed = false := by decide

theorem test_handler_payload_of_49_refused :
    (Instr.handlerCommand 25 1 0 0 (List.replicate 49 0)).wellFormed = false := by decide

theorem test_broadcast_destination_refused :
    (Instr.pumpSetpoint 0 1 0 0 [0, 30]).wellFormed = false := by decide

theorem test_destination_63_refused :
    (Instr.handlerCommand 63 1 0 0 [1, 0]).wellFormed = false := by decide

theorem test_commands_of_the_bounds_accepted :
    (Instr.pumpSetpoint 62 1 0 0 (List.replicate 48 0)).wellFormed = true ∧
    (Instr.handlerCommand 1 1 0 0 [1, 0]).wellFormed = true := by decide

/-! ### Frames -/

/-- Section 10.1, R153: the check value of CRC-16 with polynomial 1021H and start FFFFH. -/
theorem test_crc_check_value :
    crc16 [0x31, 0x32, 0x33, 0x34, 0x35, 0x36, 0x37, 0x38, 0x39] = 0x29B1#16 := by decide +kernel

/-- A SET MODE request as the wire has it: destination, source, kind 5, tag 6, sequence, length, mode. -/
theorem test_request_bytes :
    (Instr.requestFrame (.setMode hdr 2) 60).map Frame.body = some [60, 1, 5, 6, 7, 1, 2] := by decide +kernel

theorem test_frame_reads_back :
    parseFrame (Frame.bytes ⟨60, 1, .request, 6, 7, [2]⟩) = some ⟨60, 1, .request, 6, 7, [2]⟩ := by
  decide +kernel

/-- The table gives no row bits, so no word spells a command. -/
theorem test_no_word_spells_a_command : decodeTableWord 8 0 = none := by decide

/-! ### The manual's worked examples -/

/-- Section 1.9.1: HOOKLOAD raw 2900 conditions to 6850 and is clamped to 6000; the mean of the ring. -/
theorem test_hookload_is_clamped :
    let r : ChannelRow := { row 1 with gain := 2560, offset := -400, high := 6000, depth := 4 }
    unlimited r 2900 = 6850 ∧ conditioned r 2900 = 6000 ∧
    smoothedOf (pushRing 4 [1350, 1370] 6000) = some 2906 ∧
    pushRing 4 [1350, 1370, 6000, 1325] 1340 = [1370, 6000, 1325, 1340] := by decide

/-- R6: a negative value truncates toward minus infinity; R7: a mean toward zero. -/
theorem test_negative_values_truncate :
    unlimited { row 1 with gain := 1, low := -10 } (-1) = -1 ∧ smoothedOf [-1, -2] = some (-1) := by
  decide

/-- Section 1.9.3: a stroke count across its wrap. -/
theorem test_strokes_across_a_wrap : strokeDelta 4 65530 = 10 ∧ strokeDelta 65530 65522 = 8 := by
  decide

/-- Section 2.10.1: the evaluations of periods 4 to 6. -/
theorem test_two_periods_to_loss :
    let th : Thresholds := ⟨15000, 40000, 20000, 60000, 10⟩
    evaluate th .filling 20021 355021 335000 = .lossWatch ∧
    evaluate th .lossWatch 33355 355022 321667 = .lossWatch ∧
    evaluate th .lossWatch 46689 355022 308333 = .loss := by decide

/-- Section 2.10.1: the rates 20,021 over 4 periods of 5 s and 46,689. -/
theorem test_loss_rates :
    let s (r : Int) := withCirc (fun c => { c with
      window := List.replicate 4 ⟨0, 0, false, false⟩, sumR := r }) (rig .monitor)
    (s 20021).lossRate = 3604 ∧ (s 46689).lossRate = 8404 := by decide +kernel

/-- Section 3.8.1: at 1 s the ramp rises by 5, and at the warn level the rise is held. -/
theorem test_ramp_rises_and_is_held :
    let s (p : Int) : State := (withInput 4 p (rig .supervised)).onPump 0 fun u =>
      { u with requested := 30, control := .ramping }
    ((rampPump 0 (s 4300)).pump 0).commanded = 5 ∧
    ((rampPump 0 (s 6000)).pump 0).control = .rampHeld := by decide +kernel

/-- Section 3.8.1: a pressure of 7,120 trips the latch and queues the zeros in pump order. -/
theorem test_trip_queues_the_zeros :
    let t := onPressure 7120 (rig .supervised)
    t.pumpCtl.tripLatch = true ∧ t.pumpCtl.tripPressure = some 7120 ∧
    t.trunk.setpoints.map (fun e => (e.node, e.rate)) = [(21, 0), (22, 0)] ∧
    t.trunk.urgent.map Notice.kind = [.pressureTrip] := by decide +kernel

/-- Section 4.10.1: the length of two BHA entries and two rods. -/
theorem test_string_length :
    Tracker.length { Tracker.default with
      stack := [bha 900101, ⟨900102, .bha, 6100, 0, 1⟩, rod 10344, rod 10345] } = 20142 := by decide

/-- Section 5.11.1: the descent of 7 pulses, and the jump that is not applied. -/
theorem test_encoder_reports :
    let s : State := { rig .monitor with
      tables := { rigTables with channels := rigTables.channels.set 0 { row 0 with aux := 1250 } }
      depth := { Depth.default with
        head := 4007, residue := 250, lastCount := 100009, firstReport := false } }
    let t := onHeadReport 100002 s
    let u := onHeadReport 103002 t
    t.depth.head = 4001 ∧ t.depth.residue = 750 ∧ u.depth.head = 4001 ∧ u.depth.residue = 750 ∧
    u.depth.lastCount = 103002 ∧ u.depth.encoderUncertain = true := by decide +kernel

/-- Section 5.11.2: the release at H = 8,110 leaves C = −1,186 and B where it was. -/
theorem test_release_of_the_slips :
    let s : State := { rig .monitor with
      depth := { Depth.default with
        head := 8110, stringLength := 344496, corr := -1200, freeze := some 335200
        hole := 335500, awaitSlips := false } }
    (onSlips false s).depth.corr = -1186 ∧ (onSlips false s).depth.bit = 335200 := by decide +kernel

/-- Section 6.11.1: interval 19 closes with these means and class 4. -/
theorem test_interval_19_closes_with_class_4 :
    let span (k pl ph tl th : Nat) (m v : FlagSet) : ClassRow := ⟨true, k, pl, ph, tl, th, m, v⟩
    let s : State := { rig .monitor with
      tables := { rigTables with
        classes := ((rigTables.classes.set 0 (span 2 0 3 0 65535 0 0)).set 1
          (span 3 0 12 150 400 1#10 1#10)).set 2 (span 4 4 12 150 400 16#10 0) } }
    let i : Interval := { openAt 352000 352500 with
      number := 19, seconds := 600, wobSum := 51240, torqueSum := 1143000, rpmSum := 72420
      pressureSum := 2601300, loss := 3120 }
    (closedRecord i 352500 s).means = some ⟨85, 1905, 120, 4335, 50, 4, 224⟩ ∧
    (closedRecord i 352500 s).cls = 4 := by decide +kernel

/-- R98: the target is the next multiple of the step above the top. -/
theorem test_targets_are_multiples :
    targetOf 500 352000 = 352500 ∧ targetOf 500 352140 = 352500 ∧ targetOf 300 400330 = 400500 := by
  decide

/-- Section 6.11.2: one advance across three boundaries. -/
theorem test_three_boundaries_in_one_advance :
    let s := drilling 0 500 1620
    let t := boundaryCheck { s with
      banks := #v[⟨.filling, (List.range 29).map closedOf, true⟩, Bank.free]
      recorder := { s.recorder with closedCount := 29 } }
    (t.banks[0]).records.length = 32 ∧ (t.banks[0]).state = .full ∧ (t.banks[1]).state = .filling ∧
    t.recorder.interval.map Interval.top = some 1500 ∧ t.recorder.closedCount = 32 ∧
    t.recorder.extending = false := by decide +kernel

/-- Section 8.11.1: closes A to C are billed 82,500,000, 52,800,000 and 30,720,000. -/
theorem test_footage_across_a_band :
    let s := withJob (fun j => { j with state := .opened, billedMark := 399900 }) { rig .monitor with
      tables := { rigTables with tariff := (((rigTables.tariff.set 0 (.band 300 400 1800)).set 1
        (.band 400 600 2400)).set 2 (.surcharge 4 25)).set 3 (.surcharge 2 60) } }
    let a := billFootage 399900 400200 4 s
    let b := billFootage 400200 400420 15 a
    let c := billFootage 400330 400500 2 b
    a.billing.acc.footageCharge = 82500000 ∧ b.billing.acc.footageCharge = 135300000 ∧
    c.billing.acc.footageCharge = 166020000 ∧ c.billing.acc.bands[0] = 100 ∧
    c.billing.acc.bands[1] = 500 ∧ c.job.billedMark = 400500 := by decide +kernel

/-- R143, section 9.8.1: with ticket bit 12 the trigger fires at 4,096 and at 12,288. -/
theorem test_cadence_of_bit_12 :
    cadenceFires 12 4096 = true ∧ cadenceFires 12 8192 = false ∧ cadenceFires 12 12288 = true := by
  decide

/-- Section 9.8.1: the charges of ticket 2 and the carries it leaves. -/
theorem test_second_ticket :
    let s := withJob (fun j => { j with
        number := 7, state := .opened, ticketCounter := 1, billedTotal := 11365 }) { rig .monitor with
      tables := { rigTables with tariff := (((rigTables.tariff.set 0 (.activity 1 9000)).set 1
        (.activity 5 2500)).set 2 (.band 300 400 1800)).set 3 (.mudLost 150000) } }
    let t := issueTicket false { s with billing := { s.billing with
      acc := { s.billing.acc with
        seconds := #v[0, 7900, 0, 0, 0, 292, 0], footageCharge := 225000000, lostMud := 15422 } } }
    (t.billing.tickets.map Ticket.total) = [24515] ∧ t.job.billedTotal = 35880 ∧
    t.billing.acc.carries[5] = 2800 ∧ t.billing.acc.mudCarry = 300000 := by decide +kernel

/-- Section 10.9.1: after F1 the reply, then LOSS, then F2; the coalesced notice waits. -/
theorem test_cab_transmitter_order :
    let f (n : Byte) : Frame := ⟨1, 30, .sample, 0, n, [0, n]⟩
    let n (k : NoticeKind) (v : Int) : Notice := ⟨k, 0, v, ⟨0, true⟩, 60⟩
    let s : State := { rig .monitor with trunk := { Trunk.afterReset with
      cabSending := some ⟨.forward, f 1⟩, replySlot := some ⟨1, 60, .reply, 2, 40, [0]⟩
      urgent := [n .loss 8404], cabFifo := [f 2, f 3]
      general := [n .activity 5, n .circulationState 3] } }
    let a := transmit (endCabSend s)
    let b := transmit (endCabSend a)
    let c := transmit (endCabSend b)
    a.trunk.cabSending.map CabSend.source = some .reply ∧
    b.trunk.cabSending.map CabSend.source = some .urgent ∧
    c.trunk.cabSending = some ⟨.forward, f 2⟩ ∧ c.trunk.general.length = 2 := by decide +kernel

/-- R174: a supply reset keeps the site's work and starts in STARTING with site time unset. -/
theorem test_supply_dip_resets :
    ∃ t, exec .supplyDip (drilling 0 500 400) = .next t ∧ t.mode = .starting ∧
      t.mgmt.timeUnset = true ∧ t.job.state = .opened ∧ t.depth.hole = 400 := by
  exact ⟨_, rfl, by decide⟩

/-- From reset the timer runs, and the queue takes the second tick at 1000 ms. -/
theorem test_idle_step_queues_the_tick :
    step { State.reset with mgmt := { State.reset.mgmt with clock := 1000 } } =
      .next { State.reset with
        mgmt := { State.reset.mgmt with clock := 1000 }, pending := [.secondTick] } := by
  rfl

/-! ### Witnesses: the queue, the trunk and the requests -/

theorem rig_ready : (rig .monitor).ready ∧ (rig .supervised).ready ∧ (rig .standby).ready := by
  unfold State.ready; decide

theorem witness_IdleStepRunsTheTimer :
    State.reset.pending = [] ∧ State.reset.dueExpiries = [] ∧
    State.dueExpiries { State.reset with mgmt := { State.reset.mgmt with clock := 5000 } } =
      [.secondTick, .startHoldTimerExpiry] := ⟨rfl, by decide, by decide⟩

theorem witness_EveryCommandAnswersWithTransmittersAtWork :
    ∃ t, exec .cadenceTrigger State.reset = .next t ∧ t.trunk.cabSending = none ∧
      t.trunk.fieldSending = none := ⟨_, rfl, by decide, by decide⟩

theorem witness_TrunkQueuesStayBounded :
    (rig .monitor).trunk.bounded ∧ ∃ t, step { rig .monitor with pending := [.readPumps hdr 0] } = .next t :=
  ⟨by unfold Trunk.bounded; decide, _, rfl⟩

/-- Two setpoints wait, one for each used pump, with both pumps commanded. -/
theorem witness_TrunkQueuesStayBounded_setpoints :
    let steady (n : Nat) : Pump := { Pump.afterReset with requested := n, commanded := n, control := .steady }
    let s : State := { rig .supervised with
      trunk := { Trunk.afterReset with setpoints := [⟨22, 9, 60⟩, ⟨21, 7, 60⟩] }
      pumpCtl := { PumpControl.afterReset with pumps := #v[steady 7, steady 9] } }
    s.setpointLaw ∧ s.pumpLaw ∧ s.trunk.setpoints.length = 2 := by
  refine ⟨by unfold State.setpointLaw; decide +kernel,
    ⟨by unfold State.startModeLegal; decide, by decide +kernel, by decide +kernel, by decide, ?_⟩, rfl⟩
  intro p _
  fin_cases p <;> exact ⟨by decide, rfl⟩

/-- A SAMPLE no input takes, from node 40. -/
def stray : Frame := ⟨1, 50, .sample, 0, 0, List.replicate 48 0⟩

theorem witness_FrameBytesRoundTrip :
    stray.payload.length ≤ 48 ∧ parseFrame stray.bytes = some stray := by decide +kernel

theorem witness_FramesAreForwardedOrDiscarded_malformed :
    malformed (List.replicate 7 0) ∧ malformed (List.replicate 8 0) ∧
    malformed [0, 0, 1, 0, 0, 49, 0, 0] ∧ malformed [64, 0, 1, 0, 0, 0, 0, 0] := by
  unfold malformed; decide +kernel

theorem witness_FramesAreForwardedOrDiscarded_field :
    let s (n : Nat) := (rig .monitor).onTrunk fun t => { t with cabFifo := List.replicate n stray }
    stray.payload.length ≤ 48 ∧ (s 15).mode ≠ .starting ∧ (s 16).mode ≠ .starting ∧
    (∀ i : InputId, ¬(stray.src.val = rigTables.channels[i].node ∧
      stray.kind.code.toNat = rigTables.channels[i].kind ∧
      stray.tag.toNat = rigTables.channels[i].channel)) ∧
    stray.kind ≠ .status ∧ (s 15).tables = rigTables ∧ (s 16).tables = rigTables ∧
    (s 15).trunk.cabFifo.length < 16 ∧ 16 ≤ (s 16).trunk.cabFifo.length := by decide +kernel

theorem witness_FramesAreForwardedOrDiscarded_cab :
    (63 : Addr).val = 63 ∧ (60 : Addr) = (rig .monitor).trunkAddr ∧ (5 : Addr).val ≠ 63 ∧
    (5 : Addr) ≠ (rig .monitor).trunkAddr ∧ stray.kind ≠ .request ∧ stray.kind ≠ .setpoint ∧
    (List.replicate 7 stray).length < 8 ∧ 8 ≤ (List.replicate 8 stray).length := by decide

/-- A SETPOINT to a node that is neither a used pump nor the handler, at the bounds of the node range. -/
theorem witness_FramesAreForwardedOrDiscarded_setpoint :
    let f (dest : Addr) : Frame := ⟨dest, 1, .setpoint, 0, 0, [0, 30]⟩
    (∀ p : PumpId, (rigTables.pumps[p]).node ≠ 0 → (f 1).dest.val ≠ (rigTables.pumps[p]).node ∧
      (f 62).dest.val ≠ (rigTables.pumps[p]).node) ∧
    (f 1).dest.val ≠ rigTables.limits.handler ∧ (f 62).dest.val ≠ rigTables.limits.handler ∧
    (f 62).dest.val ≠ 63 ∧ (f 62).dest ≠ (rig .monitor).trunkAddr ∧
    (f 1).dest ≠ (rig .monitor).trunkAddr ∧ (rig .monitor).tables = rigTables := by decide +kernel

theorem witness_FramesAreTheirRows :
    (∃ f, Instr.requestFrame (.setTime hdr 0) 63 = some f) ∧
    (∃ f, Instr.requestFrame (.loadRowTariffTable hdr 0 ⟨0, 0, 0, 0⟩) (rig .monitor).trunkAddr = some f) ∧
    (List.replicate 48 (0 : Byte)).length ≤ 48 := ⟨⟨_, rfl⟩, ⟨_, rfl⟩, by decide⟩

/-- A notice waiting with a value. -/
def waiting (k : NoticeKind) (v : Int) : Notice := ⟨k, 0, v, ⟨0, true⟩, 60⟩

theorem witness_SendCompletionsTakeTheSourcesInOrder :
    let s (a : Option Frame) (u : List Notice) (f : List Frame) (g : List Notice) : State :=
      (rig .monitor).onTrunk fun t => { t with replySlot := a, urgent := u, cabFifo := f, general := g }
    (s none [] [] []).mgmt.restartDue = false ∧
    (s (some stray) [waiting .loss 1] [stray] []).trunk.replySlot = some stray ∧
    (s none [waiting .loss 1] [stray] []).trunk.urgent = waiting .loss 1 :: [] ∧
    (s none [] [stray] [waiting .activity 1]).trunk.cabFifo = stray :: [] ∧
    (s none [] [] [waiting .activity 1]).trunk.general = waiting .activity 1 :: [] ∧
    (s none [] [] []).trunk.general = [] := by decide

/-- A restart is due, and the frame whose send ends is not the reply: another frame, or a reply that came
before it while RESTART's own still waits in the slot. -/
theorem witness_SendCompletionsTakeTheSourcesInOrder_restart :
    let s (source : CabSource) (slot : Option Frame) : State := { rig .monitor with
      mgmt := { (rig .monitor).mgmt with restartDue := true }
      trunk := { Trunk.afterReset with
        cabSending := some ⟨source, stray⟩, replySlot := slot, cabFifo := [stray] } }
    (s .forward none).mgmt.restartDue = true ∧ (s .forward none).trunk.replySlot = none ∧
    (∀ c, (s .forward none).trunk.cabSending = some c → c.source ≠ .reply) ∧
    (s .reply (some stray)).trunk.replySlot.isSome = true ∧
    (transmit (endCabSend (s .forward none))).trunk.cabSending = some ⟨.forward, stray⟩ ∧
    (transmit (endCabSend (s .reply (some stray)))).trunk.cabSending = some ⟨.reply, stray⟩ := by
  refine ⟨by decide, by decide, ?_, by decide, by decide +kernel, by decide +kernel⟩
  intro c h
  cases h
  decide

theorem witness_SendCompletionsTakeTheSourcesInOrder_field :
    let s (e : List SetpointEntry) (f : List Frame) : State :=
      (rig .monitor).onTrunk fun t => { t with setpoints := e, fieldFifo := f }
    (s [⟨21, 0, 60⟩] [stray]).trunk.setpoints = ⟨21, 0, 60⟩ :: [] ∧
    (s [] [stray]).trunk.fieldFifo = stray :: [] ∧ (s [] []).trunk.setpoints = [] := by decide

theorem witness_NoticesJoinCoalesceOrAreDropped :
    (waiting .loss 1).kind.isUrgent = true ∧ (waiting .activity 1).kind.isUrgent = false ∧
    (List.replicate 7 (waiting .gain 0)).length < 8 ∧ 8 ≤ (List.replicate 8 (waiting .gain 0)).length ∧
    [waiting .wake 1, waiting .activity 1] = [waiting .wake 1] ++ waiting .activity 1 :: [] ∧
    (∀ r ∈ [waiting .wake 1] ++ [], ¬(r.kind = .activity ∧ r.subject = 0)) ∧
    (List.replicate 23 (waiting .wake 0)).length < 24 ∧
    24 ≤ (List.replicate 24 (waiting .wake 0)).length := by decide

theorem witness_RequestsAnswerOnceOrAreLost :
    (Instr.setMode hdr 2).request = some (hdr, 6, [2]) ∧
    ((rig .monitor).onTrunk fun t => { t with replySlot := some stray }).trunk.replySlot.isSome = true ∧
    ((rig .monitor).onMgmt fun m => { m with restartDue := true }).mgmt.restartDue = true ∧
    State.reset.trunk.replySlot = none ∧ State.reset.mgmt.restartDue = false ∧
    State.reset.mode = .starting ∧ (6 : Byte) ≠ 1 ∧ (6 : Byte) ≠ 2 := by decide

theorem witness_UnknownAndMisshapenRequestsAreRefused :
    let req (tag : Byte) (p : List Byte) : Frame := ⟨63, 1, .request, tag, 7, p⟩
    requestLength 0 = none ∧ requestLength 255 = none ∧ requestLength 9 = none ∧
    requestLength 6 = some 1 ∧ (req 6 [1, 2]).payload.length ≠ 1 ∧ (req 6 []).payload.length ≠ 1 ∧
    (req 3 [0]).payload = 0 :: [] ∧ (8 : Nat) < (9 : Byte).toNat ∧ rowFormBytes 1 = some 12 ∧
    (List.replicate 14 (0 : Byte)).length ≠ 12 + 1 ∧ (rig .monitor).mode ≠ .starting := by decide

theorem witness_IdentifyAndReadStatusAnswer :
    State.reset.trunk.replySlot = none ∧ State.reset.mgmt.restartDue = false ∧
    (rig .standby).trunk.replySlot = none ∧ (rig .standby).mgmt.restartDue = false ∧
    (0 : Byte) = 0 ∧ (1 : Byte) ≠ 0 ∧ (255 : Byte) ≠ 0 := by decide

/-- R175, R177: the reply in STARTING after POWER_ON, where the remembered mode and the trip pressure are
absent (no mask bit set): 43 bytes of payload, part 0 of 1. -/
theorem test_read_status_after_reset :
    ∃ d, (doReadStatus 0 State.reset).2 = ⟨.done, [0, 1, 0, 0, 0, 0, 1, 1, 0, 0, 0, 0] ++ d⟩ ∧
      1 + ([0, 1, 0, 0, 0, 0, 1, 1, 0, 0, 0, 0] ++ d).length = 43 := ⟨_, rfl, by decide +kernel⟩

theorem witness_ReadRequestsAnswerAndChangeNothing :
    (rig .monitor).ready ∧ (12 : Byte).toNat = (12 : InputId).val ∧ (1 : Byte).toNat = (1 : PumpId).val ∧
    (15 : Byte).toNat = (15 : Fin 16).val ∧ (23 : Byte).toNat = (23 : Fin 24).val ∧
    rowCount (2 : Byte).toNat ≤ (13 : Byte).toNat ∧ (2 : Byte).toNat < rowCount (2 : Byte).toNat ∧
    (12 : Byte).toNat < 13 ∧ 13 ≤ (13 : Byte).toNat ∧ (63 : Byte).toNat < 64 ∧ 64 ≤ (64 : Byte).toNat ∧
    (127 : Byte).toNat < 128 ∧ 128 ≤ (128 : Byte).toNat :=
  ⟨rig_ready.1, by decide⟩

theorem witness_ReadRequestsAnswerAndChangeNothing_balance :
    let s := withCirc (fun c => { c with window := List.replicate 16 ⟨0, 0, false, false⟩ }) (rig .monitor)
    s.slotOccupied = false ∧ s.mode ≠ .starting ∧ 1 ≤ (16 : Byte).toNat ∧
    (16 : Byte).toNat ≤ s.circ.window.length ∧ 16 < (17 : Byte).toNat ∧
    s.circ.window.reverse[(16 : Byte).toNat - 1]? = some ⟨0, 0, false, false⟩ ∧
    (rig .monitor).circ.window.length < (1 : Byte).toNat := by decide

theorem witness_ReadRequestsAnswerAndChangeNothing_records :
    let s := drilling 0 500 400
    s.slotOccupied = false ∧ s.mode ≠ .starting ∧ (0 : Byte) ≠ 255 ∧ 2 ≤ (2 : Byte).toNat ∧
    (∀ b : Fin 2, (1 : Byte).toNat = b.val → s.banks[b].state = .free ∨
      s.banks[b].records.length ≤ (0 : Byte).toNat) ∧ (1 : BitVec 16) ≠ 0 ∧ 4 ≤ (4 : Byte).toNat ∧
    ∀ t ∈ s.billing.tickets, t.number ≠ (1 : BitVec 16).toNat := by decide

/-- Rows with the fields of a loaded form, at bounds of their types. -/
theorem witness_ReadRequestsAnswerAndChangeNothing_forms :
    let f : ChannelForm := ⟨1, 62, 2, 15, -32768, -2147483648, -1, 2147483647, 8, 60000, 0, 65535⟩
    let r : ChannelRow := ⟨true, 62, 2, 15, -32768, -2147483648, -1, 2147483647, 8, 60000, false, 65535⟩
    let l : LimitsForm := ⟨7000, 1000, 6000, 100, 2, 20, 100, 62, 60⟩
    let m : Limits := ⟨7000, 1000, 6000, 100, 2, 20, 100, 62, 60⟩
    r.gain = f.gain.toInt ∧ r.offset = f.offset.toInt ∧ r.high = f.high.toInt ∧ r.aux = f.aux.toNat ∧
    f.enabled = (if r.enabled = true then 1 else 0) ∧ f.mandatory = (if r.mandatory = true then 1 else 0) ∧
    r.form = f.bytes ∧ m.trip = l.trip.toNat ∧ m.timeout = l.timeout.toNat ∧ m.form = l.bytes := by
  decide +kernel

/-- A stored ticket. -/
def ticketOf (n : Nat) : Ticket := { buildTicket false (rig .monitor) with number := n }

theorem witness_RepliesAreLaidOutInParts :
    let s := { drilling 0 500 600 with banks := #v[⟨.filling, [closedOf 1], false⟩, Bank.free] }
    let u := { drilling 0 500 600 with billing := { Billing.default with tickets := [ticketOf 5] } }
    s.slotOccupied = false ∧ s.mode ≠ .starting ∧ (0 : Byte).toNat = (0 : Fin 2).val ∧ (0 : Byte) ≠ 255 ∧
    s.banks[0].state ≠ .free ∧ s.banks[0].records[(0 : Byte).toNat]? = some (closedOf 1) ∧
    u.slotOccupied = false ∧ (5 : BitVec 16) ≠ 0 ∧ (3 : Byte).toNat = 3 ∧
    u.billing.tickets.find? (fun t => t.number == (5 : BitVec 16).toNat) = some (ticketOf 5) := by
  decide +kernel

theorem witness_RepliesAreLaidOutInParts_fields :
    let fs := List.replicate 12 (fN 4 7)
    (∀ f ∈ fs, f.width ≤ 8) ∧ (parts fs)[0]? = some (List.replicate 10 (fN 4 7)) ∧
    (parts fs)[1]? = some (fN 4 7 :: [fN 4 7]) ∧ (parts fs).length ≤ 2 := by decide

/-! ### Witnesses: table loads, modes and resets -/

theorem witness_LoadSettingsStoresTheRowInRange :
    let f : SettingsForm := ⟨60, 2, 5, 8, 5, 500, 0, 12, 30, 50⟩
    (rig .monitor).ready ∧ f.startMode.toNat = Mode.code .supervised ∧ (1 : Byte) ≠ 0 ∧
    (0 : Byte) ≠ 1 ∧ (3 : Byte) ≠ 2 ∧
    max 2 (min f.period.toNat 30) = (rig .monitor).settings.period ∧
    max 4 (min f.window.toNat 16) = (rig .monitor).settings.window ∧
    max 4 (min (3 : Byte).toNat 16) ≠ (rig .monitor).settings.window :=
  ⟨rig_ready.1, by decide⟩

theorem witness_LoadChannelMapStoresTheRowAndResetsTheInput :
    let f : ChannelForm := ⟨1, 62, 2, 15, 1024, 0, 0, 0, 1, 1000, 0, 0⟩
    let g : ChannelForm := { f with node := 30, kind := 1, channel := 0 }
    (rig .monitor).ready ∧ 12 < (13 : Byte).toNat ∧ (12 : Byte).toNat = (12 : InputId).val ∧
    (5 : Byte).toNat = (5 : InputId).val ∧ f.node.toNat ≤ 62 ∧ f.channel.toNat ≤ 15 ∧
    (∀ j : InputId, ¬((rigTables.channels[j]).node = f.node.toNat ∧
      (rigTables.channels[j]).kind = f.kind.toNat ∧ (rigTables.channels[j]).channel = f.channel.toNat)) ∧
    g.enabled ≠ 0 ∧ (∃ j : InputId, j ≠ 12 ∧ (rigTables.channels[j]).enabled = true ∧
      (rigTables.channels[j]).node = g.node.toNat ∧ (rigTables.channels[j]).kind = g.kind.toNat ∧
      (rigTables.channels[j]).channel = g.channel.toNat) :=
  ⟨rig_ready.1, by decide⟩

theorem witness_LoadPumpTableStoresTheRowAndBoundsThePump :
    let s : State := (rig .supervised).onPump 0 fun u =>
      { u with requested := 60, commanded := 60, control := .steady }
    let f : PumpForm := ⟨21, 5000, 95, 40, 5, 20⟩
    s.slotOccupied = false ∧ s.mode ≠ .starting ∧ 1 < (2 : Byte).toNat ∧
    (1 : Byte).toNat = (1 : PumpId).val ∧ 62 < (63 : Byte).toNat ∧ f.node.toNat ≤ 62 ∧
    f.node.toNat ≠ (s.tables.pumps[(1 : PumpId)]).node ∧ f.node.toNat ≠ s.tables.limits.handler ∧
    f.node.toNat = (s.tables.pumps[(0 : PumpId)]).node ∧
    f.maxRate.toNat < (s.pumpCtl.pumps[(0 : PumpId)]).requested ∧
    (s.pumpCtl.pumps[(0 : PumpId)]).commanded ≤ (s.pumpCtl.pumps[(0 : PumpId)]).requested ∧
    s.commanding = true ∧ (rig .monitor).commanding = false ∧
    (23 : Byte).toNat ≠ (s.tables.pumps[(0 : PumpId)]).node := by decide +kernel

theorem witness_LoadLimitsThresholdsAndClasses :
    (rig .monitor).ready ∧ (1 : Byte) ≠ 0 ∧ 62 < (63 : Byte).toNat ∧
    (∃ p : PumpId, (22 : Byte).toNat = (rigTables.pumps[p]).node) ∧
    (∀ p : PumpId, (62 : Byte).toNat ≠ (rigTables.pumps[p]).node) ∧ 15 < (16 : Byte).toNat ∧
    (15 : Byte).toNat = (15 : Fin 16).val :=
  ⟨rig_ready.1, by decide⟩

theorem witness_LoadTariffJudgesAndStoresTheRow :
    let rows := rigTables.tariff.set 0 (.band 300 400 1800)
    let s : State := { rig .monitor with tables := { rigTables with tariff := rows } }
    let others := (List.finRange 24).filter (·.val ≠ (23 : Byte).toNat)
    State.reset.slotOccupied = false ∧ State.reset.mode = .starting ∧ s.slotOccupied = false ∧
    s.mode ≠ .starting ∧ s.jobInProgress = false ∧ (drilling 0 500 0).jobInProgress = true ∧
    23 < (24 : Byte).toNat ∧ (23 : Byte).toNat ≤ 23 ∧ 5 < (6 : Byte).toNat ∧ 6 < (7 : BitVec 16).toNat ∧
    (∃ j ∈ others, s.tables.tariff[j] = .band 300 400 1800) ∧ (300 : Nat) < 301 ∧ (399 : Nat) < 400 ∧
    ((400 : Nat) ≤ 400 ∧ others.countP (fun j => (s.tables.tariff[j]).band?.isSome) < 8) ∧
    15 < (16 : BitVec 16).toNat ∧ 1 ≤ (255 : BitVec 16).toNat := by decide +kernel

theorem witness_ClearTablesRestoresTheDefaults :
    (rig .monitor).ready ∧ (rig .monitor).jobInProgress = false ∧
    (drilling 0 500 400).jobInProgress = true ∧ (rigTables.pumps[(1 : PumpId)]).node ≠ 0 :=
  ⟨rig_ready.1, by decide⟩

theorem witness_SetModeKeepsChangesOrRefuses :
    let turning := withInput 2 3 (rig .monitor)
    (rig .monitor).ready ∧ 3 < (4 : Byte).toNat ∧ (1 : Byte).toNat = (rig .monitor).mode.code ∧
    turning.fresh inRotary = true ∧ (turning.input inRotary).smoothed = some 3 ∧
    (turning.tables.limits.stop : Int) < 3 ∧ (rig .monitor).rotationAbove = false ∧
    (rig .monitor).anyRunning = false ∧ (rig .monitor).mode = .monitor ∧
    (rig .supervised).mode = .supervised :=
  ⟨rig_ready.1, by decide⟩

theorem witness_SetModeKeepsChangesOrRefuses_supervised :
    let s (latch : Bool) (c : Conn) : State :=
      withTracker (fun t => { t with conn := c }) { rig .monitor with
        pumpCtl := { PumpControl.afterReset with tripLatch := latch } }
    (s false .headOn).mode = .monitor ∧ (s false .headOn).pumpCtl.tripLatch = false ∧
    (s false .headOn).tracker.conn = .headOn ∧ (s true .headOn).pumpCtl.tripLatch = true ∧
    (s false .headOffEmpty).tracker.conn ≠ .headOn ∧
    ((s false .headOn).tables.pumps[(0 : PumpId)]).node ≠ 0 ∧
    min ((some 1).getD 0) ((s false .headOffEmpty).tables.pumps[(0 : PumpId)]).maxRate ≠ 0 ∧
    ((State.reset).tables.pumps[(0 : PumpId)]).node = 0 := by decide +kernel

/-- A rotary speed report as a field frame of input 2. -/
def rotary (v : Byte) : Frame := ⟨0, 32, .sample, 2, 0, [0, v]⟩

theorem witness_WakesReturnToTheRememberedMode :
    let s := rig .standby
    let ring (x : Int) := smoothedOf (pushRing (s.tables.channels[inRotary]).depth
      (if s.inputs[inRotary].state = .stale then [] else s.inputs[inRotary].ring)
      (conditioned s.tables.channels[inRotary] x))
    s.ready ∧ s.mode = .standby ∧ s.mgmt.remembered = some .monitor ∧
    (1 : Byte).toNat = Mode.code .monitor ∧ (2 : Byte).toNat = Mode.code .supervised ∧
    s.inputOf (rotary 3) = some inRotary ∧ rawOf inRotary (rotary 3).payload = some 3 ∧
    s.isHandlerReport (rotary 3) = false ∧ ring 3 = some 3 ∧ ring 2 = some 2 ∧
    (s.tables.limits.stop : Int) < 3 ∧ 2 ≤ (s.tables.limits.stop : Int) :=
  ⟨rig_ready.2.2, by decide +kernel⟩

theorem witness_WakesReturnToTheRememberedMode_pumps :
    let s (m : Mode) : State := (rig .standby).onMgmt fun g => { g with remembered := some m }
    let one : State := { s .monitor with
      tables := { rigTables with pumps := rigTables.pumps.set 1 PumpRow.default } }
    (s .supervised).mgmt.remembered = some .supervised ∧ (s .supervised).pumpCtl.tripLatch = false ∧
    (s .supervised).tracker.conn = .headOn ∧ (one.tables.pumps[(1 : PumpId)]).node = 0 ∧
    (one.tables.pumps[(0 : PumpId)]).node ≠ 0 := by decide +kernel

/-- R48: a return from STANDBY to MONITOR sets the not-following count to 0, and one to SUPERVISED does
not. -/
theorem test_wake_to_monitor_clears_the_count :
    let s (m : Mode) : State := ((rig .standby).onMgmt fun g => { g with remembered := some m }).onPump 0
      fun u => { u with notFollowing := 2 }
    ((wake .request (s .monitor)).pump 0).notFollowing = 0 ∧
    ((wake .request (s .supervised)).pump 0).notFollowing = 2 := by decide +kernel

theorem witness_SiteTimeRunsAndResetsKeepTheRetainedAreas :
    let s : State := { rig .monitor with
      mgmt := { (rig .monitor).mgmt with restartDue := true }
      trunk := { Trunk.afterReset with cabSending := some ⟨.reply, stray⟩ } }
    let u : State := s.onTrunk fun t => { t with cabSending := some ⟨.forward, stray⟩ }
    (rig .monitor).ready ∧ s.mgmt.restartDue = true ∧ s.trunk.replySlot = none ∧
    s.trunk.cabSending = some ⟨.reply, stray⟩ ∧ (rig .monitor).mgmt.restartDue = false ∧
    (∀ c, u.trunk.cabSending = some c → c.source ≠ .reply) := by
  refine ⟨rig_ready.1, by decide, by decide, by decide, by decide, ?_⟩
  intro c h
  cases h
  decide

theorem witness_ChecksCompleteRestoresLostAreas :
    State.reset.mode = .starting ∧ State.reset.mgmt.checksDone = false ∧
    (FailedAreas.mk true false true false).tables = true ∧
    (FailedAreas.mk false true false true).string = true ∧ (rig .monitor).mode ≠ .starting ∧
    (rig .monitor).mgmt.checksDone = true ∧
    (∀ failed, Instr.startHoldTimerExpiry ≠ .checksComplete failed) ∧
    State.jobInProgress { drilling 0 500 400 with mgmt := State.reset.mgmt } = true :=
  ⟨by decide, by decide, by decide, by decide, by decide, by decide, fun _ h => Instr.noConfusion h, by decide⟩

/-- A restart with a mandatory input awaited, an OPEN job, a bit frozen and a string on it: one area of
each kind fails, and STARTING goes on. -/
theorem witness_ChecksCompleteRestoresLostAreas_awaiting :
    let s : State := { drilling 0 500 400 with
      mgmt := State.reset.mgmt, depth := { Depth.default with hole := 400, stringLength := 6096 }
      tracker := { Tracker.default with stack := [rod 7] } }
    let t := completeChecks ⟨false, true, false, false⟩ s
    s.mode = .starting ∧ s.mgmt.checksDone = false ∧ s.mgmt.holdExpired = false ∧
    (s.tables.channels[(0 : InputId)]).enabled = true ∧
    (s.tables.channels[(0 : InputId)]).mandatory = true ∧ s.inputs[(0 : InputId)].state ≠ .fresh ∧
    t.mode = .starting ∧ t.depth.hole = 400 ∧ t.depth.anchorUncertain = true ∧
    t.depth.stringLength = 0 ∧ t.job.state = .opened ∧
    (completeChecks ⟨false, false, true, false⟩ s).depth.hole = 0 := by decide +kernel

theorem witness_StartingEndsAsSoonAsItCan :
    let s (done expired : Bool) : State := { State.reset with
      mgmt := { State.reset.mgmt with checksDone := done, holdExpired := expired } }
    let strict : State := { s true false with tables := rigTables }
    (s true false).mode = .starting ∧ (s true false).settings.startMode = .monitor ∧
    (∀ i : InputId, ((s true false).tables.channels[i]).enabled = true →
      ((s true false).tables.channels[i]).mandatory = true → (s true false).inputs[i].state = .fresh) ∧
    (s true false).mgmt.checksDone = true ∧ (s false true).mgmt.checksDone = false ∧
    (strict.tables.channels[(0 : InputId)]).mandatory = true ∧
    strict.inputs[(0 : InputId)].state ≠ .fresh ∧ strict.mgmt.holdExpired = false ∧
    (s true true).mgmt.holdExpired = true ∧ (s true false).mgmt.holdDue = some 5000 := by
  decide +kernel

theorem witness_StartingEndsAsSoonAsItCan_supervised :
    let s : State := { State.reset with
      tables := { rigTables with
        settings := { Settings.default with startMode := .supervised }
        channels := Tables.default.channels }
      mgmt := { State.reset.mgmt with checksDone := true } }
    s.settings.startMode = .supervised ∧ s.pumpCtl.tripLatch = false ∧ s.tracker.conn = .headOn ∧
    (s.tables.pumps[(0 : PumpId)]).node ≠ 0 := by decide

/-- A HEAD_POS frame is the last mandatory input awaited; the checks can be the last thing awaited too. -/
theorem witness_StartingEndsAsSoonAsItCan_frame :
    let tables : Tables := { Tables.default with channels := Tables.default.channels.set 0 (row 0) }
    let s (done : Bool) : State := { State.reset with
      tables := tables, mgmt := { State.reset.mgmt with checksDone := done } }
    let f : Frame := ⟨0, 30, .sample, 0, 0, [0, 0, 0, 7]⟩
    (s true).mode = .starting ∧ (s true).settings.startMode = .monitor ∧ f.payload.length ≤ 48 ∧
    (s true).inputOf f = some 0 ∧ rawOf 0 f.payload = some 7 ∧ (s true).inputOf stray = none ∧
    (fieldArrival f (s true)).mode = .monitor ∧ (fieldArrival f (s false)).mode = .starting ∧
    (completeChecks ⟨true, false, false, false⟩ (s false)).mode = .monitor := by decide +kernel

/-! ### Witnesses: the pumps -/

/-- The rig in a mode with a latch, a connection state and pump 1's rates. -/
def pumping (m : Mode) (latch : Bool) (c : Conn) (requested commanded : Nat) : State :=
  withTracker (fun t => { t with conn := c }) { rig m with
    pumpCtl := { PumpControl.afterReset with
      tripLatch := latch
      pumps := #v[{ Pump.afterReset with requested := requested, commanded := commanded },
        Pump.afterReset] } }

theorem witness_PumpSetpointIsJudgedByTheMode :
    let s := pumping .supervised false .headOn 30 20
    s.mode = .supervised ∧ s.pumpAt 21 = some 0 ∧ s.pumpAt 22 = some 1 ∧ s.isOwnAddress 21 = false ∧
    [(0 : Byte)].length ≠ 2 ∧ (0 : Byte).toNat * 256 + (1 : Byte).toNat = 1 ∧
    (pumping .supervised true .headOn 0 0).pumpCtl.tripLatch = true ∧
    (pumping .supervised false .headOffEmpty 0 0).tracker.conn ≠ .headOn ∧
    (s.pumpCtl.pumps[(0 : PumpId)]).commanded ≤ min 20 (s.tables.pumps[(0 : PumpId)]).maxRate ∧
    min 19 (s.tables.pumps[(0 : PumpId)]).maxRate < (s.pumpCtl.pumps[(0 : PumpId)]).commanded := by
  decide +kernel

theorem witness_PumpSetpointIsJudgedByTheMode_unjudged :
    let full : State := (rig .monitor).onTrunk fun t => { t with fieldFifo := List.replicate 8 stray }
    (rig .standby).pumpAt 21 = some 0 ∧ (rig .standby).isOwnAddress 21 = false ∧
    (rig .standby).mode = .standby ∧ (rig .monitor).mode = .monitor ∧
    8 ≤ full.trunk.fieldFifo.length ∧ (rig .monitor).trunk.fieldFifo.length < 8 ∧
    { State.reset with tables := rigTables }.mode = .starting ∧
    { State.reset with tables := rigTables }.pumpAt 22 = some 1 := by decide +kernel

theorem witness_PumpSetpointIsJudgedByTheMode_queue :
    let e : SetpointEntry := ⟨21, 5, 60⟩
    let t : Trunk := { Trunk.afterReset with setpoints := [⟨22, 9, 60⟩, ⟨21, 7, 60⟩] }
    (∀ q ∈ Trunk.afterReset.setpoints, q.node ≠ e.node) ∧
    t.setpoints = [⟨22, 9, 60⟩] ++ ⟨21, 7, 60⟩ :: [] ∧
    (∀ r ∈ [(⟨22, 9, 60⟩ : SetpointEntry)] ++ [], r.node ≠ e.node) := by decide

/-- A standpipe pressure report. -/
def pressureOf (hi lo : Byte) : Frame := ⟨0, 34, .sample, 4, 0, [hi, lo]⟩

theorem witness_PressureTripForcesThePumpsToZero :
    let s := pumping .supervised false .headOn 30 30
    let v (x : Int) := conditioned s.tables.channels[inPressure] x
    s.mode ≠ .starting ∧ s.inputOf (pressureOf 27 88) = some inPressure ∧
    rawOf inPressure (pressureOf 27 88).payload = some 7000 ∧
    s.isHandlerReport (pressureOf 27 88) = false ∧ (s.tables.limits.trip : Int) ≤ v 7000 ∧
    v 6999 < (s.tables.limits.trip : Int) ∧ s.pumpCtl.tripLatch = false ∧ (rig .monitor).mode = .monitor ∧
    (s.tables.pumps[0]).node ≠ 0 ∧ (s.tables.pumps[0]).node ≠ (s.tables.pumps[1]).node ∧
    (pumping .monitor true .headOn 0 0).pumpCtl.tripLatch = true ∧
    ((State.reset).tables.pumps[0]).node = 0 := by decide +kernel

theorem witness_TripResetClearsTheLatch :
    let s := withInput 4 5999 (pumping .supervised true .headOn 0 0)
    let u := withInput 4 6000 (pumping .supervised true .headOn 0 0)
    let limit : Int := (s.tables.limits.trip : Int) - s.tables.limits.hysteresis
    s.slotOccupied = false ∧ s.mode ≠ .starting ∧ s.inputs[inPressure].state = .fresh ∧
    s.inputs[inPressure].lastConditioned = some 5999 ∧ 5999 < limit ∧ s.pumpCtl.tripLatch = true ∧
    u.inputs[inPressure].lastConditioned = some 6000 ∧ limit ≤ 6000 ∧
    (rig .monitor).inputs[inPressure].state ≠ .fresh := by decide +kernel

theorem witness_SecondTickRampsGathersAndMeters :
    let s := pumping .supervised false .headOn 30 29
    let held := withInput 4 6000 s
    let free := withInput 4 5999 s
    let u : State := { drilling 0 500 400 with depth := { Depth.default with taken := .drilling } }
    s.mode = .supervised ∧ (s.tables.pumps[(0 : PumpId)]).node ≠ 0 ∧ s.heldAtZero = false ∧
    (s.pumpCtl.pumps[(0 : PumpId)]).commanded < (s.pumpCtl.pumps[(0 : PumpId)]).requested ∧
    held.riseHeld = true ∧ free.riseHeld = false ∧
    (s.tables.pumps[0]).node ≠ (s.tables.pumps[1]).node ∧ 0 < (s.tables.pumps[(0 : PumpId)]).rampRate ∧
    (withInput 2 3 s).rotationAbove = true ∧ (withInput 2 2 s).rotationAbove = false ∧
    u.depth.taken = .drilling ∧ u.recorder.interval = some (openAt 0 500) ∧ u.job.state = .opened := by
  decide +kernel

theorem witness_EveryStepKeepsThePumpLaw :
    (rig .supervised).pumpLaw ∧ (pumping .monitor false .headOn 0 0).startModeLegal ∧
    ∃ t, step { rig .supervised with pending := [.pumpSetpoint 21 1 0 0 [0, 30]] } = .next t := by
  refine ⟨⟨by unfold State.startModeLegal; decide, by decide, by decide, by decide, ?_⟩,
    by unfold State.startModeLegal; decide, _, rfl⟩
  intro p _
  fin_cases p <;> exact ⟨rfl, rfl⟩

/-! ### Witnesses: the drill string -/

theorem witness_HandlerCommandIsJudgedOrForwarded :
    let s := rig .supervised
    let busy : State := withTracker (fun t => { t with command := some ⟨.makeHead, none, 0, 60, 60000⟩ }) s
    let still := withInput 2 2 (withInput 8 1 s)
    let bled := withInput 4 100 still
    let off := withTracker (fun t => { t with conn := .headOffEmpty }) s
    s.mode = .supervised ∧ s.isOwnAddress 25 = false ∧ s.pumpAt 25 = none ∧
    s.tables.limits.handler ≠ 0 ∧ (25 : Addr).val = s.tables.limits.handler ∧
    6 < (7 : Byte).toNat ∧ 63 < (64 : Byte).toNat ∧ busy.tracker.command.isSome = true ∧
    s.tracker.command.isSome = false ∧ s.tracker.conn = .headOn ∧ off.tracker.conn = .headOffEmpty ∧
    s.inputs[inSlips].state ≠ .fresh ∧ bled.inputs[inSlips].state = .fresh ∧
    bled.inputs[inSlips].smoothed = some 1 ∧ bled.inputs[inRotary].state = .fresh ∧
    bled.inputs[inRotary].smoothed = some 2 ∧ 2 ≤ (bled.tables.limits.stop : Int) ∧
    bled.running 0 = false ∧ bled.running 1 = false ∧
    (bled.pumpCtl.pumps[0]).commanded = 0 ∧ (bled.pumpCtl.pumps[1]).commanded = 0 ∧
    still.inputs[inPressure].state ≠ .fresh ∧ bled.inputs[inPressure].state = .fresh ∧
    (bled.inputs[inPressure].smoothed).getD 0 ≤ (bled.tables.limits.bleed : Int) ∧
    (s.tables.limits.bleed : Int) < ((withInput 4 101 still).inputs[inPressure].smoothed).getD 0 := by
  decide +kernel

theorem witness_HandlerCommandIsJudgedOrForwarded_rods :
    let off (k : Nat) : State := withTracker (fun t => { t.setSlot 63 (some (rod 7)) with
      conn := .headOffEmpty, stack := List.replicate k (rod 8) }) (rig .supervised)
    let held (src : Source) : State := withTracker (fun t => { t with
      conn := .headOffHolding, hold := some (rod 9, src) }) (rig .supervised)
    (off 128).tracker.slot 62 = none ∧ (off 128).tracker.slot 63 ≠ none ∧
    128 ≤ (off 128).tracker.stack.length ∧ (off 127).tracker.stack.length < 128 ∧
    (off 1).tracker.stack.getLast? = some (rod 8) ∧ (rod 8).kind = .rod ∧
    (off 0).tracker.stack.getLast? = none ∧ (held .rack).tracker.conn = .headOffHolding ∧
    (held .rack).tracker.hold = some (rod 9, .rack) ∧ (held .string).tracker.hold = some (rod 9, .string) ∧
    (held .string).tracker.slot 63 = none := by decide +kernel

theorem witness_HandlerCommandIsJudgedOrForwarded_unjudged :
    let s : State := { State.reset with tables := rigTables }
    s.mode = .starting ∧ s.isOwnAddress 25 = false ∧ s.pumpAt 25 = none ∧ (rig .monitor).mode = .monitor ∧
    (rig .monitor).pumpAt 25 = none ∧ [(6 : Byte), 63] = [BitVec.ofNat 8 HandlerCode.lay.code, 63] ∧
    HandlerCode.lay.hasSlot = true ∧ (63 : Byte).toNat ≤ 63 ∧ [(1 : Byte)].length ≠ 2 := by decide

/-- A handler report. -/
def report (code slot result : Byte) : Frame := ⟨0, 25, .status, 0, 0, [code, slot, result]⟩

/-- A pending command. -/
def commandOf (c : HandlerCode) (slot : Option Nat) : PendingCommand := ⟨c, slot, 0, 60, 60000⟩

/-- The rig in SUPERVISED with a pending command, a connection state, a hold and a stack. -/
def working (c : HandlerCode) (slot : Option Nat) (conn : Conn) (hold : Option (Rod × Source))
    (stack : List Rod) : State :=
  withTracker (fun t => { t with
    command := some (commandOf c slot), conn := conn, hold := hold, stack := stack }) (rig .supervised)

theorem witness_HandlerReportMovesAndHoldsThePumps :
    let s := working .breakHead none .headOn none []
    s.mode ≠ .starting ∧ s.mgmt.remembered ≠ some .starting ∧ s.isHandlerReport (report 1 0 0) = true ∧
    s.inputOf (report 1 0 0) = none ∧ s.tracker.command = some (commandOf .breakHead none) ∧
    (report 1 0 0).payload = [BitVec.ofNat 8 HandlerCode.breakHead.code, 0, 0] ∧
    (working .makeHead none .headOffEmpty none []).tracker.conn = .headOffEmpty ∧
    (working .makeHead none .headOffEmpty none []).pumpCtl.tripLatch = false ∧
    (s.tables.pumps[(0 : PumpId)]).node ≠ 0 ∧
    0 < ((pumping .supervised false .headOn 30 1).pumpCtl.pumps[(0 : PumpId)]).commanded := by
  decide +kernel

theorem witness_HandlerReportMovesAndHoldsThePumps_rods :
    let pick : State := withTracker (fun t => t.setSlot 63 (some (rod 7)))
      (working .pick (some 63) .headOffEmpty none [])
    let make := working .makeRod none .headOffHolding (some (rod 7, .rack)) (List.replicate 127 (rod 8))
    let brk := working .breakRod none .headOffEmpty none [bha 5, rod 8]
    let lay := working .lay (some 0) .headOffHolding (some (rod 7, .string)) []
    (report 3 63 0).payload = [BitVec.ofNat 8 HandlerCode.pick.code, 63, 0] ∧
    (commandOf .pick (some 63)).slot = some (63 : Byte).toNat ∧
    pick.tracker.slot (63 : Byte).toNat = some (rod 7) ∧ pick.tracker.hold = none ∧
    make.tracker.hold = some (rod 7, .rack) ∧ make.tracker.stack.length < 128 ∧
    brk.tracker.stack = [bha 5] ++ [rod 8] ∧ (rod 8).kind = .rod ∧ brk.tracker.hold = none ∧
    lay.tracker.hold = some (rod 7, .string) ∧ lay.tracker.slot (0 : Byte).toNat = none ∧
    lay.isHandlerReport (report 6 0 0) = true := by decide +kernel

/-- The heads broken and made in MONITOR with a pump FORCED_OFF and in STANDBY, and a rod made where the
string length then differs from the depth unit's and where it agrees with it. -/
theorem witness_HandlerReportMovesAndHoldsThePumps_modes :
    let closing (m : Mode) (latch : Bool) : State := withTracker (fun t => { t with
        command := some (commandOf .makeHead none) }) { pumping m latch .headOffEmpty 0 0 with
      mgmt := (rig m).mgmt }
    let off : State := (closing .monitor false).onPump 0 fun u => { u with control := .forcedOff }
    let make (length : Int) : State := { working .makeRod none .headOffHolding (some (rod 7, .rack)) [] with
      depth := { Depth.default with stringLength := length } }
    off.mode = .monitor ∧ (off.pumpCtl.pumps[(0 : PumpId)]).control = .forcedOff ∧
    off.pumpCtl.tripLatch = false ∧ off.tracker.conn = .headOffEmpty ∧
    off.isHandlerReport (report 2 0 0) = true ∧ off.mgmt.remembered ≠ some .starting ∧
    (closing .standby false).mode = .standby ∧ (closing .standby false).isHandlerReport (report 2 0 0) = true ∧
    (closing .monitor true).pumpCtl.tripLatch = true ∧
    (handlerReport (report 4 0 0).payload (make 0)).tracker.length ≠ (make 0).depth.stringLength ∧
    (handlerReport (report 4 0 0).payload (make 0)).depth.anchorUncertain = true ∧
    (handlerReport (report 4 0 0).payload (make 6096)).tracker.length = (make 6096).depth.stringLength := by
  decide +kernel

theorem witness_HandlerMismatchesFailuresAndTimeout :
    let s := rig .monitor
    let u := working .pick (some 63) .headOffEmpty none []
    let starting : State := { State.reset with tables := rigTables }
    s.mgmt.remembered ≠ some .starting ∧ s.isHandlerReport (report 2 0 0) = true ∧
    s.tracker.command = none ∧ (report 2 0 0).payload = [BitVec.ofNat 8 HandlerCode.makeHead.code, 0, 0] ∧
    6 < (7 : Byte).toNat ∧ 1 < (2 : Byte).toNat ∧ u.tracker.command = some (commandOf .pick (some 63)) ∧
    ¬((commandOf .pick (some 63)).slot = none ∨
      (commandOf .pick (some 63)).slot = some (62 : Byte).toNat) ∧
    (commandOf .pick (some 63)).slot = some (63 : Byte).toNat ∧ starting.mode = .starting ∧
    starting.mgmt.remembered ≠ some .starting ∧ starting.isHandlerReport (report 2 0 1) = true := by
  decide +kernel

/-- Matching OK reports whose moves cannot be applied: each form at the condition that fails last. -/
theorem witness_HandlerMismatchesFailuresAndTimeout_cannot_apply :
    let full := working .makeRod none .headOffHolding (some (rod 7, .rack)) (List.replicate 128 (rod 8))
    let brk := working .breakRod none .headOffEmpty none [bha 5]
    let lay : State := withTracker (fun t => t.setSlot 63 (some (rod 8)))
      (working .lay (some 63) .headOffHolding (some (rod 7, .string)) [])
    let pick := working .pick (some 63) .headOffEmpty none []
    (working .breakHead none .headOffEmpty none []).tracker.conn ≠ .headOn ∧
    (working .makeHead none .headOffHolding (some (rod 7, .rack)) []).tracker.conn ≠ .headOffEmpty ∧
    pick.tracker.slot (63 : Byte).toNat = none ∧ ¬(full.tracker.stack.length < 128) ∧
    (∀ r, brk.tracker.stack.getLast? = some r → r.kind ≠ .rod) ∧
    lay.tracker.slot (63 : Byte).toNat ≠ none ∧ lay.mode ≠ .starting ∧
    lay.tracker.command = some (commandOf .lay (some 63)) ∧
    (commandOf .lay (some 63)).slot = some (63 : Byte).toNat ∧
    lay.isHandlerReport (report 6 63 0) = true ∧
    (report 6 63 0).payload = [BitVec.ofNat 8 HandlerCode.lay.code, 63, 0] := by
  refine ⟨by decide, by decide, by decide +kernel, by decide +kernel, ?_, by decide +kernel⟩
  intro r h
  cases h
  decide

/-- Mismatched OK reports of the head commands, with no command pending: BREAK_HEAD under a pump at a rate,
and MAKE_HEAD with the head off under a FORCED_OFF pump, with the latch clear and with it set. -/
theorem witness_HandlerMismatchesFailuresAndTimeout_heads :
    let on := pumping .supervised false .headOn 30 1
    let off (latch : Bool) : State := (pumping .monitor latch .headOffEmpty 0 0).onPump 0 fun u =>
      { u with control := .forcedOff }
    on.tracker.command = none ∧ on.isHandlerReport (report 1 0 0) = true ∧
    on.mgmt.remembered ≠ some .starting ∧ on.tracker.conn = .headOn ∧
    0 < (on.pumpCtl.pumps[(0 : PumpId)]).commanded ∧
    (handlerReport (report 1 0 0).payload on).tracker.conn = .headOffEmpty ∧
    (handlerReport (report 1 0 0).payload on).trunk.setpoints.map (fun e => (e.node, e.rate)) = [(21, 0)] ∧
    (off false).tracker.command = none ∧ (off false).isHandlerReport (report 2 0 0) = true ∧
    (off false).tracker.conn ≠ .headOn ∧ (off false).pumpCtl.tripLatch = false ∧
    (handlerReport (report 2 0 0).payload (off false)).tracker.conn = .headOn ∧
    ((handlerReport (report 2 0 0).payload (off false)).pump 0).control = .stopped ∧
    ((handlerReport (report 2 0 0).payload (off true)).pump 0).control = .forcedOff := by decide +kernel

theorem witness_RodRequestsAreTestedInOrder :
    let s : State := withTracker (fun t => t.setSlot 63 (some (rod 7))) (rig .monitor)
    s.slotOccupied = false ∧ s.mode ≠ .starting ∧ 63 < (64 : Byte).toNat ∧
    999999 < (1000000 : BitVec 32).toNat ∧ (299 : BitVec 16).toNat < 300 ∧
    12000 < (12001 : BitVec 16).toNat ∧ s.tracker.command = none ∧ s.tracker.slot 63 = some (rod 7) ∧
    s.tracker.slot 62 = none ∧ (∃ r ∈ s.tracker.rods, r.serial = (7 : BitVec 32).toNat) ∧
    (∀ r ∈ s.tracker.rods, r.serial ≠ (999999 : BitVec 32).toNat) ∧
    (working .makeHead none .headOn none []).tracker.command ≠ none := by decide +kernel

theorem witness_RodRequestsAreTestedInOrder_string :
    let off (stack : List Rod) : State :=
      withTracker (fun t => { t with conn := .headOffEmpty, stack := stack }) (rig .monitor)
    let held : State := withTracker (fun t => { t with
      conn := .headOffHolding, hold := some (rod 7, .string) }) (rig .monitor)
    let three := [bha 1, bha 2, bha 3]
    (off three).slotOccupied = false ∧ (off three).mode ≠ .starting ∧
    (off three).tracker.command = none ∧ (off three).tracker.conn = .headOffEmpty ∧
    (∀ r ∈ (off three).tracker.stack, r.kind ≠ .rod) ∧ (off three).tracker.bhaCount < 4 ∧
    4 ≤ (off (bha 4 :: three)).tracker.bhaCount ∧ (∃ r ∈ (off three).tracker.rods, r.serial = 3) ∧
    (∀ r ∈ (off three).tracker.rods, r.serial ≠ 4) ∧ (off three).tracker.stack = [bha 1, bha 2] ++ [bha 3] ∧
    (off []).tracker.stack = [] ∧ (∃ r ∈ (off [rod 7]).tracker.stack, r.kind = .rod) ∧
    held.tracker.hold = some (rod 7, .string) ∧ held.tracker.slot 63 = none ∧
    held.slotOccupied = false ∧ held.tracker.command = none := by decide +kernel

theorem witness_EveryStepKeepsTheRodLaw :
    (rig .monitor).tracker.law ∧
    ∃ t, step { rig .monitor with pending := [.rackPut hdr 0 7 6096] } = .next t := by
  refine ⟨?_, _, rfl⟩
  refine ⟨by decide +kernel, by unfold Rod.inRange; decide +kernel, ?_, ?_, by decide, by decide, by decide, by decide⟩
  · intro k r h
    have : (Vector.replicate 64 (none : Option Rod))[k]?.getD none = some r := h
    rw [Vector.getElem?_replicate] at this
    split at this <;> simp at this
  · intro r h
    cases h

/-! ### Witnesses: inputs, depth and activity -/

theorem witness_FieldFrameIsTakenByItsRowOrRefused :
    let f : Frame := ⟨0, 34, .sample, 4, 0, [1, 2, 3]⟩
    (rig .monitor).tables.law ∧ f.payload.length ≤ 48 ∧ (rig .monitor).inputOf f = some inPressure ∧
    rawOf inPressure f.payload = none ∧ (rig .monitor).isHandlerReport f = false ∧
    (rig .monitor).mode ≠ .starting := by
  refine ⟨?_, by decide, by decide, by decide, by decide, by decide⟩
  unfold Tables.law Settings.law
  refine ⟨by decide, by decide, by decide, by decide, by decide, by decide, by decide +kernel,
    by decide +kernel, ?_, by decide +kernel, by decide⟩
  intro i
  have : (rig .monitor).tables.tariff[i] = .empty := by revert i; decide
  rw [this]
  trivial

theorem witness_ValueInputConditionsAndSmooths :
    let torque : Frame := ⟨0, 33, .sample, 3, 0, [255, 255]⟩
    let flow : Frame := ⟨0, 35, .sample, 5, 0, [0, 0, 1, 0]⟩
    let pit : Frame := ⟨0, 42, .sample, 12, 0, [1, 0]⟩
    (rig .monitor).inputOf torque = some inTorque ∧ rawOf inTorque torque.payload = some (-1) ∧
    (rig .monitor).inputOf flow = some inFlowOut ∧ rawOf inFlowOut flow.payload = some 256 ∧
    (rig .monitor).inputOf pit = some 12 ∧ rawOf 12 pit.payload = some 256 ∧
    (12 : InputId).val ∉ [0, 6, 7] ∧ (rig .monitor).mode ≠ .starting ∧
    (rig .monitor).isHandlerReport torque = false ∧ (rig .monitor).isHandlerReport flow = false ∧
    (rig .monitor).isHandlerReport pit = false := by decide +kernel

/-- Stroke counts with a last count, and with the running timer running. -/
def counting (m : Mode) (last : Option Nat) (due : Option Nat) : State :=
  let u : Input := { Input.afterReset with lastCount := last, runningDue := due, staleDue := some 900 }
  { rig m with inputs := (rig m).inputs.set 6 u }

theorem witness_StrokesAreCountedAndTimersExpire :
    let f (lo : Byte) : Frame := ⟨0, 36, .sample, 6, 0, [0, lo]⟩
    let s := counting .monitor (some 65530) none
    (f 14).payload = [0, 14] ∧ s.inputOf (f 14) = some (strokeInput 0) ∧
    s.mgmt.remembered ≠ some .starting ∧ s.mode ≠ .starting ∧ (s.tables.pumps[(0 : PumpId)]).node ≠ 0 ∧
    s.inputs[strokeInput 0].lastCount = some 65530 ∧ (14 + 65536 - 65530) % 65536 = 20 ∧
    20 ≤ (s.tables.pumps[(0 : PumpId)]).plausibility ∧
    (s.tables.pumps[(0 : PumpId)]).plausibility < (15 + 65536 - 65530) % 65536 ∧
    (counting .monitor none none).inputs[strokeInput 0].lastCount = none ∧
    (rig .standby).mgmt.remembered = some .monitor ∧
    (counting .standby (some 1) none).inputs[strokeInput 0].runningDue = none ∧
    (counting .standby (some 1) none).inputOf (f 2) = some (strokeInput 0) ∧
    s.isHandlerReport (f 14) = false := by decide +kernel

theorem witness_StrokesAreCountedAndTimersExpire_timers :
    let s := counting .monitor (some 1) (some 2000)
    s.inputs[(6 : InputId)].staleDue = some 900 ∧ s.inputs[(0 : InputId)].staleDue = none ∧
    (s.tables.channels[(6 : InputId)]).mandatory = true ∧
    ((counting .starting none none).tables.channels[(6 : InputId)]).mandatory = true ∧
    (State.reset.tables.channels[(6 : InputId)]).mandatory = false ∧
    s.inputs[strokeInput 0].runningDue = some 2000 ∧ s.inputs[strokeInput 1].runningDue = none := by
  decide +kernel

/-- A HEAD_POS report, and the rig with a last count of 0 and 1000 pulses per metre. -/
def headReport (b2 b1 b0 : Byte) : Frame := ⟨0, 30, .sample, 0, 0, [0, b2, b1, b0]⟩
def headed (first : Bool) (head : Int) (dropped : Bool) : State := { rig .monitor with
  inputs := (rig .monitor).inputs.set 0 { Input.afterReset with historyDropped := dropped }
  depth := { Depth.default with firstReport := first, head := head } }

theorem witness_HeadReportMovesTheHead :
    let mm (n : Int) (s : State) : Int := ((n - s.depth.lastCount).bmod (2 ^ 32) * 1000 +
      s.depth.residue).fdiv ((s.tables.channels[inHeadPos]).aux : Int)
    let certain : State := { headed false 0 false with
      depth := { Depth.default with firstReport := false, encoderUncertain := false } }
    (headReport 0 7 208).payload.length = 4 ∧
    (headed false 0 false).inputOf (headReport 0 7 208) = some inHeadPos ∧
    intOfBytes (headReport 0 7 208).payload = 2000 ∧ |mm 2000 (headed false 0 false)| ≤ 2000 ∧
    2000 < |mm 2001 (headed false 0 false)| ∧ |mm 500 (headed true 0 false)| ≤ 500 ∧
    500 < |mm 501 (headed true 0 false)| ∧ (headed true 0 false).depth.firstReport = true ∧
    (headed false 0 false).isHandlerReport (headReport 0 7 209) = false ∧
    (headed false 0 false).depth.encoderUncertain = true ∧ (headed false 0 false).mode ≠ .starting ∧
    certain.depth.encoderUncertain = false ∧ certain.inputOf (headReport 0 7 209) = some inHeadPos ∧
    ((headed true 0 true).inputs[inHeadPos]).historyDropped = true := by decide +kernel

/-- A SLIPS report. -/
def slipsReport (v : Byte) : Frame := ⟨0, 38, .sample, 8, 0, [0, v]⟩

theorem witness_SlipsReadingFreezesAndReleases :
    let s (await : Bool) (freeze : Option Int) : State := { rig .monitor with
      depth := { Depth.default with awaitSlips := await, freeze := freeze } }
    let reads (x : Int) := smoothedOf (pushRing ((s true none).tables.channels[inSlips]).depth
      (if (s true none).inputs[inSlips].state = .stale then [] else (s true none).inputs[inSlips].ring)
      (conditioned (s true none).tables.channels[inSlips] x))
    (s true none).inputOf (slipsReport 1) = some inSlips ∧
    rawOf inSlips (slipsReport 1).payload = some 1 ∧ rawOf inSlips (slipsReport 2).payload = some 2 ∧
    (s true none).isHandlerReport (slipsReport 1) = false ∧ reads 1 = some 1 ∧ reads 2 = some 2 ∧
    reads 0 = some 0 ∧ (s true none).depth.freeze = none ∧
    (s false (some 335200)).depth.freeze = some 335200 ∧ (s false none).depth.awaitSlips = false ∧
    (s true none).depth.anchorUncertain = false ∧ (s true none).mode ≠ .starting := by
  decide +kernel

/-- The rig turning with pump 1 running and weight on the bit, at a bit and a hole depth. -/
def onBottomAt (hookload bit hole : Int) : State :=
  let s := withInput 2 3 (withInput 1 hookload (withInput 0 0 (rig .monitor)))
  { s with
    inputs := s.inputs.set 6 { freshAt 0 with runningDue := some 2000 }
    depth := { Depth.default with corr := bit, hole := hole, freeHookload := 1000 } }

theorem witness_HoleAdvancesOnBottomOnly :
    let s := onBottomAt 980 400 399
    s.mode ≠ .starting ∧ s.inputs[inRotary].state = .fresh ∧ s.inputs[inRotary].smoothed = some 3 ∧
    (s.tables.limits.stop : Int) < 3 ∧ s.running 0 = true ∧ s.inputs[inHookload].state = .fresh ∧
    (s.tables.limits.wob : Int) ≤ max (s.depth.freeHookload - 980) 0 ∧
    s.inputs[inHeadPos].state = .fresh ∧ s.depth.hole - s.tables.limits.distance ≤ s.depth.bit ∧
    s.depth.hole < s.depth.bit ∧ max (s.depth.freeHookload - 981) 0 < (s.tables.limits.wob : Int) ∧
    (onBottomAt 980 299 400).depth.bit < (onBottomAt 980 299 400).depth.hole - 100 ∧
    (onBottomAt 980 400 400).depth.bit ≤ (onBottomAt 980 400 400).depth.hole := by decide +kernel

theorem witness_HoleAdvancesOnBottomOnly_free_hookload :
    let s := withInput 8 0 (onBottomAt 980 (-501) 0)
    s.mode ≠ .starting ∧ s.inputs[inSlips].state = .fresh ∧ s.inputs[inSlips].smoothed ≠ some 1 ∧
    s.depth.freeze = none ∧ s.depth.bit < s.depth.hole - 500 ∧
    ¬((withInput 8 0 (onBottomAt 980 (-500) 0)).depth.bit < 0 - 500) := by decide +kernel

/-- A HOOKLOAD frame, after STARTING and in it. -/
theorem witness_HoleAdvancesOnBottomOnly_frame :
    let f : Frame := ⟨0, 31, .sample, 1, 0, [3, 232]⟩
    let starting : State := { State.reset with tables := rigTables }
    f.payload.length ≤ 48 ∧ (rig .monitor).inputOf f = some inHookload ∧
    rawOf inHookload f.payload = some 1000 ∧ (rig .monitor).isHandlerReport f = false ∧
    (rig .monitor).mode ≠ .starting ∧ starting.inputOf f = some inHookload ∧
    starting.isHandlerReport f = false ∧ starting.mgmt.checksDone = false := by decide +kernel

/-- A ROTARY_SPEED frame outside STANDBY. -/
theorem witness_HoleAdvancesOnBottomOnly_rotary :
    let s := rig .monitor
    (rotary 3).payload.length ≤ 48 ∧ s.inputOf (rotary 3) = some inRotary ∧
    rawOf inRotary (rotary 3).payload = some 3 ∧ s.isHandlerReport (rotary 3) = false ∧
    s.mode ≠ .standby ∧ s.mode ≠ .starting := by decide +kernel

/-- R87: a report that lowers the head by 100 mm moves the bit and, on bottom, the hole. -/
theorem test_head_report_advances_the_hole :
    let s := onBottomAt 980 400 500
    let t := react (onHeadReport (-100) { s with depth := { s.depth with head := 100, corr := 600 } })
    s.onBottom = true ∧ t.depth.bit = 600 ∧ t.depth.hole = 600 := by decide +kernel

/-- R88: a hookload off bottom is taken in STARTING as in any mode. -/
theorem test_free_hookload_in_starting :
    let s := withInput 8 0 (onBottomAt 980 (-501) 0)
    let starting : State := { s with mgmt := State.reset.mgmt }
    (onHookload starting).depth.freeHookload = 980 ∧ (onHookload s).depth.freeHookload = 980 := by
  decide +kernel

theorem witness_ActivityIsIndicatedAndTaken :
    let s := withInput 8 1 (rig .monitor)
    let turning := withInput 2 3 (rig .monitor)
    let moved : State := { rig .monitor with
      depth := { Depth.default with lastMovement := some 201, settleDue := some 5000 } }
    s.mode ≠ .starting ∧ s.depth.indicated = .idle ∧ s.activityNow = .connection ∧
    turning.activityNow = .reaming ∧ moved.activityNow = .tripping ∧
    (onBottomAt 980 400 400).activityNow = .drilling ∧ (rig .standby).activityNow = .shutDown ∧
    (rig .monitor).activityNow = .idle ∧ moved.depth.settleDue = some 5000 ∧
    (rig .monitor).onBottom = false ∧
    (onBottomAt 980 400 400).depth.bit ≤ (onBottomAt 980 400 400).depth.hole ∧
    (rig .monitor).depth.settleDue = none := by decide +kernel

theorem witness_DepthCorrectMovesTheDepths :
    let s := drilling 0 500 400
    let none' : State := { s with recorder := { s.recorder with interval := none } }
    let extending : State := { s with recorder := { s.recorder with extending := true } }
    s.slotOccupied = false ∧ s.mode ≠ .starting ∧ (-1 : BitVec 32).toInt < 0 ∧
    2000000 < (2000001 : BitVec 32).toInt ∧ (2000000 : BitVec 32).toInt ≤ 2000000 ∧
    s.onBottom = false ∧ s.recorder.extending = false ∧ extending.recorder.extending = true ∧
    (onBottomAt 980 400 400).onBottom = true ∧ s.recorder.interval = some (openAt 0 500) ∧
    s.recorder.closingMark = false ∧ 0 < s.tables.settings.step ∧ s.recorder.closedCount < 65534 ∧
    none'.recorder.interval = none ∧ (drilling 400 500 400).depth.hole ≤ (openAt 400 500).top := by
  decide +kernel

/-- A record that closes, one that fills its bank with the other FREE or FULL, and the last number. -/
theorem witness_DepthCorrectMovesTheDepths_record :
    let s := drilling 0 500 1
    let full (other : Bank) : State := { s with
      banks := #v[⟨.filling, (List.range 31).map closedOf, true⟩, other] }
    let last : State := { s with recorder := { s.recorder with closedCount := 65534 } }
    (openAt 0 500).top < s.depth.hole ∧ s.fillingBank = some 0 ∧
    (s.banks[(0 : Fin 2)]).records.length < 31 ∧
    ((full .free).banks[(0 : Fin 2)]).records.length = 31 ∧ (full .free).fillingBank = some 0 ∧
    ((full .free).banks[(1 - 0 : Fin 2)]).state = .free ∧
    ((full ⟨.full, [closedOf 1], false⟩).banks[(1 - 0 : Fin 2)]).state = .full ∧
    s.recorder.closedCount + 1 < 65535 ∧ 65535 ≤ last.recorder.closedCount + 1 ∧
    s.onBottom = false ∧ (full .free).onBottom = false := by decide +kernel

/-- R107, R137: the record closes at the old D and its millimetres are billed. -/
theorem test_correction_closes_at_the_old_depth :
    let t := correctDepth 1300 (drilling 0 500 400)
    (t.banks[(0 : Fin 2)]).records.map (fun r => (r.interval.top, r.bottom)) = [(0, 400)] ∧
    t.job.billedMark = 400 ∧ t.billing.acc.unbanded = 400 ∧
    t.recorder.interval.map (fun i => (i.number, i.top, i.target)) = some (2, 1300, 1500) := by
  decide +kernel

/-! ### Witnesses: the balance -/

/-- The rig with a period under way, a state, strokes of pump 1, and records in the window. -/
def period (state : CircState) (strokes : Nat) (window : List PeriodRecord) : State :=
  withCirc (fun c => { c with
    periodDue := some 5000, state := state, strokes1 := strokes, window := window
    sumR := (window.map PeriodRecord.balance).sum
    sumIn := (window.map fun r => (r.vin : Int)).sum
    sumOut := (window.map PeriodRecord.vout).sum
    flowSum := 100, flowCount := 2 }) (rig .monitor)

/-- A record of a period. -/
def balanced : PeriodRecord := ⟨100, 90, false, false⟩

theorem witness_windowLaw :
    (period .normal 1 (List.replicate 8 balanced)).windowLaw ∧ (period .blind 1 []).windowLaw ∧
    (period .pumpsOff 1 []).windowLaw ∧ (period .filling 1 (List.replicate 7 balanced)).windowLaw ∧
    (period .filling 1 []).windowLaw := by
  refine ⟨?_, ?_, ?_, ?_, ?_⟩ <;> unfold State.windowLaw State.startModeLegal <;> decide +kernel

theorem witness_PumpedPeriodJoinsTheWindow :
    let s := period .normal 1 (List.replicate 8 balanced)
    let pits : State := { s with
      inputs := s.inputs.set 9 (freshAt 100)
      circ := { s.circ with pits := s.circ.pits.set 0 (some 90) } }
    s.mode ≠ .starting ∧ s.circ.periodDue = some 5000 ∧
    0 < s.circ.strokes1 + s.circ.strokes2 ∧ (withInput 5 50 s).inputs[inFlowOut].state = .fresh ∧
    s.circ.flowCount ≠ 0 ∧ s.inputs[inFlowOut].state ≠ .fresh ∧ pits.pitSet ≠ [] ∧ s.pitSet = [] ∧
    s.circ.heldMean = none ∧ (period .blind 1 []).circ.state = .blind ∧
    s.settings.window ≤ s.circ.window.length := by decide +kernel

theorem witness_NoPumpPeriodClearsTheWindow :
    let s := withCirc (fun c => { c with pumpsOffAt := some 0, flowing := 2 })
      (withInput 5 50 (period .pumpsOff 0 []))
    s.mode ≠ .starting ∧ s.circ.periodDue = some 5000 ∧ s.circ.strokes1 + s.circ.strokes2 = 0 ∧
    s.inputs[inFlowOut].state = .fresh ∧ s.circ.flowCount ≠ 0 ∧
    s.settings.noiseFloor ≤ (max 0 (min (s.circ.flowSum.fdiv (s.circ.flowCount : Int)) 20000)).toNat ∧
    s.circ.pumpsOffAt = some 0 ∧ 0 + 1000 * s.settings.flowback ≤ 30000 ∧ s.circ.state = .pumpsOff ∧
    2 ≤ s.circ.flowing ∧ (period .flowing 0 []).circ.state = .flowing ∧
    (period .normal 0 []).circ.state ≠ .pumpsOff ∧ (period .normal 0 []).circ.state ≠ .flowing := by
  decide +kernel

/-- R32: at the level, one below it, and at half the watch level. -/
theorem witness_EvaluationTakesTheFirstLineThatHolds :
    let th := Thresholds.default
    (0 < th.ratio ∧ (999 : Int) * 100 < 9991 * th.ratio) ∧ ¬((1000 : Int) * 100 < 10000 * th.ratio) ∧
    (th.lossLevel : Int) ≤ 60000 ∧ (59999 : Int) < th.lossLevel ∧ (th.lossWatch : Int) ≤ 20000 ∧
    (19999 : Int) < th.lossWatch ∧ ((th.lossWatch / 2 : Nat) : Int) ≤ 10000 ∧
    (th.gainLevel : Int) ≤ - -60000 ∧ (th.gainWatch : Int) ≤ - -20000 ∧
    ((th.gainWatch / 2 : Nat) : Int) ≤ - -10000 := by decide

theorem witness_PeriodResultIsHandedOn :
    let s : State := { period .filling 1 [] with
      recorder := (drilling 0 500 400).recorder, billing := (drilling 0 500 400).billing }
    let u := { s with pumpCtl := { s.pumpCtl with
      pumps := s.pumpCtl.pumps.set 0 { Pump.afterReset with commanded := 30, notFollowing := 2 } } }
    s.windowLaw ∧ s.mode ≠ .starting ∧ s.circ.periodDue = some 5000 ∧
    s.recorder.interval = some (openAt 0 500) ∧ s.onBottom = false ∧ s.job.state = .opened ∧
    0 < s.circ.strokes1 + s.circ.strokes2 ∧ (period .normal 0 []).circ.strokes1 = 0 ∧
    s.mode = .monitor ∧ (rig .supervised).mode ≠ .monitor ∧ (s.tables.pumps[(0 : PumpId)]).node ≠ 0 ∧
    (u.pumpCtl.pumps[(0 : PumpId)]).commanded < ((12 : Int) - 30).natAbs * 5 ∧
    2 ≤ (u.pumpCtl.pumps[(0 : PumpId)]).notFollowing ∧
    (onBottomAt 980 400 400).onBottom = true ∧
    (onBottomAt 980 400 400).depth.bit ≤ (onBottomAt 980 400 400).depth.hole := by
  exact ⟨witness_windowLaw.2.2.2.2, by decide +kernel⟩

theorem witness_EveryStepKeepsTheWindowLaw :
    (period .filling 1 []).windowLaw ∧
    ∃ t, step { period .filling 1 [] with pending := [.tripReset hdr] } = .next t := by
  exact ⟨witness_windowLaw.2.2.2.2, _, rfl⟩

/-! ### Witnesses: strata, banks, jobs and tickets -/

theorem witness_ClassIsTheFirstMatchingRow :
    let r : ClassRow := ⟨true, 14, 0, 65535, 0, 65535, 0x100#10, 0⟩
    let s : State := { rig .monitor with
      tables := { rigTables with classes := rigTables.classes.set 15 r } }
    let i : Interval := { openAt 0 500 with seconds := 1, wobSum := 100, rpmSum := 100 }
    0 < i.seconds ∧ (openAt 0 500).seconds = 0 ∧ (s.tables.classes[(15 : Fin 16)]).enabled = true ∧
    (∃ m, (closedRecord i 500 s).means = some m ∧ r.piLow ≤ m.pi ∧ m.pi ≤ r.piHigh ∧
      r.trLow ≤ m.tr ∧ m.tr ≤ r.trHigh) ∧
    (∀ n : Fin 10, r.mask[n] = true → (closedRecord i 500 s).interval.flags[n] = r.value[n]) ∧
    (∀ j : Fin 16, j < 15 → (s.tables.classes[j]).enabled = false) ∧ r.code ≤ 14 ∧
    (∀ j : Fin 16, ((rig .monitor).tables.classes[j]).enabled = false) := by
  refine ⟨by decide, by decide, by decide, ⟨⟨100, 0, 100, 0, 30000, 3000, 0⟩, ?_⟩, ?_⟩ <;>
    decide +kernel

theorem drilling_bankLaw (top target hole : Int) : (drilling top target hole).bankLaw := by
  show (Bank.startFilling).law ∧ (Bank.free).law ∧ _
  unfold Bank.law
  exact ⟨by decide, by decide, fun h => nomatch (show BankState.free = .filling from h.2)⟩

theorem witness_AdvanceClosesIntervalsAtTheirTargets :
    let s := drilling 0 500 500
    let full (other : Bank) : State := { s with
      banks := #v[⟨.filling, (List.range 31).map closedOf, true⟩, other]
      recorder := { s.recorder with closedCount := 65533 } }
    s.bankLaw ∧ s.recorder.interval = some (openAt 0 500) ∧ s.recorder.extending = false ∧
    s.recorder.closingMark = false ∧ (openAt 0 500).target ≤ s.depth.hole ∧ 0 < s.settings.step ∧
    s.fillingBank = some 0 ∧ (drilling 0 500 499).depth.hole < (openAt 0 500).target ∧
    (s.banks[(0 : Fin 2)]).records.length < 31 ∧
    ((full .free).banks[(0 : Fin 2)]).records.length = 31 ∧ (full .free).fillingBank = some 0 ∧
    ((full .free).banks[(1 : Fin 2)]).state = .free ∧
    ((full ⟨.full, [closedOf 1], false⟩).banks[(1 : Fin 2)]).state = .full ∧
    (full .free).recorder.closedCount + 1 < 65535 :=
  ⟨drilling_bankLaw 0 500 500, by decide +kernel⟩

/-- The 16th record at the default mark, the 15th below it; and an advance of a recorder that extends, at
the target and below it. -/
theorem witness_AdvanceClosesIntervalsAtTheirTargets_marks :
    let s (n : Nat) (marked : Bool) : State := { drilling 0 500 500 with
      banks := #v[⟨.filling, (List.range n).map closedOf, marked⟩, Bank.free] }
    let m (n : Nat) := (if (s n false).settings.fillMark = 0 then 16 else (s n false).settings.fillMark)
    let longer (bit : Int) : State := { onBottomAt 980 bit 499 with
      recorder := { (drilling 0 500 499).recorder with extending := true } }
    m 15 ≤ (s 15 false).banks[(0 : Fin 2)].records.length + 1 ∧
    (s 14 false).banks[(0 : Fin 2)].records.length + 1 < m 14 ∧
    (s 15 false).banks[(0 : Fin 2)].fillMarked = false ∧
    (s 16 true).banks[(0 : Fin 2)].fillMarked = true ∧
    (longer 500).mode ≠ .starting ∧ (longer 500).onBottom = true ∧
    (longer 500).depth.hole < (longer 500).depth.bit ∧ (longer 500).recorder.extending = true ∧
    (longer 500).recorder.interval = some (openAt 0 500) ∧ (longer 500).recorder.overdue = false ∧
    (openAt 0 500).target ≤ (longer 500).depth.bit ∧
    (openAt 0 501).target > (longer 500).depth.bit ∧
    (onBottomAt 980 500 499).recorder.interval = none := by decide +kernel

/-- R108: at the entry into EXTENDING the overdue mark is set with D at the new target, and not below it. -/
theorem test_overdue_at_the_entry_into_extending :
    let s (hole : Int) : State := boundaryCheck { drilling 0 500 hole with
      banks := #v[⟨.filling, (List.range 31).map closedOf, true⟩, ⟨.full, [closedOf 1], false⟩] }
    (s 1000).recorder.extending = true ∧ (s 1000).recorder.overdue = true ∧
    (s 999).recorder.extending = true ∧ (s 999).recorder.overdue = false ∧
    (s 999).recorder.interval.map Interval.target = some 1000 := by decide +kernel

theorem witness_ReleaseBankFreesTheBankAndEndsTheExtension :
    let fullBank : Bank := ⟨.full, (List.range 32).map closedOf, true⟩
    let s : State := { drilling 0 500 499 with
      banks := #v[fullBank, fullBank]
      recorder := { (drilling 0 500 499).recorder with extending := true } }
    let late : State := { s with
      depth := { s.depth with hole := 500 }, recorder := { s.recorder with overdue := true } }
    let ending : State := withJob (fun j => { j with state := .closing }) { s with
      recorder := { s.recorder with closingMark := true } }
    s.slotOccupied = false ∧ s.mode ≠ .starting ∧ 2 ≤ (2 : Byte).toNat ∧
    (1 : Byte).toNat = (1 : Fin 2).val ∧ (s.banks[(1 : Fin 2)]).state = .full ∧
    (s.banks[(1 - 1 : Fin 2)]).state ≠ .filling ∧ ((drilling 0 500 0).banks[(1 : Fin 2)]).state ≠ .full ∧
    s.job.state = .opened ∧ s.recorder.extending = true ∧ s.recorder.interval = some (openAt 0 500) ∧
    s.recorder.overdue = false ∧ s.depth.hole < (openAt 0 500).target ∧ late.recorder.overdue = true ∧
    (openAt 0 500).top < (openAt 0 500).target ∧ 0 < late.tables.settings.step ∧
    late.recorder.closedCount < 65534 ∧ ending.recorder.closingMark = true ∧
    ending.job.state = .closing ∧ ending.billing.tickets.length < 8 ∧ (rig .monitor).job.state = .noJob := by
  decide +kernel

/-- The ends of an extension at their bounds: the closing mark with a full ticket store, above and at the
interval's top, overdue or not; and an overdue interval that closes as the job's last number. -/
theorem witness_ReleaseBankFreesTheBankAndEndsTheExtension_closing :
    let fullBank : Bank := ⟨.full, (List.range 32).map closedOf, true⟩
    let s (hole : Int) (tickets : Nat) (late : Bool) : State :=
      withJob (fun j => { j with state := .closing }) { drilling 0 500 hole with
        banks := #v[fullBank, fullBank]
        billing := { (drilling 0 500 hole).billing with tickets := (List.range tickets).map ticketOf }
        recorder := { (drilling 0 500 hole).recorder with
          extending := true, closingMark := true, overdue := late } }
    let last : State := { drilling 0 500 500 with
      banks := #v[fullBank, fullBank]
      recorder := { (drilling 0 500 500).recorder with
        extending := true, overdue := true, closedCount := 65534 } }
    (s 499 8 false).recorder.closingMark = true ∧ 8 ≤ (s 499 8 false).billing.tickets.length ∧
    (s 499 7 false).billing.tickets.length < 8 ∧ (openAt 0 500).top < (s 499 8 false).depth.hole ∧
    (s 0 8 false).depth.hole ≤ (openAt 0 500).top ∧ (s 500 7 true).recorder.overdue = true ∧
    (s 499 8 false).job.state = .closing ∧ (doReleaseBank 0 (s 499 8 false)).1.billing.deferred = true ∧
    (doReleaseBank 0 (s 499 7 false)).1.job.state = .closed ∧
    65535 ≤ last.recorder.closedCount + 1 ∧ last.recorder.overdue = true ∧
    last.recorder.closingMark = false ∧ (doReleaseBank 0 last).1.recorder.interval = none := by decide +kernel

theorem witness_JobOpenBeginsAJob :
    let s := rig .monitor
    s.slotOccupied = false ∧ s.mode ≠ .starting ∧ 999999 < (1000000 : BitVec 32).toNat ∧
    ¬((999999 : BitVec 32) = 0 ∨ 999999 < (999999 : BitVec 32).toNat ∨ (1 : BitVec 16) = 0) ∧
    s.job.state = .noJob ∧ (s.banks[0]).state = .free ∧ (s.banks[1]).state = .free ∧
    s.billing.tickets = [] ∧ 0 < (s.tables.settings.step : Int) ∧
    (drilling 0 500 0).job.state = .opened := by decide

theorem witness_JobSuspendResumeAndClose :
    let s := drilling 0 500 400
    let waits : State := { s with recorder := { s.recorder with extending := true } }
    let store : State := { s with
      billing := { s.billing with tickets := (List.range 8).map ticketOf } }
    s.slotOccupied = false ∧ s.mode ≠ .starting ∧ s.bankLaw ∧ s.job.state = .opened ∧
    (withJob (fun j => { j with state := .suspended }) s).job.state = .suspended ∧
    (rig .monitor).job.state = .noJob ∧ waits.recorder.extending = true ∧
    waits.job.closingInterval = false ∧ s.recorder.extending = false ∧ s.fillingBank = some 0 ∧
    s.recorder.interval = some (openAt 0 500) ∧ (openAt 0 500).top < s.depth.hole ∧
    ¬((openAt 400 500).top < s.depth.hole) ∧ s.billing.tickets.length < 8 ∧
    8 ≤ store.billing.tickets.length :=
  ⟨by decide, by decide, drilling_bankLaw 0 500 400, by decide +kernel⟩

/-- A rig with two bands, out of order, and a product; its job is OPEN. -/
def tariffed : State := { drilling 0 500 400 with
  tables := { rigTables with
    tariff := ((rigTables.tariff.set 0 (.band 400 600 2400)).set 1 (.band 300 400 1800)).set 23
      (.product 255 2750) } }

theorem tariffed_law : tariffed.tables.law ∧ tariffed.meterLaw := by
  unfold Tables.law Settings.law State.meterLaw
  refine ⟨⟨by decide, by decide, by decide, by decide, by decide, by decide, by decide +kernel,
    by decide +kernel, ?_, by decide +kernel, by decide⟩, by decide⟩
  intro i
  fin_cases i <;> first | exact trivial | exact ⟨by decide, by decide, by decide⟩

theorem witness_MudAdditionIsJudgedAndAdded :
    let s := tariffed
    s.slotOccupied = false ∧ s.mode ≠ .starting ∧ 1000 < (1001 : BitVec 16).toNat ∧
    ¬((255 : Byte) = 0 ∨ (1000 : BitVec 16) = 0 ∨ 1000 < (1000 : BitVec 16).toNat) ∧
    s.job.state = .opened ∧ s.tables.tariff[(23 : Fin 24)] = .product (255 : Byte).toNat 2750 ∧
    (rig .monitor).job.state ≠ .opened ∧ s.tables.law ∧
    (∀ i : Fin 24, (drilling 0 500 0).tables.tariff[i] = .empty) :=
  ⟨by decide, by decide, by decide, by decide, by decide, by decide, by decide, tariffed_law.1, by decide⟩

theorem witness_FootageIsBilledByTheMillimetre :
    let s := tariffed
    s.tables.law ∧ s.meterLaw ∧
    s.bands = [⟨300, 400, 1800⟩, ⟨400, 600, 2400⟩] ∧ s.bands[(0 : Nat)]? = some ⟨300, 400, 1800⟩ ∧
    s.bands[0 + 1]? = some ⟨400, 600, 2400⟩ ∧ (399999 : Int) < (400 : Int) * 1000 ∧
    ((400 : Int)) * 1000 ≤ 400000 ∧ (0 : Int) < 1 ∧ s.job.billedMark < 1 ∧
    (0 : Int) ≤ s.job.billedMark ∧ (drilling 0 500 400).bands = [] ∧
    s.tables.tariff[(0 : Fin 24)] = .band 400 600 2400 :=
  ⟨tariffed_law.1, tariffed_law.2, by decide +kernel⟩

theorem witness_TicketsTakeAndPriceTheUnbilledAmounts :
    let s := drilling 0 500 400
    let kept : State := { s with banks := #v[⟨.filling, [closedOf 1], false⟩, .free] }
    s.fillingBank = some 0 ∧ (s.banks[(0 : Fin 2)]).records = [] ∧ kept.fillingBank = some 0 ∧
    (kept.banks[(0 : Fin 2)]).records ≠ [] ∧ (rig .monitor).fillingBank = none := by decide +kernel

theorem witness_TicketsAreIssuedDeferredAndReleased :
    let s := drilling 0 500 400
    let store (n : Nat) : State := { s with
      billing := { s.billing with tickets := (List.range n).map ticketOf, deferred := true } }
    let fired : State := { s with billing := { s.billing with cadencePending := true } }
    let at12 := withJob (fun j => { j with metered := 4095 }) s
    let m := at12.job.metered + 1
    s.slotOccupied = false ∧ s.mode ≠ .starting ∧ s.job.state = .opened ∧
    (withJob (fun j => { j with ticketCounter := 65533 }) s).job.ticketCounter < 65534 ∧
    65534 ≤ (withJob (fun j => { j with ticketCounter := 65534 }) s).job.ticketCounter ∧
    (store 7).billing.tickets.length < 8 ∧ ¬((store 8).billing.tickets.length < 8) ∧
    s.billing.cadencePending = false ∧ fired.billing.cadencePending = true ∧
    m % 2 ^ (s.tables.settings.ticketBit + 1) = 2 ^ s.tables.settings.ticketBit ∧ m ≤ 4294967295 ∧
    s.billing.tickets = [] ∧ (store 1).billing.tickets = ticketOf 0 :: [] ∧
    (ticketOf 0).number = (0 : BitVec 16).toNat ∧ (ticketOf 0).number ≠ (1 : BitVec 16).toNat ∧
    (store 1).billing.deferred = true ∧ s.billing.deferred = false := by decide +kernel

theorem witness_TicketsAreIssuedDeferredAndReleased_closing :
    let s := withJob (fun j => { j with state := .closing, closingInterval := true }) (drilling 0 500 400)
    s.job.state = .closing ∧ s.job.closingInterval = true := by decide

/-- A second tick whose cadence fires, with 7 and with 8 tickets held, and one that does not fire. -/
theorem witness_TicketsAreIssuedDeferredAndReleased_tick :
    let s (metered n : Nat) : State := withJob (fun j => { j with metered := metered })
      { drilling 0 500 400 with
        billing := { (drilling 0 500 400).billing with tickets := (List.range n).map ticketOf } }
    (s 4095 7).job.state = .opened ∧ (s 4095 7).mode ≠ .starting ∧
    4096 % 2 ^ ((s 4095 7).tables.settings.ticketBit + 1) = 2 ^ (s 4095 7).tables.settings.ticketBit ∧
    4097 % 2 ^ ((s 4095 7).tables.settings.ticketBit + 1) ≠ 2 ^ (s 4095 7).tables.settings.ticketBit ∧
    (s 4095 7).job.ticketCounter < 65534 ∧ (s 4095 7).billing.tickets.length < 8 ∧
    ¬((s 4095 8).billing.tickets.length < 8) ∧ (secondTickWork (s 4095 7)).billing.tickets.length = 8 ∧
    (secondTickWork (s 4095 8)).billing.deferred = true ∧
    (secondTickWork (s 4096 7)).billing.tickets.length = 7 := by decide +kernel

theorem drilling_recorderLaw : (drilling 0 500 400).recorderLaw := by
  refine ⟨by decide, by decide, ?_, by decide, by decide, by decide⟩
  intro i h
  cases h
  decide

theorem drilling_ticketLaw : (drilling 0 500 400).ticketLaw :=
  ⟨(nomatch ·, ·, ·, ·, ·), (nomatch ·, ·), (nomatch ·, ·), by decide, by decide⟩

theorem witness_EveryStepKeepsTheStoreLaws :
    (drilling 0 500 400).bankLaw ∧ (drilling 0 500 400).meterLaw ∧ (drilling 0 500 400).depthLaw ∧
    Tables.default.settings.law ∧ (drilling 0 500 400).recorderLaw ∧ (drilling 0 500 400).ticketLaw ∧
    ∃ t, step { drilling 0 500 400 with pending := [.jobClose hdr] } = .next t := by
  refine ⟨drilling_bankLaw 0 500 400, ?_, ?_, ?_, drilling_recorderLaw, drilling_ticketLaw, _, rfl⟩
  · unfold State.meterLaw
    decide
  · unfold State.depthLaw
    decide
  · unfold Settings.law
    decide

theorem witness_HoleDepthFallsOnlyByCorrectionOrLoss :
    ∃ t, exec (.depthCorrect hdr 300) (drilling 0 500 400) = .next t ∧ t.depth.hole = 300 :=
  ⟨_, rfl, by decide +kernel⟩

theorem witness_StepTakesFrontCommand :
    ∃ t, step { rig .monitor with pending := [.setTime hdr 9, .identify hdr] } = .next t ∧
      t.mgmt.siteTime = 9 ∧ t.pending = [.identify hdr] := ⟨_, rfl, by decide +kernel, rfl⟩

end Sys2Proof.Tests
end

section
/-! R32's table of the evaluation: one equation per line, each under the failure of the lines above it. -/

namespace Sys2Proof.Machine

variable {th : Thresholds} {before : CircState} {r vin vout : Int}

theorem State.judged_eq (s : State) (before : CircState) :
    s.judged before = evaluate s.tables.thresholds[s.recorder.currentClass] before s.circ.sumR
      s.circ.sumIn s.circ.sumOut := rfl

/-- Line 1: the return ratio. -/
theorem evaluate_of_ratio (ht : 0 < th.ratio ∧ vout * 100 < vin * th.ratio) :
    evaluate th before r vin vout = .totalLoss := if_pos ht

section BelowRatio

variable (ht : ¬(0 < th.ratio ∧ vout * 100 < vin * th.ratio))
include ht

/-- Line 2: the loss level. -/
theorem evaluate_of_lossLevel (hl : (th.lossLevel : Int) ≤ r) :
    evaluate th before r vin vout =
      if before = .lossWatch ∨ before = .loss ∨ before = .totalLoss then .loss else .lossWatch := by
  simp [evaluate, if_neg ht, if_pos hl, or_comm, or_left_comm]

/-- Line 3: the loss watch level. -/
theorem evaluate_of_lossWatch (hl : r < (th.lossLevel : Int)) (hw : (th.lossWatch : Int) ≤ r) :
    evaluate th before r vin vout =
      if before = .loss ∨ before = .totalLoss then .loss else .lossWatch := by
  simp [evaluate, if_neg ht, if_neg hl.not_ge, if_pos hw]

variable (hl : r < (th.lossLevel : Int)) (hw : r < (th.lossWatch : Int))
include hl hw

/-- Line 4: the gain level. -/
theorem evaluate_of_gainLevel (hg : (th.gainLevel : Int) ≤ -r) :
    evaluate th before r vin vout =
      if before = .gainWatch ∨ before = .gain then .gain else .gainWatch := by
  simp [evaluate, if_neg ht, if_neg hl.not_ge, if_neg hw.not_ge, if_pos hg]

/-- Line 5: the gain watch level. -/
theorem evaluate_of_gainWatch (hg : -r < (th.gainLevel : Int)) (hgw : (th.gainWatch : Int) ≤ -r) :
    evaluate th before r vin vout = if before = .gain then .gain else .gainWatch := by
  simp [evaluate, if_neg ht, if_neg hl.not_ge, if_neg hw.not_ge, if_neg hg.not_ge, if_pos hgw]

variable (hg : -r < (th.gainLevel : Int)) (hgw : -r < (th.gainWatch : Int))
include hg hgw

/-- Lines 6 to 8: between the watch levels the state before and half of its side's watch level decide. -/
theorem evaluate_between_watches :
    evaluate th before r vin vout =
      if ((before = .loss ∨ before = .totalLoss) ∨ before = .lossWatch) ∧
          ((th.lossWatch / 2 : Nat) : Int) ≤ r then .lossWatch
      else if (before = .gain ∨ before = .gainWatch) ∧ ((th.gainWatch / 2 : Nat) : Int) ≤ -r then
        .gainWatch
      else .normal := by
  simp only [evaluate, if_neg ht, if_neg hl.not_ge, if_neg hw.not_ge, if_neg hg.not_ge,
    if_neg hgw.not_ge, Bool.or_eq_true, beq_iff_eq]

end BelowRatio

/-- Settles O46: the sums are the window's by definition, and each line of the table is its equation. -/
theorem evaluationTakesTheFirstLineThatHolds :
    Obligations.EvaluationTakesTheFirstLineThatHolds := by
  refine ⟨State.judged_eq, fun th before r vin vout => ⟨evaluate_of_ratio, evaluate_of_lossLevel,
    evaluate_of_lossWatch, fun ht hl hw => ⟨evaluate_of_gainLevel ht hl hw,
      evaluate_of_gainWatch ht hl hw, fun hg hgw => ?_⟩⟩⟩
  rw [evaluate_between_watches ht hl hw hg hgw]
  refine ⟨fun hside hhalf => if_pos ⟨hside, hhalf⟩, fun hloss => ?_⟩
  rw [if_neg hloss]
  exact ⟨fun hside hhalf => if_pos ⟨hside, hhalf⟩, fun hgain => if_neg hgain⟩

end Sys2Proof.Machine
end

section
/-! The rod requests of section 4.7: what a request that runs answers, what the tracker holds and how a
changed string length is taken, then the tests of each request in their order. -/

namespace Sys2Proof.Machine

/-! ### A request that runs (R160, R165) -/

/-- A request that runs is executed, and its reply takes the slot. -/
theorem finish_serve_of_ready {early : Bool} {tag : Byte} {h : ReqHeader} {f : State → State × Reply}
    {s t : State} {a : Reply} (hs : s.ready) (hf : f s = (t, a)) :
    finish (serve early tag h f s) = answers t h tag a := by
  obtain ⟨hslot, hmode⟩ := hs
  simp [finish, answers, serve, hslot, hmode, hf]

section Arms

variable {h : ReqHeader} {slot : Byte} {serial : BitVec 32} {length : BitVec 16} {s : State}
  {t : State} {a : Reply} (hs : s.ready)
include hs

theorem exec_rackPut_of_ready (hr : doRackPut slot.toNat serial.toNat length.toNat s = (t, a)) :
    exec (.rackPut h slot serial length) s = answers t h 32 a :=
  finish_serve_of_ready hs hr

theorem exec_rackTake_of_ready (hr : doRackTake slot.toNat s = (t, a)) :
    exec (.rackTake h slot) s = answers t h 33 a :=
  finish_serve_of_ready hs hr

theorem exec_bhaAdd_of_ready (hr : doBhaAdd serial.toNat length.toNat s = (t, a)) :
    exec (.bhaAdd h serial length) s = answers t h 34 a :=
  finish_serve_of_ready hs hr

theorem exec_bhaRemove_of_ready (hr : doBhaRemove s = (t, a)) :
    exec (.bhaRemove h) s = answers t h 35 a :=
  finish_serve_of_ready hs hr

theorem exec_holdToSlot_of_ready (hr : doHoldToSlot slot.toNat s = (t, a)) :
    exec (.holdToSlot h slot) s = answers t h 36 a :=
  finish_serve_of_ready hs hr

theorem exec_tallyConfirm_of_ready (hr : doTallyConfirm s = (t, a)) :
    exec (.tallyConfirm h) s = answers t h 37 a :=
  finish_serve_of_ready hs hr

end Arms

/-! ### What the tracker holds (R54 to R58) -/

theorem rodFits_eq_false_iff (serial : BitVec 32) (length : BitVec 16) :
    rodFits serial.toNat length.toNat = false ↔
      serial = 0 ∨ 999999 < serial.toNat ∨ length.toNat < 300 ∨ 12000 < length.toNat := by
  have hzero : serial = 0 ↔ serial.toNat = 0 := by simp [BitVec.toNat_eq]
  rw [rodFits, decide_eq_false_iff_not, hzero]
  omega

theorem Tracker.holdsSerial_iff (t : Tracker) (serial : Nat) :
    t.holdsSerial serial = true ↔ ∃ r ∈ t.rods, r.serial = serial := by
  simp [Tracker.holdsSerial]

theorem Tracker.hasRod_iff (t : Tracker) : t.hasRod = true ↔ ∃ r ∈ t.stack, r.kind = .rod := by
  simp [Tracker.hasRod]

/-- Emptying an occupied entry takes exactly its record out of the records of a list of slots. -/
theorem filterMap_perm_of_getElem? {l : List (Option Rod)} {k : Nat} {r : Rod}
    (h : l[k]? = some (some r)) : (l.filterMap id).Perm (r :: (l.set k none).filterMap id) := by
  induction l generalizing k with
  | nil => simp at h
  | cons a l ih =>
    cases k with
    | zero =>
      obtain rfl : a = some r := by simpa using h
      simp
    | succ k =>
      have hperm := ih (k := k) (by simpa using h)
      cases a with
      | none => simpa using hperm
      | some q => simpa using (hperm.cons q).trans (.swap r q _)

/-- A record that leaves its slot leaves the part, and no other does (R72). -/
theorem Tracker.rods_perm_of_slot {t : Tracker} {k : Nat} {r : Rod} (h : t.slot k = some r) :
    t.rods.Perm (r :: (t.setSlot k none).rods) := by
  have hget : t.rack.toList[k]? = some (some r) := by
    simpa [Tracker.slot, Option.getD_eq_iff] using h
  have hrack := filterMap_perm_of_getElem? hget
  simpa [Tracker.rods, Tracker.setSlot, Tracker.held] using
    (hrack.append_right t.stack).append_right t.held.toList

/-- A serial taken out of a slot is free, since no two records share one (R54, R72). -/
theorem Tracker.serial_free_of_slot {t : Tracker} {k : Nat} {r : Rod} (h : t.slot k = some r)
    (hlaw : t.law) : ∀ q ∈ (t.setSlot k none).rods, q.serial ≠ r.serial := by
  obtain ⟨hnodup, -⟩ := hlaw
  have hsplit := ((Tracker.rods_perm_of_slot h).map Rod.serial).nodup_iff.mp hnodup
  intro q hq heq
  exact (List.nodup_cons.mp hsplit).1 (heq ▸ List.mem_map_of_mem hq)

/-- The head of a reply's only part that has no field to be absent (R177). -/
theorem partData_of_presenceMask {fs : List Field} (h : presenceMask fs = 0) :
    partData 0 1 fs = [0, 1, 0, 0] ++ fs.flatMap Field.bytes := by
  rw [partData, h]
  rfl

/-- A removed record's reply is one part with every field present (R72, R74, R177). -/
theorem removedReply_eq (r : Rod) : removedReply r = ⟨.done, [0, 1, 0, 0] ++
    sendNumber 4 false r.serial ++ sendNumber 4 false r.length ++ sendNumber 4 false r.seconds ++
    sendNumber 2 false r.runs⟩ := by
  rw [removedReply, replyWhole, partData_of_presenceMask rfl]
  simp only [List.flatMap_cons, List.flatMap_nil, List.append_nil, List.append_assoc]
  rfl

/-! ### The string length is handed on (R56, R83) -/

theorem takeActivity_stringLength (a : Activity) (s : State) :
    (takeActivity a s).depth.stringLength = s.depth.stringLength := by
  unfold takeActivity
  dsimp only
  split <;> simp

theorem onIndicated_stringLength (old new : Activity) (s : State) :
    (onIndicated old new s).depth.stringLength = s.depth.stringLength := by
  unfold onIndicated
  split
  · exact takeActivity_stringLength new s
  · split <;> simp

theorem reindicate_stringLength (s : State) :
    (reindicate s).depth.stringLength = s.depth.stringLength := by
  unfold reindicate
  split
  · rfl
  · simp [onIndicated_stringLength]

theorem onHoleAdvance_depth (s : State) : (onHoleAdvance s).depth = s.depth :=
  onHoleAdvance_keeps s .depth (by decide)

theorem advanceHole_stringLength (s : State) :
    (advanceHole s).depth.stringLength = s.depth.stringLength := by
  unfold advanceHole
  split
  · simp [onHoleAdvance_depth]
  · rfl

/-- The depth unit's tests leave its string length alone. -/
theorem react_stringLength (s : State) : (react s).depth.stringLength = s.depth.stringLength :=
  (reindicate_stringLength _).trans (advanceHole_stringLength s)

theorem markDepthUncertain_recorder (s : State) :
    (markDepthUncertain s).recorder = s.recorder.marked := rfl

theorem setAnchorUncertain_depth (s : State) :
    (setAnchorUncertain s).depth = { s.depth with anchorUncertain := true } :=
  handUncertain_keeps _ _ .depth (by decide)

/-- A new setting of ANCHOR_UNCERTAIN outside STARTING marks the open interval (R89, R101). -/
theorem setAnchorUncertain_recorder (s : State) : (setAnchorUncertain s).recorder =
    if s.depth.anchorUncertain = false ∧ s.mode ≠ .starting then s.recorder.marked
    else s.recorder := by
  unfold setAnchorUncertain handUncertain
  simp only [Bool.not_eq_true', apply_ite State.recorder, markDepthUncertain_recorder]
  rfl

theorem handLength_tracker (s : State) : (handLength s).tracker = s.tracker :=
  handLength_keeps s .tracker (by decide)

/-- The depth unit holds the tracker's string length once it has been handed on (R56). -/
theorem handLength_stringLength (s : State) :
    (handLength s).depth.stringLength = s.tracker.length := by
  unfold handLength
  split
  · next heq => exact heq.symm
  · dsimp only
    rw [react_stringLength]
    split
    · simp [setAnchorUncertain_depth]
    · rfl

/-- A move of the tracker's records is handed on as R56 and R83 say. -/
theorem handLength_lengthTaken (f : Tracker → Tracker) (s : State) :
    lengthTaken s (handLength (s.onTracker f)) := by
  unfold lengthTaken
  rw [handLength_tracker]
  refine ⟨fun heq => ?_, fun hne => ?_⟩
  · have hsame : handLength (s.onTracker f) = s.onTracker f := if_pos heq
    simp [hsame]
  · refine ⟨_, if_neg hne, ?_⟩
    by_cases hfreeze : s.depth.freeze = none
    · simp [hfreeze, setAnchorUncertain_depth, setAnchorUncertain_recorder, State.mode]
    · simp +contextual [hfreeze]

/-- What BHA ADD and BHA REMOVE do to the string: the stack becomes `stack`, and its length is handed on. -/
theorem handLength_stack (stack : List Rod) (s : State) :
    let t := handLength (s.onTracker fun t => { t with stack := stack })
    t.tracker = { s.tracker with stack := stack } ∧
    t.depth.stringLength = ((stack.map Rod.length).sum : Nat) ∧ lengthTaken s t ∧
    keepsAllBut [.tracker, .depth, .recorder, .banks, .billing, .trunk] s t :=
  ⟨handLength_tracker _, handLength_stringLength _, handLength_lengthTaken _ s, by simp⟩

/-! ### RACK PUT and RACK TAKE (R71, R72) -/

section RackPut

variable {slot serial length : Nat} {s : State}

theorem doRackPut_of_badArgs (h : 63 < slot ∨ rodFits serial length = false) :
    doRackPut slot serial length s = (s, .plain .refusedValue) := if_pos h

variable (hargs : ¬(63 < slot ∨ rodFits serial length = false))
include hargs

theorem doRackPut_of_pending (hcmd : s.tracker.command ≠ none) :
    doRackPut slot serial length s = (s, .plain .refusedState) := by
  simp [doRackPut, hargs, refuse, Option.isSome_iff_ne_none.mpr hcmd]

variable (hcmd : s.tracker.command = none)
include hcmd

theorem doRackPut_of_fullSlot (hslot : s.tracker.slot slot ≠ none) :
    doRackPut slot serial length s = (s, .plain .refusedState) := by
  simp [doRackPut, hargs, hcmd, refuse, Option.isSome_iff_ne_none.mpr hslot]

variable (hslot : s.tracker.slot slot = none)
include hslot

theorem doRackPut_of_heldSerial (hheld : ∃ r ∈ s.tracker.rods, r.serial = serial) :
    doRackPut slot serial length s = (s, .plain .refusedValue) := by
  simp [doRackPut, hargs, hcmd, hslot, refuse, (s.tracker.holdsSerial_iff serial).mpr hheld]

theorem doRackPut_of_freeSerial (hfree : ¬∃ r ∈ s.tracker.rods, r.serial = serial) :
    doRackPut slot serial length s = ({ s with
      tracker := s.tracker.setSlot slot (some ⟨serial, .rod, length, 0, 0⟩) }, .plain .done) := by
  rw [← Tracker.holdsSerial_iff] at hfree
  simp [doRackPut, hargs, hcmd, hslot, hfree, State.onTracker]

end RackPut

section RackTake

variable {slot : Nat} {s : State}

theorem doRackTake_of_badSlot (h : 63 < slot) :
    doRackTake slot s = (s, .plain .refusedValue) := if_pos h

variable (hrange : slot ≤ 63)
include hrange

theorem doRackTake_of_pending (hcmd : s.tracker.command ≠ none) :
    doRackTake slot s = (s, .plain .refusedState) := by
  simp [doRackTake, hrange.not_gt, refuse, Option.isSome_iff_ne_none.mpr hcmd]

variable (hcmd : s.tracker.command = none)
include hcmd

theorem doRackTake_of_emptySlot (hslot : s.tracker.slot slot = none) :
    doRackTake slot s = (s, .plain .refusedState) := by
  simp [doRackTake, hrange.not_gt, hcmd, hslot, refuse]

theorem doRackTake_of_fullSlot {r : Rod} (hslot : s.tracker.slot slot = some r) :
    doRackTake slot s =
      ({ s with tracker := s.tracker.setSlot slot none }, removedReply r) := by
  simp [doRackTake, hrange.not_gt, hcmd, hslot, State.onTracker]

end RackTake

/-! ### BHA ADD and BHA REMOVE (R73, R74) -/

/-- The string is closed to BHA ADD and BHA REMOVE: a handler command is pending, the head is not off with
the hold empty, or a rod stands on the BHA. -/
def Tracker.closedToBha (t : Tracker) : Prop :=
  t.command ≠ none ∨ t.conn ≠ .headOffEmpty ∨ ∃ r ∈ t.stack, r.kind = .rod

/-- The tests of the two BHA requests pass exactly where the string is not closed to them. -/
theorem Tracker.not_closedToBha_iff (t : Tracker) : ¬t.closedToBha ↔
    t.command = none ∧ t.conn = .headOffEmpty ∧ t.hasRod = false := by
  rw [Tracker.closedToBha, ← Tracker.hasRod_iff]
  simp

section BhaAdd

variable {serial length : Nat} {s : State}

theorem doBhaAdd_of_badArgs (h : rodFits serial length = false) :
    doBhaAdd serial length s = (s, .plain .refusedValue) := if_pos h

variable (hargs : rodFits serial length ≠ false)
include hargs

theorem doBhaAdd_of_closed (h : s.tracker.closedToBha ∨ 4 ≤ s.tracker.bhaCount) :
    doBhaAdd serial length s = (s, .plain .refusedState) := by
  rw [doBhaAdd, if_neg hargs]
  by_cases hcmd : s.tracker.command = none
  · have hstring : s.tracker.conn ≠ .headOffEmpty ∨ s.tracker.hasRod = true ∨
        Config.bhaSize ≤ s.tracker.bhaCount := by
      simpa [Tracker.closedToBha, hcmd, Tracker.hasRod_iff, or_assoc, Config.bhaSize] using h
    simp [hcmd, if_pos hstring, refuse]
  · simp [Option.isSome_iff_ne_none.mpr hcmd, refuse]

variable (hopen : ¬s.tracker.closedToBha) (hroom : s.tracker.bhaCount < 4)
include hopen hroom

/-- Past the tests of the arguments and of the string the serial decides. -/
theorem doBhaAdd_of_open : doBhaAdd serial length s =
    if s.tracker.holdsSerial serial = true then (s, .plain .refusedValue)
    else (handLength (s.onTracker fun t =>
      { t with stack := t.stack ++ [⟨serial, .bha, length, 0, 1⟩] }), .plain .done) := by
  obtain ⟨hcmd, hconn, hrod⟩ := s.tracker.not_closedToBha_iff.mp hopen
  have hbha : ¬Config.bhaSize ≤ s.tracker.bhaCount := hroom.not_ge
  simp [doBhaAdd, hargs, hcmd, hconn, hrod, hbha, refuse]

theorem doBhaAdd_of_heldSerial (hheld : ∃ r ∈ s.tracker.rods, r.serial = serial) :
    doBhaAdd serial length s = (s, .plain .refusedValue) := by
  rw [doBhaAdd_of_open hargs hopen hroom, if_pos ((s.tracker.holdsSerial_iff serial).mpr hheld)]

theorem doBhaAdd_of_freeSerial (hfree : ¬∃ r ∈ s.tracker.rods, r.serial = serial) :
    doBhaAdd serial length s = (handLength (s.onTracker fun t =>
      { t with stack := t.stack ++ [⟨serial, .bha, length, 0, 1⟩] }), .plain .done) := by
  rw [doBhaAdd_of_open hargs hopen hroom, if_neg (mt (s.tracker.holdsSerial_iff serial).mp hfree)]

end BhaAdd

theorem doBhaRemove_of_closed {s : State} (h : s.tracker.closedToBha ∨ s.tracker.stack = []) :
    doBhaRemove s = (s, .plain .refusedState) := by
  by_cases hclosed : s.tracker.closedToBha
  · by_cases hcmd : s.tracker.command = none
    · have hstring : s.tracker.conn ≠ .headOffEmpty ∨ s.tracker.hasRod = true := by
        simpa [Tracker.closedToBha, hcmd, Tracker.hasRod_iff] using hclosed
      simp [doBhaRemove, hcmd, if_pos hstring, refuse]
    · simp [doBhaRemove, Option.isSome_iff_ne_none.mpr hcmd, refuse]
  · obtain ⟨hcmd, hconn, hrod⟩ := s.tracker.not_closedToBha_iff.mp hclosed
    simp [doBhaRemove, hcmd, hconn, hrod, Tracker.top, h.resolve_left hclosed, refuse]

/-- With no rod in the string its top entry is a BHA piece, and comes out. -/
theorem doBhaRemove_of_open {s : State} {below : List Rod} {r : Rod} (hopen : ¬s.tracker.closedToBha)
    (hstack : s.tracker.stack = below ++ [r]) : doBhaRemove s =
      (handLength (s.onTracker fun t => { t with stack := below }), removedReply r) := by
  obtain ⟨hcmd, hconn, hrod⟩ := s.tracker.not_closedToBha_iff.mp hopen
  have hkind : r.kind = .bha := by
    have hne : r.kind ≠ .rod := fun hk =>
      hopen (.inr (.inr ⟨r, by simp [hstack], hk⟩))
    cases hk : r.kind with
    | rod => exact absurd hk hne
    | bha => rfl
  simp [doBhaRemove, hcmd, hconn, hrod, Tracker.top, hstack, hkind, State.onTracker]

/-! ### HOLD TO SLOT (R75) -/

/-- A connection state that moves between the two head-off states shows at no pump (R58). -/
theorem handConn_of_headOff {old : Conn} {s : State} (hold : old ≠ .headOn)
    (hnew : s.tracker.conn ≠ .headOn) : handConn old s = s := by
  simp [handConn, hold, hnew]

section HoldToSlot

variable {slot : Nat} {s : State}

theorem doHoldToSlot_of_badSlot (h : 63 < slot) :
    doHoldToSlot slot s = (s, .plain .refusedValue) := if_pos h

theorem doHoldToSlot_of_refused (hrange : slot ≤ 63) (h : s.tracker.command ≠ none ∨
      s.tracker.hold = none ∨ s.tracker.slot slot ≠ none) :
    doHoldToSlot slot s = (s, .plain .refusedState) := by
  rw [doHoldToSlot, if_neg hrange.not_gt]
  by_cases hcmd : s.tracker.command = none
  · cases hhold : s.tracker.hold with
    | none => simp [hcmd, Tracker.held, hhold, refuse]
    | some p =>
      have hslot : s.tracker.slot slot ≠ none := by simpa [hcmd, hhold] using h
      simp [hcmd, Tracker.held, hhold, Option.isSome_iff_ne_none.mpr hslot, refuse]
  · simp [Option.isSome_iff_ne_none.mpr hcmd, refuse]

/-- The record leaves the hold for the slot, and no pump is moved by it. -/
theorem doHoldToSlot_of_holding {r : Rod} {src : Source} (hrange : slot ≤ 63)
    (hcmd : s.tracker.command = none) (hhold : s.tracker.hold = some (r, src))
    (hslot : s.tracker.slot slot = none) :
    doHoldToSlot slot s = ({ s with tracker := { s.tracker.setSlot slot (some r) with
      hold := none
      conn := if s.tracker.conn = .headOffHolding then .headOffEmpty else s.tracker.conn } },
      .plain .done) := by
  simp only [doHoldToSlot, hrange.not_gt, hcmd, Tracker.held, hhold, hslot, Option.map_some,
    Option.isSome_none, if_false, Bool.false_eq_true, Prod.mk.injEq, and_true]
  by_cases hconn : s.tracker.conn = .headOffHolding
  · exact handConn_of_headOff (by simp [hconn]) (by simp [hconn])
  · exact if_pos (if_neg hconn)

end HoldToSlot

/-! ### The statement -/

/-- Settles O34: for each request one equation per test, each under the failure of the tests before it. -/
theorem rodRequestsAreTestedInOrder : Obligations.RodRequestsAreTestedInOrder := by
  refine ⟨fun h slot serial length s hs => ?_, fun h serial length s hs => ?_, fun h slot s hs => ?_⟩
  · have hargs := or_congr_right (a := 63 < slot.toNat) (rodFits_eq_false_iff serial length)
    exact
      ⟨fun hbad => exec_rackPut_of_ready hs (doRackPut_of_badArgs (hargs.mpr hbad)),
       fun hok hcmd => exec_rackPut_of_ready hs (doRackPut_of_pending (mt hargs.mp hok) hcmd),
       fun hok hcmd hslot =>
        exec_rackPut_of_ready hs (doRackPut_of_fullSlot (mt hargs.mp hok) hcmd hslot),
       fun hok hcmd hslot hheld =>
        exec_rackPut_of_ready hs (doRackPut_of_heldSerial (mt hargs.mp hok) hcmd hslot hheld),
       fun hok hcmd hslot hfree =>
        exec_rackPut_of_ready hs (doRackPut_of_freeSerial (mt hargs.mp hok) hcmd hslot hfree),
       fun hbad => exec_rackTake_of_ready hs (doRackTake_of_badSlot hbad),
       fun hrange hcmd => exec_rackTake_of_ready hs (doRackTake_of_pending hrange hcmd),
       fun hrange hcmd hslot =>
        exec_rackTake_of_ready hs (doRackTake_of_emptySlot hrange hcmd hslot),
       fun r hrange hcmd hslot =>
        ⟨removedReply_eq r ▸
          exec_rackTake_of_ready hs (doRackTake_of_fullSlot hrange hcmd hslot),
         Tracker.serial_free_of_slot hslot⟩⟩
  · have hargs := rodFits_eq_false_iff serial length
    refine
      ⟨fun hbad => exec_bhaAdd_of_ready hs (doBhaAdd_of_badArgs (hargs.mpr hbad)),
       fun hok hclosed => exec_bhaAdd_of_ready hs (doBhaAdd_of_closed (mt hargs.mp hok) hclosed),
       fun hok hopen hroom hheld =>
        exec_bhaAdd_of_ready hs (doBhaAdd_of_heldSerial (mt hargs.mp hok) hopen hroom hheld),
       fun hok hopen hroom hfree => ⟨_,
        exec_bhaAdd_of_ready hs (doBhaAdd_of_freeSerial (mt hargs.mp hok) hopen hroom hfree), ?_⟩,
       fun hclosed => exec_bhaRemove_of_ready hs (doBhaRemove_of_closed hclosed),
       fun below r hopen hstack => ⟨_, removedReply_eq r ▸
        exec_bhaRemove_of_ready hs (doBhaRemove_of_open hopen hstack), ?_⟩⟩
    case refine_1 =>
      obtain ⟨htracker, hlength, htaken, hkept⟩ :=
        handLength_stack (s.tracker.stack ++ [⟨serial.toNat, .bha, length.toNat, 0, 1⟩]) s
      exact ⟨htracker, hlength.trans (by simp [Tracker.length]), htaken, hkept⟩
    case refine_2 =>
      obtain ⟨htracker, hlength, htaken, hkept⟩ := handLength_stack below s
      exact ⟨htracker, hlength.trans (by simp [Tracker.length, hstack]), htaken, hkept⟩
  · exact
      ⟨fun hbad => exec_holdToSlot_of_ready hs (doHoldToSlot_of_badSlot hbad),
       fun hrange hrefused =>
        exec_holdToSlot_of_ready hs (doHoldToSlot_of_refused hrange hrefused),
       fun _ _ hrange hcmd hhold hslot =>
        exec_holdToSlot_of_ready hs (doHoldToSlot_of_holding hrange hcmd hhold hslot),
       exec_tallyConfirm_of_ready hs rfl⟩

end Sys2Proof.Machine
end

section
/-! The class of a closed record (R104): what a row's match says of each flag, which row of the table
decides, and a load of a class row, which reaches neither the recorder nor the banks. -/

namespace Sys2Proof.Machine

/-! ### One row (R104) -/

/-- Two sets agree under a mask exactly when they agree on each flag the mask contains. -/
theorem FlagSet.masked_eq_iff (flags value mask : FlagSet) :
    flags &&& mask = value &&& mask ↔ ∀ n : Fin 10, mask[n] = true → flags[n] = value[n] := by
  rw [BitVec.eq_of_getElem_eq_iff]
  refine ⟨fun heq n hn => ?_, fun hagree j hj => ?_⟩
  · have hbit := heq n n.isLt
    rw [Fin.getElem_fin] at hn
    simpa [hn] using hbit
  · cases hm : mask[j] with
    | false => simp [hm]
    | true => simp [hm, show flags[j] = value[j] from hagree ⟨j, hj⟩ hm]

/-- The row as R104 states it: enabled, PI and TR in its spans, and each flag of its mask as in its value. -/
def ClassRow.fits (row : ClassRow) (flags : FlagSet) (means : Option Means) : Prop :=
  row.enabled = true ∧ (∃ m, means = some m ∧ row.piLow ≤ m.pi ∧ m.pi ≤ row.piHigh ∧
    row.trLow ≤ m.tr ∧ m.tr ≤ row.trHigh) ∧
  ∀ n : Fin 10, row.mask[n] = true → flags[n] = row.value[n]

theorem ClassRow.matches_iff (row : ClassRow) (flags : FlagSet) (m : Means) :
    row.matches flags m = true ↔ row.fits flags (some m) := by
  simp [ClassRow.matches, ClassRow.fits, FlagSet.masked_eq_iff, and_assoc]

/-! ### The table (R104) -/

section Table

variable {rows : Vector ClassRow 16} {flags : FlagSet} {m : Means}

theorem classify_of_noMeans : classify rows flags none = 15 := rfl

theorem classify_of_firstFit {k : Fin 16} (hfit : rows[k].fits flags (some m))
    (hfirst : ∀ j, j < k → ¬rows[j].fits flags (some m)) :
    classify rows flags (some m) = Fin.ofNat 16 rows[k].code := by
  have hfind : rows.toList.find? (·.matches flags m) = some rows[k] := by
    refine List.find?_eq_some_iff_getElem.mpr
      ⟨(ClassRow.matches_iff _ _ _).mpr hfit, k, by simp, by simp, fun j hj => ?_⟩
    have hmiss := hfirst ⟨j, hj.trans k.isLt⟩ hj
    simpa [← ClassRow.matches_iff] using hmiss
  simp [classify, hfind]

theorem classify_of_noFit (hnone : ∀ k : Fin 16, ¬rows[k].fits flags (some m)) :
    classify rows flags (some m) = 15 := by
  have hfind : rows.toList.find? (·.matches flags m) = none := by
    refine List.find?_eq_none.mpr fun row hrow => ?_
    obtain ⟨k, hk, rfl⟩ := List.getElem_of_mem hrow
    have hmiss := hnone ⟨k, by simpa using hk⟩
    simpa [← ClassRow.matches_iff] using hmiss
  simp [classify, hfind]

end Table

/-! ### The closed record (R103) -/

section Record

variable {i : Interval} (bottom : Int) (s : State)

theorem closedRecord_cls : (closedRecord i bottom s).cls = classify s.tables.classes
    (closedRecord i bottom s).interval.flags (closedRecord i bottom s).means := rfl

theorem closedRecord_means_of_noSeconds (h : i.seconds = 0) :
    (closedRecord i bottom s).means = none := if_pos h

theorem closedRecord_means_of_seconds (h : 0 < i.seconds) :
    ∃ m, (closedRecord i bottom s).means = some m := ⟨_, if_neg h.ne'⟩

/-- A record without means carries NO_DATA, bit 8 of section 12.3. -/
theorem closedRecord_noData (h : (closedRecord i bottom s).means = none) :
    (closedRecord i bottom s).interval.flags[8] = true := by
  have hflags : (closedRecord i bottom s).interval.flags =
      i.flags ||| flagIf (closedRecord i bottom s).means.isNone flagNoData |||
        flagIf s.mgmt.timeUnset flagTimeUnset := rfl
  rw [hflags, h]
  simp [flagIf, flagNoData]

end Record

/-! ### A later load (R104, R105) -/

/-- A request changes no block but the trunk, where its reply goes, and those its execution changes. -/
theorem serve_keeps {early : Bool} {tag : Byte} {h : ReqHeader} {f : State → State × Reply}
    {s : State} {l : List Block} (hl : [.trunk] ⊆ l) (hf : keepsAllBut l s (f s).1) :
    keepsAllBut l s (serve early tag h f s) := by
  rcases serve_cases s early tag h f with ⟨-, hlost⟩ | ⟨-, -, -, hrefused⟩ | ⟨-, -, hserved⟩
  · simp [hlost]
  · simp [hrefused, hl]
  · simp [hserved, hl, hf]

theorem doLoadClass_keeps (row : Nat) (f : ClassForm) (s : State) :
    keepsAllBut [.tables] s (doLoadClass row f s).1 := by
  unfold doLoadClass
  split
  · simp
  · simp [refuse]

/-- The load of a class row changes the tables and the trunk at most. -/
theorem exec_loadRowStrataClassTable_keeps (h : ReqHeader) (row : Byte) (f : ClassForm) (s : State) :
    ∃ t, exec (.loadRowStrataClassTable h row f) s = .next t ∧ keepsAllBut [.tables, .trunk] s t := by
  have hload := keepsAllBut_mono (l := [.tables, .trunk]) (doLoadClass_keeps row.toNat f s) (by simp)
  exact ⟨_, rfl, (keepsAllBut_transmit _ _ _ (by simp)).mpr (serve_keeps (by simp) hload)⟩

/-- Settles O49: the class is `classify` of the record's own flags and means, which finds the first row
that fits; a load reaches neither the recorder nor the banks. -/
theorem classIsTheFirstMatchingRow : Obligations.ClassIsTheFirstMatchingRow := by
  intro i bottom s
  refine ⟨fun hzero => ?_, fun k hpos hfit hfirst hcode => ?_, fun hpos hnone => ?_, fun h row f => ?_⟩
  · have hmeans := closedRecord_means_of_noSeconds bottom s hzero
    exact ⟨by rw [closedRecord_cls, hmeans, classify_of_noMeans],
      closedRecord_noData bottom s hmeans, hmeans⟩
  · obtain ⟨m, hmeans⟩ := closedRecord_means_of_seconds bottom s hpos
    rw [hmeans] at hfit hfirst
    rw [closedRecord_cls, hmeans, classify_of_firstFit hfit hfirst]
    exact Nat.mod_eq_of_lt (by omega)
  · obtain ⟨m, hmeans⟩ := closedRecord_means_of_seconds bottom s hpos
    rw [hmeans] at hnone
    rw [closedRecord_cls, hmeans, classify_of_noFit hnone]
  · obtain ⟨t, hnext, hkeeps⟩ := exec_loadRowStrataClassTable_keeps h row f s
    exact ⟨t, hnext, hkeeps .recorder (by decide), hkeeps .banks (by decide)⟩

end Sys2Proof.Machine
end

section
/-! The Tariff Table at the cab port: how a load of one of its rows is judged and stored (R131 to R133),
and how MUD ADDITION reads a product's rate in it and charges it (R134, R140). -/

namespace Sys2Proof.Machine

/-- A request that must wait for the end of STARTING is refused there (R165). -/
theorem finish_serve_of_starting {tag : Byte} {h : ReqHeader} {f : State → State × Reply} {s : State}
    (hslot : s.slotOccupied = false) (hmode : s.mode = .starting) :
    finish (serve false tag h f s) = answers s h tag (.plain .refusedState) := by
  simp [finish, answers, serve, hslot, hmode]

/-! ### The row brought into range (R131 test 4, R132) -/

section Stored

variable {f : TariffForm}

theorem tariffStored_of_badKind (hkind : 5 < f.kind.toNat) : tariffStored f = none := by
  unfold tariffStored
  dsimp only
  split
  case h_7 => rfl
  all_goals omega

theorem tariffStored_empty (hkind : f.kind = 0) : tariffStored f = some (.empty, false) := by
  rw [tariffStored, hkind]
  rfl

theorem tariffStored_activity (hkind : f.kind = 1) : tariffStored f =
    if f.key.toNat ≤ 6 then
      some (.activity f.key.toNat (min f.rate.toNat 1000000), decide (1000000 < f.rate.toNat))
    else none := by
  rw [tariffStored, hkind]
  rfl

theorem tariffStored_band (hkind : f.kind = 2) : tariffStored f =
    some (.band (min f.key.toNat 2000) (min f.bandTo.toNat 2000) (min f.rate.toNat 1000000),
      decide (1000000 < f.rate.toNat) || decide (2000 < f.key.toNat) ||
        decide (2000 < f.bandTo.toNat)) := by
  rw [tariffStored, hkind]
  rfl

theorem tariffStored_surcharge (hkind : f.kind = 3) : tariffStored f =
    if f.key.toNat ≤ 15 then
      some (.surcharge f.key.toNat (min f.rate.toNat 300), decide (300 < f.rate.toNat))
    else none := by
  rw [tariffStored, hkind]
  rfl

theorem tariffStored_mudLost (hkind : f.kind = 4) : tariffStored f =
    some (.mudLost (min f.rate.toNat 1000000), decide (1000000 < f.rate.toNat)) := by
  rw [tariffStored, hkind]
  rfl

theorem tariffStored_product (hkind : f.kind = 5) : tariffStored f =
    if 1 ≤ f.key.toNat ∧ f.key.toNat ≤ 255 then
      some (.product f.key.toNat (min f.rate.toNat 1000000), decide (1000000 < f.rate.toNat))
    else none := by
  rw [tariffStored, hkind]
  rfl

end Stored

/-! ### Rows that conflict (R131) -/

section Conflicts

variable (key rate : Nat) (t : Tariff)

theorem Tariff.activity_conflicts_iff :
    (Tariff.activity key rate).conflicts t = true ↔ ∃ q, t = .activity key q := by
  cases t <;> simp [Tariff.conflicts, eq_comm (a := key)]

theorem Tariff.surcharge_conflicts_iff :
    (Tariff.surcharge key rate).conflicts t = true ↔ ∃ q, t = .surcharge key q := by
  cases t <;> simp [Tariff.conflicts, eq_comm (a := key)]

theorem Tariff.mudLost_conflicts_iff :
    (Tariff.mudLost rate).conflicts t = true ↔ ∃ q, t = .mudLost q := by
  cases t <;> simp [Tariff.conflicts]

theorem Tariff.product_conflicts_iff :
    (Tariff.product key rate).conflicts t = true ↔ ∃ q, t = .product key q := by
  cases t <;> simp [Tariff.conflicts, eq_comm (a := key)]

theorem Tariff.band_conflicts_iff (lo hi : Nat) : (Tariff.band lo hi rate).conflicts t = true ↔
    ∃ a b q, t = .band a b q ∧ a < hi ∧ lo < b := by
  cases t with
  | band a b q =>
    simp only [Tariff.conflicts, decide_eq_true_eq, Tariff.band.injEq]
    exact ⟨fun ⟨hlo, hhi⟩ => ⟨a, b, q, ⟨rfl, rfl, rfl⟩, hhi, hlo⟩,
      fun ⟨_, _, _, ⟨rfl, rfl, rfl⟩, hhi, hlo⟩ => ⟨hlo, hhi⟩⟩
  | _ => simp [Tariff.conflicts]

end Conflicts

/-- The indices of the Tariff Table but the loaded one. -/
def otherPlaces (row : Nat) : List (Fin 24) := (List.finRange 24).filter (·.val ≠ row)

/-- The rows in other places are those of the other indices, in their order. -/
theorem State.otherTariffs_eq (s : State) (row : Nat) :
    s.otherTariffs row = (otherPlaces row).map (s.tables.tariff[·]) := by
  have hplaces : s.tables.tariff.toList.zipIdx =
      (List.finRange 24).map fun j => (s.tables.tariff[j], j.val) :=
    List.ext_getElem (by simp) (by simp)
  simp [State.otherTariffs, otherPlaces, hplaces, List.filter_map, Function.comp_def, bne,
    beq_eq_decide]

theorem State.tariffConflict_iff (s : State) (row : Nat) (r : Tariff) :
    s.tariffConflict row r = true ↔
      (∃ j ∈ otherPlaces row, r.conflicts s.tables.tariff[j] = true) ∨
      r.band?.isSome = true ∧
        8 ≤ (otherPlaces row).countP (fun j => (s.tables.tariff[j]).band?.isSome) := by
  rw [State.tariffConflict, State.otherTariffs_eq]
  simp [Function.comp_def]

/-! ### The load, test by test (R131, R133) -/

section Load

variable {row : Nat} {f : TariffForm} {s : State}

theorem doLoadTariff_of_badIndex (hrow : 23 < row) :
    doLoadTariff row f s = (s, .plain .refusedUnknown) := if_pos hrow

variable (hrow : row ≤ 23)
include hrow

theorem doLoadTariff_of_job (hjob : s.jobInProgress = true) :
    doLoadTariff row f s = (s, .plain .refusedState) := by
  rw [doLoadTariff, if_neg hrow.not_gt, if_pos hjob, refuse]

variable (hjob : s.jobInProgress = false)
include hjob

theorem doLoadTariff_of_outOfRange (hstored : tariffStored f = none) :
    doLoadTariff row f s = (s, .plain .refusedValue) := by
  simp [doLoadTariff, hrow.not_gt, hjob, hstored, refuse]

variable {r : Tariff} {changed : Bool} (hstored : tariffStored f = some (r, changed))
include hstored

theorem doLoadTariff_of_emptyBand (hempty : r.isEmptyBand = true) :
    doLoadTariff row f s = (s, .plain .refusedValue) := by
  simp [doLoadTariff, hrow.not_gt, hjob, hstored, hempty, refuse]

theorem doLoadTariff_of_conflict (hconflict : s.tariffConflict row r = true) :
    doLoadTariff row f s = (s, .plain .refusedValue) := by
  simp [doLoadTariff, hrow.not_gt, hjob, hstored, hconflict, refuse]

theorem doLoadTariff_of_fitting (hempty : r.isEmptyBand = false)
    (hfree : s.tariffConflict row r = false) : doLoadTariff row f s =
      ({ s with tables := { s.tables with tariff := s.tables.tariff.setIfInBounds row r } },
        .plain (loadCode changed)) := by
  simp [doLoadTariff, hrow.not_gt, hjob, hstored, hempty, hfree, State.onTables]

end Load

/-! ### The request (R131 to R133, R160) -/

/-- The load puts `r` at its index and changes nothing else; the reply says whether R132 changed a field. -/
def storesTariff (h : ReqHeader) (row : Byte) (f : TariffForm) (s : State) (r : Tariff)
    (changed : Bool) : Prop :=
  ∀ i : Fin 24, row.toNat = i.val → exec (.loadRowTariffTable h row f) s =
    answers { s with tables := { s.tables with tariff := s.tables.tariff.set i r } } h 3
      (.plain (if changed = true then .doneClamped else .done))

section Request

variable {h : ReqHeader} {row : Byte} {f : TariffForm} {s : State}

theorem exec_loadRowTariffTable_of_ready {t : State} {a : Reply} (hs : s.ready)
    (hload : doLoadTariff row.toNat f s = (t, a)) :
    exec (.loadRowTariffTable h row f) s = answers t h 3 a := finish_serve_of_ready hs hload

variable (hs : s.ready) (hrow : row.toNat ≤ 23) (hjob : s.jobInProgress = false)
  {r : Tariff} {changed : Bool} (hstored : tariffStored f = some (r, changed))
include hs hrow hjob hstored

theorem storesTariff_of_fitting (hempty : r.isEmptyBand = false)
    (hfree : ¬s.tariffConflict row.toNat r = true) : storesTariff h row f s r changed := by
  intro i hi
  have hset : s.tables.tariff.setIfInBounds row.toNat r = s.tables.tariff.set i r := by
    simp [hi, Vector.setIfInBounds, Vector.set, Array.setIfInBounds]
  rw [exec_loadRowTariffTable_of_ready hs (doLoadTariff_of_fitting hrow hjob hstored hempty
    (Bool.eq_false_iff.mpr hfree)), hset, loadCode]

/-- A row of a kind other than BAND is judged by the rows `K q` it conflicts with: those of its own key,
or of its own kind for MUD_LOST. -/
theorem loadTariff_judged_of_notBand {K : Nat → Tariff} (hband : r.band? = none)
    (hK : ∀ t, r.conflicts t = true ↔ ∃ q, t = K q) :
    ((∃ j ∈ otherPlaces row.toNat, ∃ q, s.tables.tariff[j] = K q) →
      exec (.loadRowTariffTable h row f) s = answers s h 3 (.plain .refusedValue)) ∧
    ((∀ j ∈ otherPlaces row.toNat, ∀ q, s.tables.tariff[j] ≠ K q) →
      storesTariff h row f s r changed) := by
  have hconflict : s.tariffConflict row.toNat r = true ↔
      ∃ j ∈ otherPlaces row.toNat, ∃ q, s.tables.tariff[j] = K q := by
    simp only [State.tariffConflict_iff, hK, hband, Option.isSome_none, Bool.false_eq_true,
      false_and, or_false]
  have hempty : r.isEmptyBand = false := by
    cases r with
    | band lo hi q => simp [Tariff.band?] at hband
    | _ => rfl
  refine ⟨fun hheld => ?_, fun hfree => ?_⟩
  · exact exec_loadRowTariffTable_of_ready hs
      (doLoadTariff_of_conflict hrow hjob hstored (hconflict.mpr hheld))
  · refine storesTariff_of_fitting hs hrow hjob hstored hempty fun hc => ?_
    obtain ⟨j, hj, q, hq⟩ := hconflict.mp hc
    exact hfree j hj q hq

end Request

/-- Settles O19: the tests of R131 are the branches of the load in their order, and the conflict of a row
is a search of the other places by its kind. -/
theorem loadTariffJudgesAndStoresTheRow : Obligations.LoadTariffJudgesAndStoresTheRow := by
  intro h row f s hslot rate cut lo hi others stores refused
  refine ⟨fun hmode => finish_serve_of_starting hslot hmode,
    fun hmode hrow => exec_loadRowTariffTable_of_ready ⟨hslot, hmode⟩ (doLoadTariff_of_badIndex hrow),
    fun hmode hrow hjob =>
      exec_loadRowTariffTable_of_ready ⟨hslot, hmode⟩ (doLoadTariff_of_job hrow hjob),
    fun hmode hrow hjob => ?_⟩
  have hs : s.ready := ⟨hslot, hmode⟩
  refine ⟨fun hkind => ?badKind, fun hkind => ?empty, fun hkind hkey => ?badActivity,
    fun hkind hkey => ?activity, fun hkind hspan => ?emptyBand, fun hkind hspan => ?band,
    fun hkind hkey => ?badSurcharge, fun hkind hkey => ?surcharge, fun hkind => ?mudLost,
    fun hkind hkey => ?badProduct, fun hkind hlow hhigh => ?product⟩
  case badKind =>
    exact exec_loadRowTariffTable_of_ready hs
      (doLoadTariff_of_outOfRange hrow hjob (tariffStored_of_badKind hkind))
  case empty =>
    refine storesTariff_of_fitting hs hrow hjob (tariffStored_empty hkind) rfl ?_
    simp [State.tariffConflict_iff, Tariff.conflicts, Tariff.band?]
  case badActivity =>
    exact exec_loadRowTariffTable_of_ready hs (doLoadTariff_of_outOfRange hrow hjob
      ((tariffStored_activity hkind).trans (if_neg hkey.not_ge)))
  case activity =>
    exact loadTariff_judged_of_notBand hs hrow hjob
      ((tariffStored_activity hkind).trans (if_pos hkey)) rfl (Tariff.activity_conflicts_iff _ _)
  case emptyBand =>
    exact exec_loadRowTariffTable_of_ready hs
      (doLoadTariff_of_emptyBand hrow hjob (tariffStored_band hkind) (decide_eq_true hspan))
  case band =>
    have hconflict : s.tariffConflict row.toNat (.band lo hi rate) = true ↔
        (∃ j ∈ others, ∃ a b q, s.tables.tariff[j] = .band a b q ∧ a < hi ∧ lo < b) ∨
          8 ≤ others.countP (fun j => (s.tables.tariff[j]).band?.isSome) := by
      simp only [State.tariffConflict_iff, Tariff.band_conflicts_iff, Tariff.band?,
        Option.isSome_some, true_and]
      rfl
    refine ⟨fun hheld => ?_, fun hapart hroom => ?_⟩
    · exact exec_loadRowTariffTable_of_ready hs
        (doLoadTariff_of_conflict hrow hjob (tariffStored_band hkind) (hconflict.mpr hheld))
    · refine storesTariff_of_fitting hs hrow hjob (tariffStored_band hkind)
        (decide_eq_false hspan.not_ge) fun hc => ?_
      rcases hconflict.mp hc with ⟨j, hj, a, b, q, hq, hahi, hlob⟩ | hfull
      · have := hapart j hj a b q hq
        omega
      · exact hfull.not_gt hroom
  case badSurcharge =>
    exact exec_loadRowTariffTable_of_ready hs (doLoadTariff_of_outOfRange hrow hjob
      ((tariffStored_surcharge hkind).trans (if_neg hkey.not_ge)))
  case surcharge =>
    exact loadTariff_judged_of_notBand hs hrow hjob
      ((tariffStored_surcharge hkind).trans (if_pos hkey)) rfl (Tariff.surcharge_conflicts_iff _ _)
  case mudLost =>
    exact loadTariff_judged_of_notBand hs hrow hjob (tariffStored_mudLost hkind) rfl
      (Tariff.mudLost_conflicts_iff _)
  case badProduct =>
    exact exec_loadRowTariffTable_of_ready hs (doLoadTariff_of_outOfRange hrow hjob
      ((tariffStored_product hkind).trans (if_neg hkey)))
  case product =>
    exact loadTariff_judged_of_notBand hs hrow hjob
      ((tariffStored_product hkind).trans (if_pos ⟨hlow, hhigh⟩)) rfl
      (Tariff.product_conflicts_iff _ _)

/-! ### The rate of a product (R134) -/

section ProductRate

variable {s : State} {p : Nat}

/-- A rate that the table gives for a product stands in a row of that product. -/
theorem State.exists_row_of_productRate {q : Nat} (hrate : s.productRate p = some q) :
    ∃ i : Fin 24, s.tables.tariff[i] = .product p q := by
  obtain ⟨t, ht, hq⟩ := List.exists_of_findSome?_eq_some hrate
  obtain ⟨k, hk, rfl⟩ := List.getElem_of_mem ht
  refine ⟨⟨k, by simpa using hk⟩, ?_⟩
  split at hq
  case h_1 c r hrow =>
    obtain ⟨rfl, rfl⟩ : c = p ∧ r = q := by simpa using hq
    simpa using hrow
  case h_2 => cases hq

theorem State.productRate_of_noRow
    (hnone : ∀ (i : Fin 24) (r : Nat), s.tables.tariff[i] ≠ .product p r) :
    s.productRate p = none := by
  refine Option.eq_none_iff_forall_ne_some.mpr fun q hrate => ?_
  obtain ⟨i, hi⟩ := State.exists_row_of_productRate hrate
  exact hnone i q hi

/-- No two rows of a stored table conflict, so a product's row is the one that gives its rate. -/
theorem State.productRate_of_row (hlaw : s.tables.law) {i : Fin 24} {r : Nat}
    (hrow : s.tables.tariff[i] = .product p r) : s.productRate p = some r := by
  obtain ⟨-, -, -, -, -, -, -, -, -, hapart, -⟩ := hlaw
  cases hrate : s.productRate p with
  | none =>
    have hmiss := List.findSome?_eq_none_iff.mp hrate _
      (Vector.mem_toList_iff.mpr (Vector.getElem_mem i.isLt))
    rw [← Fin.getElem_fin, hrow] at hmiss
    simp at hmiss
  | some q =>
    obtain ⟨j, hj⟩ := State.exists_row_of_productRate hrate
    have hij : i = j := by
      by_contra hne
      have := hapart i j hne
      simp [hrow, hj, Tariff.conflicts] at this
    subst hij
    simpa [hrow, eq_comm] using hj

end ProductRate

/-! ### MUD ADDITION (R140) -/

section MudAddition

variable {code quantity : Nat} {s : State}

theorem doMudAddition_of_badArgs
    (hbad : code < 1 ∨ 255 < code ∨ quantity < 1 ∨ 1000 < quantity) :
    doMudAddition code quantity s = (s, .plain .refusedValue) := if_pos hbad

variable (hargs : ¬(code < 1 ∨ 255 < code ∨ quantity < 1 ∨ 1000 < quantity))
include hargs

theorem doMudAddition_of_notOpened (hjob : s.job.state ≠ .opened) :
    doMudAddition code quantity s = (s, .plain .refusedState) := by
  rw [doMudAddition, if_neg hargs, if_pos hjob, refuse]

variable (hjob : s.job.state = .opened)
include hjob

theorem doMudAddition_of_unknownProduct (hrate : s.productRate code = none) :
    doMudAddition code quantity s = (s, .plain .refusedValue) := by
  rw [doMudAddition, if_neg hargs, if_neg (not_not_intro hjob), hrate]
  rfl

theorem doMudAddition_of_product {r : Nat} (hrate : s.productRate code = some r) :
    doMudAddition code quantity s = ({ s with billing := { s.billing with
      acc := { s.billing.acc with
        products := min 281474976710655 (s.billing.acc.products + quantity * r)
        additions := min 65535 (s.billing.acc.additions + 1) } } }, .plain .done) := by
  rw [doMudAddition, if_neg hargs, if_neg (not_not_intro hjob), hrate]
  rfl

end MudAddition

theorem exec_mudAddition_of_ready {h : ReqHeader} {code : Byte} {quantity : BitVec 16} {s t : State}
    {a : Reply} (hs : s.ready) (hadd : doMudAddition code.toNat quantity.toNat s = (t, a)) :
    exec (.mudAddition h code quantity) s = answers t h 77 a := finish_serve_of_ready hs hadd

/-- A code of the frame is a byte, so the upper bound of the first test holds of itself (R140). -/
theorem mudAddition_badArgs_iff (code : Byte) (quantity : BitVec 16) :
    (code.toNat < 1 ∨ 255 < code.toNat ∨ quantity.toNat < 1 ∨ 1000 < quantity.toNat) ↔
      (code = 0 ∨ quantity = 0 ∨ 1000 < quantity.toNat) := by
  bv_omega

/-- Settles O54: one equation per test of R140; the law of the tables makes the product's row the one
whose rate is charged. -/
theorem mudAdditionIsJudgedAndAdded : Obligations.MudAdditionIsJudgedAndAdded := by
  intro h code quantity s hs hlaw argsBad refused
  have hargs := mudAddition_badArgs_iff code quantity
  exact ⟨fun hbad => exec_mudAddition_of_ready hs (doMudAddition_of_badArgs (hargs.mpr hbad)),
    fun hok hjob => exec_mudAddition_of_ready hs (doMudAddition_of_notOpened (mt hargs.mp hok) hjob),
    fun hok hjob hnone => exec_mudAddition_of_ready hs (doMudAddition_of_unknownProduct
      (mt hargs.mp hok) hjob (State.productRate_of_noRow hnone)),
    fun _ _ hok hjob hrow => exec_mudAddition_of_ready hs (doMudAddition_of_product
      (mt hargs.mp hok) hjob (State.productRate_of_row hlaw hrow))⟩

end Sys2Proof.Machine
end

section
/-! Frames and numbers on the wire (section 12.1, R153): numbers and their bytes, the arrival check and
the frames it takes. -/

namespace Sys2Proof

/-! ### Numbers and their bytes (chapter 12) -/

@[simp] theorem bytesOfNat_length (w n : Nat) : (bytesOfNat w n).length = w := by
  induction w with
  | zero => rfl
  | succ w ih => simp [bytesOfNat, ih]

@[simp] theorem natOfBytes_nil : natOfBytes [] = 0 := rfl

theorem foldl_bytes_eq (bs : List Byte) (n : Nat) :
    bs.foldl (fun n b => n * 256 + b.toNat) n = n * 256 ^ bs.length + natOfBytes bs := by
  induction bs generalizing n with
  | nil => simp
  | cons b bs ih =>
    simp only [natOfBytes, List.foldl_cons, List.length_cons] at ih ⊢
    rw [ih, ih (0 * 256 + b.toNat)]
    ring

/-- The first byte of a number is its most significant one. -/
theorem natOfBytes_cons (b : Byte) (bs : List Byte) :
    natOfBytes (b :: bs) = b.toNat * 256 ^ bs.length + natOfBytes bs := by
  rw [natOfBytes, List.foldl_cons, foldl_bytes_eq]
  simp

theorem natOfBytes_lt (bs : List Byte) : natOfBytes bs < 256 ^ bs.length := by
  induction bs with
  | nil => simp
  | cons b bs ih =>
    have hb : b.toNat < 256 := b.isLt
    rw [natOfBytes_cons, List.length_cons, pow_succ]
    nlinarith [Nat.mul_le_mul_right (256 ^ bs.length) hb]

theorem natOfBytes_bytesOfNat (w n : Nat) : natOfBytes (bytesOfNat w n) = n % 256 ^ w := by
  induction w with
  | zero => simp [bytesOfNat, Nat.mod_one]
  | succ w ih =>
    rw [bytesOfNat, natOfBytes_cons, ih, bytesOfNat_length, BitVec.toNat_ofNat, pow_succ 256 w,
      Nat.mod_mul, Nat.mul_comm, Nat.add_comm]

theorem natOfBytes_bytesOfNat_of_lt {w n : Nat} (h : n < 256 ^ w) :
    natOfBytes (bytesOfNat w n) = n := by
  rw [natOfBytes_bytesOfNat, Nat.mod_eq_of_lt h]

/-- Only the bytes a number is sent in count. -/
theorem bytesOfNat_add_mul (w n m : Nat) : bytesOfNat w (m * 256 ^ w + n) = bytesOfNat w n := by
  induction w generalizing m with
  | zero => rfl
  | succ w ih =>
    have hpow : m * 256 ^ (w + 1) + n = m * 256 * 256 ^ w + n := by rw [pow_succ]; ring
    have hdiv : (m * 256 * 256 ^ w + n) / 256 ^ w = n / 256 ^ w + 2 ^ 8 * m := by
      rw [add_comm, Nat.add_mul_div_right _ _ (by positivity)]
      ring
    rw [bytesOfNat, bytesOfNat, hpow, ih, hdiv]
    congr 1
    exact BitVec.eq_of_toNat_eq (by simp)

theorem bytesOfNat_natOfBytes (bs : List Byte) : bytesOfNat bs.length (natOfBytes bs) = bs := by
  induction bs with
  | nil => rfl
  | cons b bs ih =>
    have hdiv : (b.toNat * 256 ^ bs.length + natOfBytes bs) / 256 ^ bs.length = b.toNat := by
      rw [add_comm, Nat.add_mul_div_right _ _ (by positivity), Nat.div_eq_of_lt (natOfBytes_lt bs),
        zero_add]
    rw [List.length_cons, bytesOfNat, natOfBytes_cons, bytesOfNat_add_mul, ih, hdiv]
    simp

/-! ### The fields of the head -/

theorem FrameKind.ofCode_code (k : FrameKind) : FrameKind.ofCode k.code = some k := by
  cases k <;> rfl

theorem FrameKind.code_of_ofCode {b : Byte} {k : FrameKind} (h : FrameKind.ofCode b = some k) :
    k.code = b := by
  have hrange : b.toNat < 7 := by
    by_contra hbig
    unfold FrameKind.ofCode at h
    split at h <;> first | omega | exact absurd h nofun
  have hall : ∀ n : Fin 7, ∀ k, FrameKind.ofCode (BitVec.ofNat 8 n) = some k →
      k.code = BitVec.ofNat 8 n := by decide
  simpa using hall ⟨b.toNat, hrange⟩ k (by simpa using h)

theorem addrOfByte_ofNat (a : Addr) : addrOfByte (BitVec.ofNat 8 a.val) = some a := by
  have hlt : a.val < 64 := a.isLt
  have hnat : (BitVec.ofNat 8 a.val).toNat = a.val := by
    rw [BitVec.toNat_ofNat]; omega
  simp [addrOfByte, hnat]

theorem ofNat_of_addrOfByte {b : Byte} {a : Addr} (h : addrOfByte b = some a) :
    BitVec.ofNat 8 a.val = b := by
  unfold addrOfByte at h
  split at h
  · cases h; simp
  · cases h

/-! ### The arrival check (R153) -/

@[simp] theorem Frame.body_length (f : Frame) : f.body.length = f.payload.length + 6 := rfl

/-- The bytes of a frame by its six bytes of head, its payload and its check. -/
theorem Frame.bytes_eq (f : Frame) :
    f.bytes = BitVec.ofNat 8 f.dest.val :: BitVec.ofNat 8 f.src.val :: f.kind.code :: f.tag :: f.seq ::
      BitVec.ofNat 8 f.payload.length :: (f.payload ++ bytesOfNat 2 (crc16 f.body).toNat) := rfl

theorem crc16_two_bytes (bs : List Byte) :
    natOfBytes (bytesOfNat 2 (crc16 bs).toNat) = (crc16 bs).toNat :=
  natOfBytes_bytesOfNat_of_lt (crc16 bs).isLt

/-- The arrival check reads back every frame with a payload the part can carry. -/
theorem parseFrame_bytes {f : Frame} (hlen : f.payload.length ≤ 48) : parseFrame f.bytes = some f := by
  have hcount : (BitVec.ofNat 8 f.payload.length).toNat = f.payload.length := by
    rw [BitVec.toNat_ofNat]; omega
  rw [Frame.bytes_eq, parseFrame]
  simp only [hcount, Config.maxPayload, hlen, List.length_append, bytesOfNat_length, true_and,
    if_true, addrOfByte_ofNat, FrameKind.ofCode_code, List.take_left, List.drop_left, crc16_two_bytes]
  exact if_pos rfl

/-- A byte sequence the arrival check takes is the wire form of its frame. -/
theorem bytes_of_parseFrame {bytes : List Byte} {f : Frame} (h : parseFrame bytes = some f) :
    f.bytes = bytes ∧ f.payload.length ≤ 48 := by
  unfold parseFrame at h
  split at h
  case h_2 => cases h
  case h_1 d s k tag seq len rest =>
    split at h
    case isFalse => cases h
    case isTrue hlen =>
      obtain ⟨hmax, hrest⟩ := hlen
      split at h
      case h_2 => cases h
      case h_1 dest src kind hd hs hk =>
        dsimp only at h
        split at h
        case isFalse => cases h
        case isTrue hcrc =>
          cases h
          have htake : (rest.take len.toNat).length = len.toNat := by simp [hrest]
          refine ⟨?_, htake.trans_le hmax⟩
          have hcheck : bytesOfNat 2 (natOfBytes (rest.drop len.toNat)) = rest.drop len.toNat := by
            have := bytesOfNat_natOfBytes (rest.drop len.toNat)
            simpa [hrest] using this
          simp only [Frame.bytes_eq, Frame.body, ofNat_of_addrOfByte hd, ofNat_of_addrOfByte hs,
            FrameKind.code_of_ofCode hk, htake, BitVec.ofNat_toNat, BitVec.setWidth_eq, ← hcrc, hcheck,
            List.take_append_drop]

/-- Settles O5: the check reads its own frames, and takes the wire form of what it reads. -/
theorem frameBytesRoundTrip : Obligations.FrameBytesRoundTrip :=
  ⟨fun _ => parseFrame_bytes, fun _ _ => bytes_of_parseFrame⟩

end Sys2Proof
end

section
/-! A request row and its REQUEST frame are one event (sections 12.1, 12.2, 12.4, R165): the argument
forms are read back from their bytes, and the frame is served as its row. -/

namespace Sys2Proof

/-! ### Fields of a payload -/

/-- A field past the first byte is a field of what follows it. -/
@[simp] theorem fieldAt_cons_succ (b : Byte) (p : List Byte) (o w : Nat) :
    fieldAt (b :: p) (o + 1) w = fieldAt p o w := rfl

@[simp] theorem fieldAt_cons_zero (b : Byte) (p : List Byte) : fieldAt (b :: p) 0 1 = b := by
  simp [fieldAt, natOfBytes]

/-- A field past a number is a field of what follows it. -/
@[simp] theorem fieldAt_number_append_of_le {k o : Nat} (h : k ≤ o) (n w : Nat) (p : List Byte) :
    fieldAt (bytesOfNat k n ++ p) o w = fieldAt p (o - k) w := by
  rw [fieldAt, List.drop_append, bytesOfNat_length,
    List.drop_eq_nil_of_le ((bytesOfNat_length k n).trans_le h), List.nil_append]
  rfl

@[simp] theorem fieldAt_number_append (w n : Nat) (p : List Byte) :
    fieldAt (bytesOfNat w n ++ p) 0 w = BitVec.ofNat (8 * w) n := by
  have htake : (bytesOfNat w n ++ p).take w = bytesOfNat w n :=
    List.take_left' (bytesOfNat_length w n)
  have hpow : 256 ^ w = 2 ^ (8 * w) := by rw [pow_mul]; rfl
  rw [fieldAt, List.drop_zero, htake, natOfBytes_bytesOfNat, hpow]
  exact BitVec.eq_of_toNat_eq (by simp)

@[simp] theorem fieldAt_number (w n : Nat) : fieldAt (bytesOfNat w n) 0 w = BitVec.ofNat (8 * w) n := by
  simpa using fieldAt_number_append w n []

/-! ### The row forms read back from their bytes (section 12.4) -/

@[simp] theorem SettingsForm.ofBytes_bytes (f : SettingsForm) : ofBytes f.bytes = f := by
  simp [ofBytes, SettingsForm.bytes]

@[simp] theorem ChannelForm.ofBytes_bytes (f : ChannelForm) : ofBytes f.bytes = f := by
  simp [ofBytes, ChannelForm.bytes]

@[simp] theorem PumpForm.ofBytes_bytes (f : PumpForm) : ofBytes f.bytes = f := by
  simp [ofBytes, PumpForm.bytes]

@[simp] theorem LimitsForm.ofBytes_bytes (f : LimitsForm) : ofBytes f.bytes = f := by
  simp [ofBytes, LimitsForm.bytes]

@[simp] theorem ThresholdForm.ofBytes_bytes (f : ThresholdForm) : ofBytes f.bytes = f := by
  simp [ofBytes, ThresholdForm.bytes]

@[simp] theorem ClassForm.ofBytes_bytes (f : ClassForm) : ofBytes f.bytes = f := by
  simp [ofBytes, ClassForm.bytes]

@[simp] theorem TariffForm.ofBytes_bytes (f : TariffForm) : ofBytes f.bytes = f := by
  simp [ofBytes, TariffForm.bytes]

@[simp] theorem SettingsForm.bytes_length (f : SettingsForm) : f.bytes.length = 12 := by
  simp [SettingsForm.bytes]

@[simp] theorem ChannelForm.bytes_length (f : ChannelForm) : f.bytes.length = 26 := by
  simp [ChannelForm.bytes]

@[simp] theorem PumpForm.bytes_length (f : PumpForm) : f.bytes.length = 7 := by
  simp [PumpForm.bytes]

@[simp] theorem LimitsForm.bytes_length (f : LimitsForm) : f.bytes.length = 16 := by
  simp [LimitsForm.bytes]

@[simp] theorem ThresholdForm.bytes_length (f : ThresholdForm) : f.bytes.length = 17 := by
  simp [ThresholdForm.bytes]

@[simp] theorem ClassForm.bytes_length (f : ClassForm) : f.bytes.length = 14 := by
  simp [ClassForm.bytes]

@[simp] theorem TariffForm.bytes_length (f : TariffForm) : f.bytes.length = 9 := by
  simp [TariffForm.bytes]

/-- Every request row's argument form is short enough for a frame. -/
theorem Instr.request_payload_length {c : Instr} {h : ReqHeader} {code : Byte} {p : List Byte}
    (hc : c.request = some (h, code, p)) : p.length ≤ 48 := by
  cases c <;> simp only [Instr.request, reduceCtorEq, Option.some.injEq, Prod.mk.injEq] at hc <;>
    obtain ⟨-, -, rfl⟩ := hc <;> simp

end Sys2Proof

namespace Sys2Proof.Machine

/-! ### Arrival at the cab port (R155) -/

theorem State.isOwnAddress_iff (s : State) (a : Addr) :
    s.isOwnAddress a = true ↔ a.val = 63 ∨ a = s.trunkAddr := by
  simp [State.isOwnAddress, or_comm]

theorem cabBytes_bytes {f : Frame} (hlen : f.payload.length ≤ 48) (s : State) :
    cabBytes f.bytes s = cabArrival f s := by
  rw [cabBytes, parseFrame_bytes hlen]

theorem fieldBytes_bytes {f : Frame} (hlen : f.payload.length ≤ 48) (s : State) :
    fieldBytes f.bytes s = fieldArrival f s := by
  rw [fieldBytes, parseFrame_bytes hlen]

theorem exec_cabFrame_bytes {f : Frame} (hlen : f.payload.length ≤ 48) (s : State) :
    exec (.cabFrame f.bytes) s = finish (cabArrival f s) := congrArg finish (cabBytes_bytes hlen s)

theorem exec_fieldFrame_bytes {f : Frame} (hlen : f.payload.length ≤ 48) (s : State) :
    exec (.fieldFrame f.bytes) s = finish (fieldArrival f s) :=
  congrArg finish (fieldBytes_bytes hlen s)

/-- A REQUEST frame for the part goes to Management. -/
theorem cabArrival_request {f : Frame} {s : State} (hdest : f.dest.val = 63 ∨ f.dest = s.trunkAddr)
    (hkind : f.kind = .request) : cabArrival f s = serveFrame f s := by
  rw [cabArrival, if_pos ((s.isOwnAddress_iff _).mpr hdest), if_pos hkind]

/-! ### A request row and its frame (R165) -/

@[simp] theorem withForm_of_length {p : List Byte} {n : Nat} (h : p.length = n) (f : Service) :
    withForm p n f = f := if_pos h

@[simp] theorem argAt_eq (p : List Byte) (o w : Nat) : argAt p o w = (fieldAt p o w).toNat := rfl

/-- The frame of a request row is served as the row is: one case per row of the table, its arguments
read back from the payload. -/
theorem finish_serveFrame_request {c : Instr} {h : ReqHeader} {code : Byte} {p : List Byte}
    (hc : c.request = some (h, code, p)) (dest : Addr) (s : State) :
    finish (serveFrame ⟨dest, h.src, .request, code, h.seq, p⟩ s) = exec c s := by
  cases c <;> simp only [Instr.request, reduceCtorEq, Option.some.injEq, Prod.mk.injEq] at hc <;>
    obtain ⟨rfl, rfl, rfl⟩ := hc <;>
    simp [serveFrame, serviceOf, loadRowService, runsInStarting] <;> rfl

theorem exec_cabFrame_of_request {c : Instr} {dest : Addr} {f : Frame} {s : State}
    (hf : c.requestFrame dest = some f) (hdest : dest.val = 63 ∨ dest = s.trunkAddr) :
    exec (.cabFrame f.bytes) s = exec c s := by
  obtain ⟨⟨h, code, p⟩, hc, rfl⟩ := Option.map_eq_some_iff.mp hf
  rw [exec_cabFrame_bytes (Instr.request_payload_length hc), cabArrival_request hdest rfl]
  exact finish_serveFrame_request hc dest s

theorem cabSetpoint_eq_cabBytes (dest src : Addr) (tag seq : Byte) {payload : List Byte}
    (hlen : payload.length ≤ 48) (s : State) :
    cabSetpoint dest src tag seq payload s =
      cabBytes (Frame.bytes ⟨dest, src, .setpoint, tag, seq, payload⟩) s := by
  rw [cabBytes_bytes hlen]
  exact if_pos hlen

/-- Settles O7: the frame of a row is parsed back and its arguments read back. -/
theorem framesAreTheirRows : Obligations.FramesAreTheirRows :=
  ⟨fun _ _ _ _ => exec_cabFrame_of_request, fun dest src tag seq _ s hlen =>
    ⟨congrArg finish (cabSetpoint_eq_cabBytes dest src tag seq hlen s),
     congrArg finish (cabSetpoint_eq_cabBytes dest src tag seq hlen s)⟩⟩

end Sys2Proof.Machine
end

section
/-! Everything an event can be: the work of each command before the transmitters choose, and the state
changes of the requests with the tests each has passed. Every invariant is proved over these two lists. -/

namespace Sys2Proof.Machine

/-! ### The state changes of the requests (chapter 12.2) -/

/-- The state change of an executed request of the given code that changes more than the notice-overflow
flag, with the tests it has passed. -/
inductive RequestEffect (s : State) : Nat → State → Prop
  | loadSettings (f : SettingsForm) (mode : Mode) (hmode : startModeOf f.startMode = some mode) :
    RequestEffect s 3 (storeSettings (settingsLoaded f mode).inRange s)
  | loadChannel (i : InputId) (f : ChannelForm) (hfits : s.channelFits i (channelLoaded f) = true) :
    RequestEffect s 3 (storeChannel i ((channelLoaded f).inRange i) s)
  | loadPump (p : PumpId) (f : PumpForm) (hfits : s.pumpNodeFits p (pumpLoaded f).node = true) :
    RequestEffect s 3 (storePump p (pumpLoaded f).inRange s)
  | loadLimits (f : LimitsForm) (hfits : s.handlerFits (limitsLoaded f).handler = true) :
    RequestEffect s 3 (storeLimits (limitsLoaded f).inRange s)
  | loadThresholds (row : Nat) (f : ThresholdForm) :
    RequestEffect s 3 (s.onTables fun t =>
      { t with thresholds := t.thresholds.setIfInBounds row (thresholdsLoaded f).inRange })
  | loadClass (row : Nat) (f : ClassForm) :
    RequestEffect s 3 (s.onTables fun t =>
      { t with classes := t.classes.setIfInBounds row (classStored f) })
  | loadTariff (row : Nat) (f : TariffForm) (r : Tariff) (changed : Bool)
      (hjob : s.jobInProgress = false) (hstored : tariffStored f = some (r, changed))
      (hspan : r.isEmptyBand = false) (hfree : s.tariffConflict row r = false) :
    RequestEffect s 3 (s.onTables fun t => { t with tariff := t.tariff.setIfInBounds row r })
  | clearTables (hjob : s.jobInProgress = false) :
    RequestEffect s 5 (react (clearByLoad true (storeDefaults s)))
  | standby (hmode : s.mode ≠ .standby) : RequestEffect s 6 (react (goStandby s))
  | setMode (m : Mode) (hm : m = .monitor ∨ m = .supervised) (hmode : s.mode ≠ m) :
    RequestEffect s 6 (react (changeMode m (wake .request s)))
  | setTime (t : BitVec 32) :
    RequestEffect s 7 (s.onMgmt fun m => { m with siteTime := t, timeUnset := false })
  | restart : RequestEffect s 8 (s.onMgmt fun m => { m with restartDue := true })
  | tripReset (hbled : s.pressureBled = true) : RequestEffect s 24 (resetTrip s)
  | rackPut (slot serial length : Nat) (hfits : rodFits serial length = true)
      (hempty : (s.tracker.slot slot).isSome = false) (hserial : s.tracker.holdsSerial serial = false) :
    RequestEffect s 32
      (s.onTracker fun t => t.setSlot slot (some ⟨serial, .rod, length, 0, 0⟩))
  | rackTake (slot : Nat) : RequestEffect s 33 (s.onTracker fun t => t.setSlot slot none)
  | bhaAdd (serial length : Nat) (hfits : rodFits serial length = true)
      (hrod : s.tracker.hasRod = false) (hroom : s.tracker.bhaCount < Config.bhaSize)
      (hserial : s.tracker.holdsSerial serial = false) :
    RequestEffect s 34 (handLength (s.onTracker fun t =>
      { t with stack := t.stack ++ [⟨serial, .bha, length, 0, 1⟩] }))
  | bhaRemove :
    RequestEffect s 35 (handLength (s.onTracker fun t => { t with stack := t.stack.dropLast }))
  | holdToSlot (slot : Nat) (rod : Rod) (hheld : s.tracker.held = some rod)
      (hempty : (s.tracker.slot slot).isSome = false) :
    RequestEffect s 36 (handConn s.tracker.conn (s.onTracker fun t =>
      { t.setSlot slot (some rod) with
        hold := none, conn := if t.conn = .headOffHolding then .headOffEmpty else t.conn }))
  | tallyConfirm : RequestEffect s 37 (s.onTracker fun t => { t with tallyUncertain := false })
  | depthCorrect (new : Int) (hbottom : s.onBottom = false) (hext : s.recorder.extending = false) :
    RequestEffect s 48 (correctDepth new s)
  | releaseBank (b : Fin 2) (hfull : s.banks[b].state = .full) :
    RequestEffect s 65 (releaseFullBank b s)
  | jobOpen (number customer : Nat) (hjob : s.jobInProgress = false)
      (hfree : s.banks[0].state = .free ∧ s.banks[1].state = .free) (hstore : s.billing.tickets = []) :
    RequestEffect s 72
      (recorderJobOpen ((openJob number customer s).onBank 0 fun _ => Bank.startFilling))
  | jobSuspend (hjob : s.job.state = .opened) :
    RequestEffect s 73 (s.onJob fun j => { j with state := .suspended })
  | jobResume (hjob : s.job.state = .suspended) :
    RequestEffect s 74 (s.onJob fun j => { j with state := .opened })
  | jobClose (hjob : s.job.state = .opened ∨ s.job.state = .suspended) :
    RequestEffect s 75 (finalTicketIfDue ((recorderJobClose s).onJob fun j => { j with state := .closing }))
  | mudAddition (quantity rate : Nat) (hjob : s.job.state = .opened) :
    RequestEffect s 77 (s.onBilling fun b => { b with acc := { b.acc with
      products := satAdd Config.moneyMax b.acc.products (quantity * rate)
      additions := satAdd Config.count16Max b.acc.additions 1 } })
  | ticketNow (hjob : s.job.state = .opened ∨ s.job.state = .suspended)
      (hcounter : s.job.ticketCounter < Config.ticketCounterStop) :
    RequestEffect s 80 (ticketDue false s)
  | releaseTicket (t : Ticket) (rest : List Ticket) (hstore : s.billing.tickets = t :: rest) :
    RequestEffect s 81 (afterRelease (s.onBilling fun b => { b with tickets := rest }))

/-- What an executed request of the given code leaves, before its reply is placed (R165). -/
inductive Served (s : State) (code : Nat) : State → Prop
  | same : Served s code s
  | statusRead : Served s code (s.onTrunk fun t => { t with overflow := false })
  | effect (w : State) (h : RequestEffect s code w) : Served s code w

/-- A service is served when what it leaves is in the list. -/
def Service.served (code : Nat) (g : Service) : Prop := ∀ s, Served s code (g s).1

theorem refuse_served (code : Nat) (c : ReplyCode) : Service.served code (refuse c) :=
  fun _ => .same

theorem withForm_served {code : Nat} {g : Service} (h : Service.served code g) (p : List Byte) (n : Nat) :
    Service.served code (withForm p n g) := by
  unfold withForm
  split
  · exact h
  · exact refuse_served code _

section Services

theorem doReadStatus_served (part code : Nat) : Service.served code (doReadStatus part) := by
  intro s
  unfold doReadStatus
  dsimp only
  split
  · exact .statusRead
  · exact .same

theorem doLoadSettings_served (row : Nat) (f : SettingsForm) : Service.served 3 (doLoadSettings row f) := by
  intro s
  unfold doLoadSettings
  split
  · exact .same
  · split
    · exact .same
    · exact .effect _ (.loadSettings f _ ‹_›)

theorem doLoadChannel_served (row : Nat) (f : ChannelForm) : Service.served 3 (doLoadChannel row f) := by
  intro s
  unfold doLoadChannel
  split
  · next hrow =>
    dsimp only
    split
    · next hfits => exact .effect _ (.loadChannel ⟨row, hrow⟩ f hfits)
    · exact .same
  · exact .same

theorem doLoadPump_served (row : Nat) (f : PumpForm) : Service.served 3 (doLoadPump row f) := by
  intro s
  unfold doLoadPump
  split
  · next hrow =>
    dsimp only
    split
    · next hfits =>
      dsimp only
      exact .effect _ (.loadPump ⟨row, hrow⟩ f hfits)
    · exact .same
  · exact .same

theorem doLoadLimits_served (row : Nat) (f : LimitsForm) : Service.served 3 (doLoadLimits row f) := by
  intro s
  unfold doLoadLimits
  split
  · exact .same
  · dsimp only
    split
    · exact .effect _ (.loadLimits f ‹_›)
    · exact .same

theorem doLoadThresholds_served (row : Nat) (f : ThresholdForm) :
    Service.served 3 (doLoadThresholds row f) := by
  intro s
  unfold doLoadThresholds
  split
  · exact .effect _ (.loadThresholds row f)
  · exact .same

theorem doLoadClass_served (row : Nat) (f : ClassForm) : Service.served 3 (doLoadClass row f) := by
  intro s
  unfold doLoadClass
  split
  · exact .effect _ (.loadClass row f)
  · exact .same

theorem doLoadTariff_served (row : Nat) (f : TariffForm) : Service.served 3 (doLoadTariff row f) := by
  intro s
  unfold doLoadTariff
  split
  · exact .same
  · split
    · exact .same
    · next hjob =>
      split
      · exact .same
      · next r changed hstored =>
        split
        · exact .same
        · next hfits =>
          obtain ⟨hspan, hfree⟩ : r.isEmptyBand = false ∧ s.tariffConflict row r = false := by
            simpa using hfits
          exact .effect _ (.loadTariff row f r changed (by simpa using hjob) hstored hspan hfree)

theorem loadRowService_served (p : List Byte) : Service.served 3 (loadRowService p) := by
  unfold loadRowService
  split
  · exact refuse_served 3 _
  · dsimp only
    split
    · exact withForm_served (doLoadSettings_served _ _) _ _
    · exact withForm_served (doLoadChannel_served _ _) _ _
    · exact withForm_served (doLoadPump_served _ _) _ _
    · exact withForm_served (doLoadLimits_served _ _) _ _
    · exact withForm_served (doLoadThresholds_served _ _) _ _
    · exact withForm_served (doLoadClass_served _ _) _ _
    · exact withForm_served (doLoadTariff_served _ _) _ _
    · exact refuse_served 3 _
    · exact refuse_served 3 _

theorem doReadRow_served (table row part code : Nat) : Service.served code (doReadRow table row part) := by
  intro s
  unfold doReadRow
  split
  · exact .same
  · split <;> exact .same

theorem doClearTables_served : Service.served 5 doClearTables := by
  intro s
  unfold doClearTables
  split
  · exact .same
  · next hjob =>
    dsimp only
    exact .effect _ (.clearTables (by simpa using hjob))

theorem doSetMode_served (mode : Nat) : Service.served 6 (doSetMode mode) := by
  intro s
  unfold doSetMode
  split
  · exact .same
  · exact .same
  · split
    · exact .same
    · next hmode =>
      split
      · exact .same
      · exact .effect _ (.standby hmode)
  · next m hstart hstandby hm =>
    split
    · exact .same
    · next hmode =>
      refine .effect _ (.setMode m ?_ hmode)
      cases m
      · exact (hstart rfl).elim
      · exact .inl rfl
      · exact .inr rfl
      · exact (hstandby rfl).elim

theorem doReadInput_served (index part code : Nat) : Service.served code (doReadInput index part) := by
  intro s
  unfold doReadInput
  split <;> exact .same

theorem doReadBalance_served (index part code : Nat) :
    Service.served code (doReadBalance index part) := by
  intro s
  unfold doReadBalance
  repeat' split
  all_goals exact .same

theorem doTripReset_served : Service.served 24 doTripReset := by
  intro s
  unfold doTripReset
  split
  · exact .effect _ (.tripReset ‹_›)
  · exact .same

theorem doRackPut_served (slot serial length : Nat) :
    Service.served 32 (doRackPut slot serial length) := by
  intro s
  unfold doRackPut
  split
  · exact .same
  · next hargs =>
    split
    · exact .same
    · split
      · exact .same
      · next hempty =>
        split
        · exact .same
        · next hserial =>
          have hfits : rodFits serial length = true := by simpa using (not_or.mp hargs).2
          exact .effect _ (.rackPut slot serial length hfits (by simpa using hempty)
            (by simpa using hserial))

theorem doRackTake_served (slot : Nat) : Service.served 33 (doRackTake slot) := by
  intro s
  unfold doRackTake
  split
  · exact .same
  · split
    · exact .same
    · split
      · exact .effect _ (.rackTake slot)
      · exact .same

theorem doBhaAdd_served (serial length : Nat) : Service.served 34 (doBhaAdd serial length) := by
  intro s
  unfold doBhaAdd
  split
  · exact .same
  · next hfits =>
    split
    · exact .same
    · split
      · exact .same
      · next hopen =>
        split
        · exact .same
        · next hserial =>
          obtain ⟨-, hrod, hroom⟩ := not_or.mp hopen |>.imp_right not_or.mp
          exact .effect _ (.bhaAdd serial length (by simpa using hfits) (by simpa using hrod)
            (Nat.lt_of_not_le hroom) (by simpa using hserial))

theorem doBhaRemove_served : Service.served 35 doBhaRemove := by
  intro s
  unfold doBhaRemove
  split
  · exact .same
  · split
    · exact .same
    · split
      · split
        · exact .effect _ .bhaRemove
        · exact .same
      · exact .same

theorem doHoldToSlot_served (slot : Nat) : Service.served 36 (doHoldToSlot slot) := by
  intro s
  unfold doHoldToSlot
  split
  · exact .same
  · split
    · exact .same
    · split
      · next rod hheld =>
        split
        · exact .same
        · next hempty => exact .effect _ (.holdToSlot slot rod hheld (by simpa using hempty))
      · exact .same

theorem doReadRack_served (slot part code : Nat) : Service.served code (doReadRack slot part) := by
  intro s
  unfold doReadRack
  split <;> exact .same

theorem doReadString_served (index part code : Nat) : Service.served code (doReadString index part) := by
  intro s
  unfold doReadString
  split <;> exact .same

theorem doDepthCorrect_served (new : Int) : Service.served 48 (doDepthCorrect new) := by
  intro s
  unfold doDepthCorrect
  split
  · exact .same
  · split
    · exact .same
    · next hbottom =>
      split
      · exact .same
      · next hext => exact .effect _ (.depthCorrect new (by simpa using hbottom) (by simpa using hext))

theorem doReadRecord_served (bank index part code : Nat) :
    Service.served code (doReadRecord bank index part) := by
  intro s
  unfold doReadRecord
  repeat' split
  all_goals exact .same

theorem doReleaseBank_served (bank : Nat) : Service.served 65 (doReleaseBank bank) := by
  intro s
  unfold doReleaseBank
  split
  · split
    · exact .effect _ (.releaseBank _ ‹_›)
    · exact .same
  · exact .same

theorem doJobOpen_served (number customer : Nat) : Service.served 72 (doJobOpen number customer) := by
  intro s
  unfold doJobOpen
  split
  · exact .same
  · split
    · exact .same
    · next hjob =>
      split
      · exact .same
      · next hbanks =>
        split
        · exact .same
        · next hstore =>
          have hfree : s.banks[0].state = .free ∧ s.banks[1].state = .free := by simpa using hbanks
          exact .effect _ (.jobOpen number customer (by simpa using hjob) hfree (by simpa using hstore))

theorem doJobSuspend_served : Service.served 73 doJobSuspend := by
  intro s
  unfold doJobSuspend
  split
  · exact .effect _ (.jobSuspend ‹_›)
  · exact .same

theorem doJobResume_served : Service.served 74 doJobResume := by
  intro s
  unfold doJobResume
  split
  · exact .effect _ (.jobResume ‹_›)
  · exact .same

theorem doJobClose_served : Service.served 75 doJobClose := by
  intro s
  unfold doJobClose
  split
  · exact .effect _ (.jobClose ‹_›)
  · exact .same

theorem doMudAddition_served (code quantity : Nat) : Service.served 77 (doMudAddition code quantity) := by
  intro s
  unfold doMudAddition
  split
  · exact .same
  · split
    · exact .same
    · next hjob =>
      split
      · exact .same
      · exact .effect _ (.mudAddition quantity _ (not_not.mp hjob))

theorem doTicketNow_served : Service.served 80 doTicketNow := by
  intro s
  unfold doTicketNow
  split
  · next h => exact .effect _ (.ticketNow h.1 h.2)
  · exact .same

theorem doReleaseTicket_served (number : Nat) : Service.served 81 (doReleaseTicket number) := by
  intro s
  unfold doReleaseTicket
  split
  · split
    · exact .effect _ (.releaseTicket _ _ ‹_›)
    · exact .same
  · exact .same

theorem doReadTicket_served (number part code : Nat) : Service.served code (doReadTicket number part) := by
  intro s
  unfold doReadTicket
  repeat' split
  all_goals exact .same

/-- Every service of section 12.2 leaves what the list says. -/
theorem serviceOf_served {code : Nat} {p : List Byte} {g : Service} (h : serviceOf code p = some g) :
    Service.served code g := by
  unfold serviceOf at h
  split at h <;> cases h
  · exact withForm_served (fun _ => .same) _ _
  · exact withForm_served (doReadStatus_served _ _) _ _
  · exact loadRowService_served p
  · exact withForm_served (doReadRow_served _ _ _ _) _ _
  · exact withForm_served doClearTables_served _ _
  · exact withForm_served (doSetMode_served _) _ _
  · exact withForm_served (fun _ => .effect _ (.setTime _)) _ _
  · exact withForm_served (fun _ => .effect _ .restart) _ _
  · exact withForm_served (doReadInput_served _ _ _) _ _
  · exact withForm_served (doReadBalance_served _ _ _) _ _
  · exact withForm_served doTripReset_served _ _
  · exact withForm_served (fun _ => .same) _ _
  · exact withForm_served (doRackPut_served _ _ _) _ _
  · exact withForm_served (doRackTake_served _) _ _
  · exact withForm_served (doBhaAdd_served _ _) _ _
  · exact withForm_served doBhaRemove_served _ _
  · exact withForm_served (doHoldToSlot_served _) _ _
  · exact withForm_served (fun _ => .effect _ .tallyConfirm) _ _
  · exact withForm_served (doReadRack_served _ _ _) _ _
  · exact withForm_served (doReadString_served _ _ _) _ _
  · exact withForm_served (doDepthCorrect_served _) _ _
  · exact withForm_served (fun _ => .same) _ _
  · exact withForm_served (fun _ => .same) _ _
  · exact withForm_served (doReadRecord_served _ _ _ _) _ _
  · exact withForm_served (doReleaseBank_served _) _ _
  · exact withForm_served (doJobOpen_served _ _) _ _
  · exact withForm_served doJobSuspend_served _ _
  · exact withForm_served doJobResume_served _ _
  · exact withForm_served doJobClose_served _ _
  · exact withForm_served (fun _ => .same) _ _
  · exact withForm_served (doMudAddition_served _ _) _ _
  · exact withForm_served doTicketNow_served _ _
  · exact withForm_served (doReleaseTicket_served _) _ _
  · exact withForm_served (doReadTicket_served _ _ _) _ _

end Services

/-- What a REQUEST frame for the part comes to: it is lost, or the executed request's changes stand, none
but those of IDENTIFY and READ STATUS in STARTING, and its reply is placed (R160, R165). -/
theorem serveFrame_cases (f : Frame) (s : State) :
    serveFrame f s = s ∨
    ∃ w r, serveFrame f s = w.placeReply ⟨f.src, f.seq⟩ f.tag r ∧
      (w = s ∨ w = (s.onTrunk fun t => { t with overflow := false }) ∨
        s.mode ≠ .starting ∧ RequestEffect s f.tag.toNat w) := by
  have hsame : ∀ r, ∃ w r', s.placeReply ⟨f.src, f.seq⟩ f.tag r =
      w.placeReply ⟨f.src, f.seq⟩ f.tag r' ∧ (w = s ∨ w = (s.onTrunk fun t => { t with overflow := false }) ∨
        s.mode ≠ .starting ∧ RequestEffect s f.tag.toNat w) := fun r => ⟨s, r, rfl, .inl rfl⟩
  unfold serveFrame
  split
  · rcases serve_cases s true f.tag ⟨f.src, f.seq⟩ (refuse .refusedUnknown) with
      ⟨-, h⟩ | ⟨-, -, -, h⟩ | ⟨-, -, h⟩
    · exact .inl h
    · exact .inr (h ▸ hsame _)
    · exact .inr (h ▸ hsame _)
  · next g hg =>
    rcases serve_cases s (runsInStarting f.tag.toNat) f.tag ⟨f.src, f.seq⟩ g with
      ⟨-, h⟩ | ⟨-, -, -, h⟩ | ⟨-, hearly, h⟩
    · exact .inl h
    · exact .inr (h ▸ hsame _)
    · refine .inr ⟨_, _, h, ?_⟩
      generalize hw : (g s).1 = w
      have hserved := serviceOf_served hg s
      rw [hw] at hserved
      cases hserved with
      | same => exact .inl rfl
      | statusRead => exact .inr (.inl rfl)
      | effect _ heffect =>
        refine .inr (.inr ⟨fun hmode => ?_, heffect⟩)
        have hcode : f.tag.toNat = 1 ∨ f.tag.toNat = 2 := by
          simpa [runsInStarting] using hearly hmode
        rcases hcode with hcode | hcode <;> rw [hcode] at heffect <;> cases heffect

/-! ### The work of an event -/

/-- The frame `f` arrives at the cab port in the command `c`: by its bytes, as a request row or as a
SETPOINT row. -/
def Instr.bringsCab (c : Instr) (f : Frame) : Prop :=
  (∃ bytes, c = .cabFrame bytes ∧ parseFrame bytes = some f) ∨
  (∃ h p, c.request = some (h, f.tag, p)) ∨ f.kind = .setpoint

/-- The work of a command, before the transmitters choose. -/
inductive Works (s : State) : Instr → State → Prop
  | none (c : Instr) : Works s c s
  | fieldFrame (c : Instr) (f : Frame) : Works s c (fieldArrival f s)
  | fieldError (c : Instr) : Works s c s.countFieldError
  | cabFrame (c : Instr) (f : Frame) (hc : Instr.bringsCab c f) : Works s c (cabArrival f s)
  | cabError (c : Instr) : Works s c s.countCabError
  | cabSent (c : Instr) : Works s c (endCabSend s)
  | fieldSent (c : Instr) : Works s c (endFieldSend s)
  | secondTick (c : Instr) : Works s c (secondTickWork s)
  | cadence (c : Instr) : Works s c (takeCadence s)
  | staleExpiry (c : Instr) (i : InputId) (due : Nat) : Works s c (goStale i (s.reach due))
  | runningExpiry (c : Instr) (p : PumpId) (due : Nat) : Works s c (stopRunning p (s.reach due))
  | periodExpiry (c : Instr) (due : Nat) (hdue : s.circ.periodDue = some due) :
    Works s c (endPeriod (s.reach due))
  | handlerExpiry (c : Instr) (due : Nat) : Works s c (expireHandler (s.reach due))
  | settleExpiry (c : Instr) (due : Nat) : Works s c (takeActivity s.depth.indicated (s.reach due))
  | holdExpiry (c : Instr) (due : Nat) : Works s c (expireStartHold (s.reach due))
  | checks (failed : FailedAreas) : Works s (.checksComplete failed) (completeChecks failed s)
  | endOfStarting (c : Instr) : Works s c (checkStarting s)
  | reset (c : Instr) (cause : ResetCause) : Works s c (s.afterReset cause)

theorem fieldBytes_works (c : Instr) (bytes : List Byte) (s : State) : Works s c (fieldBytes bytes s) := by
  unfold fieldBytes
  split
  · exact .fieldFrame c _
  · exact .fieldError c

theorem cabBytes_works (bytes : List Byte) (s : State) :
    Works s (.cabFrame bytes) (cabBytes bytes s) := by
  unfold cabBytes
  split
  · exact .cabFrame _ _ (.inl ⟨bytes, rfl, ‹_›⟩)
  · exact .cabError _

theorem cabSetpoint_works (c : Instr) (dest src : Addr) (tag seq : Byte) (payload : List Byte)
    (s : State) : Works s c (cabSetpoint dest src tag seq payload s) := by
  unfold cabSetpoint
  split
  · exact .cabFrame c _ (.inr (.inr rfl))
  · exact .cabError c

/-- A request row is the arrival of its frame, sent to address 63 (R155). -/
theorem exec_request_works {c : Instr} {h : ReqHeader} {code : Byte} {p : List Byte} (s : State)
    (hc : c.request = some (h, code, p)) : ∃ w, Works s c w ∧ exec c s = finish w := by
  refine ⟨cabArrival ⟨63, h.src, .request, code, h.seq, p⟩ s,
    .cabFrame c _ (.inr (.inl ⟨h, p, hc⟩)), ?_⟩
  rw [cabArrival_request (.inl rfl) rfl, finish_serveFrame_request hc]

theorem onExpiry_works {c : Instr} {s : State} {due : Option Nat} {work : State → State}
    (h : ∀ d, due = some d → Works s c (work (s.reach d))) : Works s c (onExpiry due work s) := by
  cases due with
  | none => exact .none c
  | some d => exact h d rfl

theorem exec_event_works {c : Instr} (s : State) (hc : c.request = none) :
    ∃ w, Works s c w ∧ exec c s = finish w := by
  cases c <;> cases hc <;> refine ⟨_, ?_, rfl⟩
  case fieldFrame.refl bytes => exact fieldBytes_works _ bytes s
  case cabFrame.refl bytes => exact cabBytes_works bytes s
  case pumpSetpoint.refl => exact cabSetpoint_works _ _ _ _ _ _ s
  case handlerCommand.refl => exact cabSetpoint_works _ _ _ _ _ _ s
  case secondTick.refl => exact .secondTick _
  case cadenceTrigger.refl => exact .cadence _
  case staleTimerExpiry.refl i => exact onExpiry_works fun d _ => .staleExpiry _ i d
  case runningTimerExpiry.refl p => exact onExpiry_works fun d _ => .runningExpiry _ p d
  case periodExpiry.refl => exact onExpiry_works fun d hd => .periodExpiry _ d hd
  case handlerTimeout.refl => exact onExpiry_works fun d _ => .handlerExpiry _ d
  case settleTimerExpiry.refl => exact onExpiry_works fun d _ => .settleExpiry _ d
  case startHoldTimerExpiry.refl => exact onExpiry_works fun d _ => .holdExpiry _ d
  case checksComplete.refl failed => exact .checks failed
  case endOfStarting.refl => exact .endOfStarting _
  case powerOn.refl => exact .reset _ .powerOn
  case supplyDip.refl => exact .reset _ .supplyDip
  case restartReset.refl =>
    split
    · exact .reset _ .restart
    · exact .none _
  case cabSendComplete.refl => exact .cabSent _
  case fieldSendComplete.refl => exact .fieldSent _

/-- Every command ends in the choices of the transmitters after a work of the list. -/
theorem exec_works (c : Instr) (s : State) : ∃ w, Works s c w ∧ exec c s = finish w := by
  cases hreq : c.request with
  | some q => exact exec_request_works s hreq
  | none => exact exec_event_works s hreq

theorem exec_next_works {c : Instr} {s t : State} (h : exec c s = .next t) :
    ∃ w, Works s c w ∧ t = transmit w := by
  obtain ⟨w, hw, he⟩ := exec_works c s
  rw [he] at h
  cases h
  exact ⟨w, hw, rfl⟩

/-- A step is a command's work with the transmitters' choices after it, a command that joins the queue, or
one millisecond; the queue of waiting commands is set apart. -/
theorem step_next_cases {s t : State} (h : step s = .next t) :
    (∃ c q w, Works { s with pending := q } c w ∧ t = transmit w) ∨
    (∃ q, t = { s with pending := q }) ∨
    t = s.onMgmt fun m => { m with clock := m.clock + 1 } := by
  unfold step at h
  split at h
  · next c rest _ =>
    obtain ⟨w, hw, rfl⟩ := exec_next_works h
    exact .inl ⟨c, rest, w, hw, rfl⟩
  · cases h
    unfold idleStep
    split
    · exact .inr (.inl ⟨_, rfl⟩)
    · exact .inr (.inr rfl)

/-- A property that every work, the transmitters' choices and the running of the queue and of the clock
keep is kept by every step. -/
theorem step_keeps {P : State → Prop} (hqueue : ∀ s q, P s → P { s with pending := q })
    (hclock : ∀ s : State, P s → P (s.onMgmt fun m => { m with clock := m.clock + 1 }))
    (htransmit : ∀ s, P s → P (transmit s)) (hwork : ∀ c s w, Works s c w → P s → P w)
    {s t : State} (h : step s = .next t) (hs : P s) : P t := by
  rcases step_next_cases h with ⟨c, q, w, hw, rfl⟩ | ⟨q, rfl⟩ | rfl
  · exact htransmit w (hwork c _ w hw (hqueue s q hs))
  · exact hqueue s q hs
  · exact hclock s hs

end Sys2Proof.Machine
end

section
/-! The queue, the clock and the transmitters: a step takes its command, every event keeps the waiting
commands, and no transmitter idles before a waiting frame (R159, R163). -/

namespace Sys2Proof.Machine

/-! ### A step (log 1) -/

/-- Settles O1: the queue's front and rest are read off the queue. -/
theorem stepTakesFrontCommand : Obligations.StepTakesFrontCommand := fun _ _ _ => rfl

theorem State.reached_iff (s : State) (due : Option Nat) :
    s.reached due = true ↔ ∃ d, due = some d ∧ d ≤ s.mgmt.clock := by
  cases due <;> simp [State.reached]

theorem State.handlerDue_reached_iff (s : State) :
    (∃ d, s.handlerDue = some d ∧ d ≤ s.mgmt.clock) ↔
      ∃ c, s.tracker.command = some c ∧ c.due ≤ s.mgmt.clock := by
  cases h : s.tracker.command <;> simp [State.handlerDue, h]

/-- A command stands in a list of one under a condition exactly when the condition holds. -/
theorem mem_singleton_if {c : Prop} [Decidable c] {a b : Instr} :
    a ∈ (if c then [b] else []) ↔ c ∧ a = b := by
  split <;> simp_all

theorem State.mem_dueExpiries (s : State) (e : Instr) : e ∈ s.dueExpiries ↔
    (s.mgmt.secondDue ≤ s.mgmt.clock ∧ e = .secondTick) ∨
    (∃ i, s.reached (s.input i).staleDue = true ∧ .staleTimerExpiry i = e) ∨
    (∃ p, s.reached (s.input (strokeInput p)).runningDue = true ∧ .runningTimerExpiry p = e) ∨
    (s.reached s.circ.periodDue = true ∧ e = .periodExpiry) ∨
    (s.reached s.handlerDue = true ∧ e = .handlerTimeout) ∨
    (s.reached s.depth.settleDue = true ∧ e = .settleTimerExpiry) ∨
    (s.reached s.mgmt.holdDue = true ∧ e = .startHoldTimerExpiry) := by
  simp only [State.dueExpiries, List.mem_append, mem_singleton_if, List.mem_map, List.mem_filter,
    List.mem_finRange, true_and, or_assoc]

/-- Settles O2: the first due expiry is the head of the list, which holds exactly those that are due. -/
theorem idleStepRunsTheTimer : Obligations.IdleStepRunsTheTimer := by
  intro s hpending
  have hstep : step s = .next (idleStep s) := by rw [step, hpending]
  refine ⟨fun hnone => ?_, fun e rest hdue => ?_, ?_, fun i => ?_, fun p => ?_, ?_, ?_, ?_, ?_⟩
  · rw [hstep, idleStep, hnone]
    rfl
  · rw [hstep, idleStep, hdue, hpending]
    rfl
  all_goals simp only [State.mem_dueExpiries, State.reached_iff, State.handlerDue_reached_iff,
    State.input, reduceCtorEq, and_false, false_or, or_false, exists_false, and_true,
    Instr.staleTimerExpiry.injEq, Instr.runningTimerExpiry.injEq, exists_eq_right]

/-! ### Every event keeps the waiting commands -/

/-- Every block but the queue of waiting commands. -/
def workingBlocks : List Block :=
  [.tables, .inputs, .circ, .pumpCtl, .tracker, .depth, .recorder, .banks, .billing, .trunk, .mgmt]

theorem keepsAllBut_workingBlocks_iff {s t : State} :
    keepsAllBut workingBlocks s t ↔ t.pending = s.pending := by
  refine ⟨fun h => h .pending (by decide), fun h b hb => ?_⟩
  cases b <;> first | exact h | exact absurd hb (by decide)

theorem storeSettings_pending (r : Settings) (s : State) : (storeSettings r s).pending = s.pending := by
  rw [← keepsAllBut_workingBlocks_iff]
  unfold storeSettings
  dsimp only
  split <;> simp [workingBlocks]

theorem storeChannel_pending (i : InputId) (r : ChannelRow) (s : State) :
    (storeChannel i r s).pending = s.pending := by
  rw [← keepsAllBut_workingBlocks_iff]
  unfold storeChannel
  dsimp only
  split <;> simp [workingBlocks]

theorem storePump_pending (p : PumpId) (r : PumpRow) (s : State) :
    (storePump p r s).pending = s.pending := by
  rw [← keepsAllBut_workingBlocks_iff]
  simp [storePump, workingBlocks]

theorem storeLimits_pending (r : Limits) (s : State) : (storeLimits r s).pending = s.pending := by
  rw [← keepsAllBut_workingBlocks_iff]
  unfold storeLimits
  dsimp only
  split <;> simp [workingBlocks]

theorem storeDefaults_pending (s : State) : (storeDefaults s).pending = s.pending := by
  have h : keepsAllBut workingBlocks
      { s with tables := .default, inputs := Vector.replicate 13 .afterLoad } (storeDefaults s) := by
    simp [storeDefaults, workingBlocks]
  exact (keepsAllBut_workingBlocks_iff.mp h :)

theorem afterRelease_pending (s : State) : (afterRelease s).pending = s.pending := by
  rw [← keepsAllBut_workingBlocks_iff]
  unfold afterRelease
  repeat' split
  all_goals simp [workingBlocks]

theorem RequestEffect.pending_eq {s w : State} {code : Nat} (h : RequestEffect s code w) :
    w.pending = s.pending := by
  cases h with
  | loadSettings => exact storeSettings_pending _ s
  | loadChannel => exact storeChannel_pending _ _ s
  | loadPump => exact storePump_pending _ _ s
  | loadLimits => exact storeLimits_pending _ s
  | releaseTicket => exact afterRelease_pending _
  | clearTables =>
    refine .trans ?_ (storeDefaults_pending s)
    rw [← keepsAllBut_workingBlocks_iff]
    simp [workingBlocks]
  | jobOpen =>
    rw [← keepsAllBut_workingBlocks_iff]
    simp [workingBlocks, openJob]
  | _ =>
    rw [← keepsAllBut_workingBlocks_iff]
    simp [workingBlocks]

theorem serveFrame_pending (f : Frame) (s : State) : (serveFrame f s).pending = s.pending := by
  rcases serveFrame_cases f s with h | ⟨w, r, h, rfl | rfl | ⟨-, heffect⟩⟩ <;> rw [h]
  · rfl
  · rfl
  · exact heffect.pending_eq

theorem setpointArrival_pending (f : Frame) (s : State) :
    (setpointArrival f s).pending = s.pending := by
  rw [← keepsAllBut_workingBlocks_iff]
  unfold setpointArrival
  repeat' split
  all_goals simp [workingBlocks]

theorem cabArrival_pending (f : Frame) (s : State) : (cabArrival f s).pending = s.pending := by
  unfold cabArrival
  split
  · split
    · exact serveFrame_pending f s
    · rfl
  · split
    · exact setpointArrival_pending f s
    · rfl

theorem fieldArrival_pending (f : Frame) (s : State) : (fieldArrival f s).pending = s.pending := by
  rw [← keepsAllBut_workingBlocks_iff]
  unfold fieldArrival
  dsimp only
  split <;> simp [workingBlocks]

theorem restoreAreas_pending (lost : FailedAreas) (s : State) :
    (restoreAreas lost s).pending = s.pending := by
  have htables : (if lost.tables then restoreTables s else s).pending = s.pending := by
    split
    · exact storeDefaults_pending s
    · rfl
  refine .trans ?_ htables
  rw [← keepsAllBut_workingBlocks_iff]
  unfold restoreAreas restoreString restoreDepth
  dsimp only
  generalize (if lost.tables then restoreTables s else s) = s1
  have hjob : ∀ t, keepsAllBut workingBlocks s1 t → keepsAllBut workingBlocks s1 (restoreJob t) :=
    fun t h => keepsAllBut_workingBlocks_iff.mpr (keepsAllBut_workingBlocks_iff.mp h :)
  repeat' split
  all_goals first | refine hjob _ ?_ | skip
  all_goals simp [workingBlocks]

theorem completeChecks_pending (failed : FailedAreas) (s : State) :
    (completeChecks failed s).pending = s.pending := by
  unfold completeChecks
  split
  · refine .trans ?_ (restoreAreas_pending (lostAreas failed s) s)
    rw [← keepsAllBut_workingBlocks_iff]
    simp [workingBlocks]
  · rfl

theorem Works.pending_eq {s w : State} {c : Instr} (h : Works s c w) : w.pending = s.pending := by
  cases h with
  | fieldFrame _ f => exact fieldArrival_pending f s
  | cabFrame _ f => exact cabArrival_pending f s
  | checks failed => exact completeChecks_pending failed s
  | cabSent =>
    unfold endCabSend
    split <;> rfl
  | reset => rfl
  | _ =>
    rw [← keepsAllBut_workingBlocks_iff]
    simp [workingBlocks, endFieldSend]

/-! ### The transmitters (R159, R163) -/

/-- The choice of the cab transmitter leaves it idle only with nothing waiting. -/
theorem Trunk.cabArbiter_settled (t : Trunk) (h : t.cabArbiter.cabSending = none) :
    t.cabArbiter.replySlot = none ∧ t.cabArbiter.urgent = [] ∧ t.cabArbiter.cabFifo = [] ∧
      t.cabArbiter.general = [] := by
  unfold Trunk.cabArbiter at h ⊢
  split at h <;> simp_all

theorem Trunk.fieldArbiter_settled (t : Trunk) (h : t.fieldArbiter.fieldSending = none) :
    t.fieldArbiter.setpoints = [] ∧ t.fieldArbiter.fieldFifo = [] := by
  unfold Trunk.fieldArbiter at h ⊢
  split at h <;> simp_all

/-- After the choices of both transmitters neither is idle before a waiting frame. -/
theorem transmit_settled (s : State) : (transmit s).trunk.settled := by
  refine ⟨fun h => ?_, Trunk.fieldArbiter_settled _⟩
  rw [transmit_trunk, Trunk.fieldArbiter_other] at h ⊢
  exact s.trunk.cabArbiter_settled h

/-- Settles O3: every command is a work that keeps the queue, and the transmitters choose after it. -/
theorem everyCommandAnswersWithTransmittersAtWork :
    Obligations.EveryCommandAnswersWithTransmittersAtWork := by
  intro c s
  obtain ⟨w, hw, hexec⟩ := exec_works c s
  exact ⟨transmit w, hexec, hw.pending_eq, transmit_settled w⟩

end Sys2Proof.Machine
end

section
/-! What the blocks do to the trunk (R158, R161): every operation only joins notices of its kinds and
changes the field setpoint queue, and the queues' bounds are kept by that. -/

namespace Sys2Proof.Machine

/-! ### Moves of the trunk -/

/-- The trunk `u` comes from `t` by notices of the kinds in `K`, and, where `pumps` holds, by changes of
the field setpoint queue. -/
inductive Trunk.Moved (K : NoticeKind → Prop) (pumps : Bool) (t : Trunk) : Trunk → Prop
  | refl : Moved K pumps t t
  | notice {u : Trunk} (h : Moved K pumps t u) (n : Notice) (hn : K n.kind) :
    Moved K pumps t (u.join n)
  | setpoint {u : Trunk} (h : Moved K pumps t u) (hp : pumps = true) (e : SetpointEntry) :
    Moved K pumps t (u.queueSetpoint e)
  | zero {u : Trunk} (h : Moved K pumps t u) (hp : pumps = true) (node : Nat) (src : Addr) :
    Moved K pumps t (u.headZero node src)
  | drop {u : Trunk} (h : Moved K pumps t u) (hp : pumps = true) (node : Nat) :
    Moved K pumps t (u.dropSetpoint node)

/-! ### The operations that leave the trunk alone -/

@[simp] theorem billFootage_trunk (top bottom : Int) (cls : Nat) (s : State) :
    (billFootage top bottom cls s).trunk = s.trunk :=
  billFootage_keeps top bottom cls s .trunk (by decide)

@[simp] theorem addLostMud_trunk (volume : Nat) (s : State) :
    (addLostMud volume s).trunk = s.trunk :=
  addLostMud_keeps volume s .trunk (by decide)

@[simp] theorem openInterval_trunk (top : Int) (corrected : Bool) (s : State) :
    (openInterval top corrected s).trunk = s.trunk :=
  openInterval_keeps top corrected s .trunk (by decide)

@[simp] theorem onInterval_trunk (f : Interval → Interval) (s : State) :
    (s.onInterval f).trunk = s.trunk :=
  onInterval_keeps f s .trunk (by decide)

@[simp] theorem markDepthUncertain_trunk (s : State) : (markDepthUncertain s).trunk = s.trunk :=
  markDepthUncertain_keeps s .trunk (by decide)

@[simp] theorem handUncertain_trunk (changed : Bool) (s : State) :
    (handUncertain changed s).trunk = s.trunk :=
  handUncertain_keeps changed s .trunk (by decide)

@[simp] theorem discardInterval_trunk (s : State) : (discardInterval s).trunk = s.trunk :=
  discardInterval_keeps s .trunk (by decide)

@[simp] theorem recorderJobOpen_trunk (s : State) : (recorderJobOpen s).trunk = s.trunk :=
  recorderJobOpen_keeps s .trunk (by decide)

@[simp] theorem drillingSecond_trunk (s : State) : (drillingSecond s).trunk = s.trunk :=
  drillingSecond_keeps s .trunk (by decide)

@[simp] theorem onPeriodResult_trunk (loss gain : Nat) (held : Bool) (state : CircState) (s : State) :
    (onPeriodResult loss gain held state s).trunk = s.trunk :=
  onPeriodResult_keeps loss gain held state s .trunk (by decide)

@[simp] theorem setEncoderUncertain_trunk (s : State) : (setEncoderUncertain s).trunk = s.trunk :=
  setEncoderUncertain_keeps s .trunk (by decide)

@[simp] theorem setAnchorUncertain_trunk (s : State) : (setAnchorUncertain s).trunk = s.trunk :=
  setAnchorUncertain_keeps s .trunk (by decide)

@[simp] theorem applyReport_trunk (n mm residue : Int) (s : State) :
    (applyReport n mm residue s).trunk = s.trunk :=
  applyReport_keeps n mm residue s .trunk (by decide)

@[simp] theorem onHeadResync_trunk (n : Int) (s : State) : (onHeadResync n s).trunk = s.trunk :=
  onHeadResync_keeps n s .trunk (by decide)

@[simp] theorem onSlips_trunk (readsOne : Bool) (s : State) :
    (onSlips readsOne s).trunk = s.trunk :=
  onSlips_keeps readsOne s .trunk (by decide)

@[simp] theorem onHookload_trunk (s : State) : (onHookload s).trunk = s.trunk :=
  onHookload_keeps s .trunk (by decide)

@[simp] theorem endMovementPeriod_trunk (s : State) : (endMovementPeriod s).trunk = s.trunk :=
  endMovementPeriod_keeps s .trunk (by decide)

@[simp] theorem restartMovementPeriod_trunk (s : State) :
    (restartMovementPeriod s).trunk = s.trunk :=
  restartMovementPeriod_keeps s .trunk (by decide)

@[simp] theorem startMovementPeriod_trunk (s : State) : (startMovementPeriod s).trunk = s.trunk :=
  startMovementPeriod_keeps s .trunk (by decide)

@[simp] theorem stopAfterReset_trunk (p : PumpId) (s : State) :
    (stopAfterReset p s).trunk = s.trunk :=
  stopAfterReset_keeps p s .trunk (by decide)

@[simp] theorem resetTrip_trunk (s : State) : (resetTrip s).trunk = s.trunk :=
  resetTrip_keeps s .trunk (by decide)

@[simp] theorem endOpenString_trunk (p : PumpId) (s : State) :
    (endOpenString p s).trunk = s.trunk :=
  endOpenString_keeps p s .trunk (by decide)

@[simp] theorem countBadSetpoint_trunk (s : State) : (countBadSetpoint s).trunk = s.trunk :=
  countBadSetpoint_keeps s .trunk (by decide)

@[simp] theorem adoptRecord_trunk (p : PumpId) (s : State) : (adoptRecord p s).trunk = s.trunk :=
  adoptRecord_keeps p s .trunk (by decide)

@[simp] theorem enterMonitor_trunk (s : State) : (enterMonitor s).trunk = s.trunk :=
  enterMonitor_keeps s .trunk (by decide)

@[simp] theorem leaveStandby_trunk (s : State) : (leaveStandby s).trunk = s.trunk :=
  leaveStandby_keeps s .trunk (by decide)

@[simp] theorem setTallyUncertain_trunk (s : State) : (setTallyUncertain s).trunk = s.trunk :=
  setTallyUncertain_keeps s .trunk (by decide)

@[simp] theorem countHandlerError_trunk (s : State) : (countHandlerError s).trunk = s.trunk :=
  countHandlerError_keeps s .trunk (by decide)

@[simp] theorem recordCommand_trunk (code : HandlerCode) (slot : Nat) (s : State) :
    (recordCommand code slot s).trunk = s.trunk :=
  recordCommand_keeps code slot s .trunk (by decide)

@[simp] theorem clearCommand_trunk (s : State) : (clearCommand s).trunk = s.trunk :=
  clearCommand_keeps s .trunk (by decide)

@[simp] theorem rotatingSecond_trunk (s : State) : (rotatingSecond s).trunk = s.trunk :=
  rotatingSecond_keeps s .trunk (by decide)

@[simp] theorem collectFlow_trunk (s : State) : (collectFlow s).trunk = s.trunk :=
  collectFlow_keeps s .trunk (by decide)

@[simp] theorem flowingTest_trunk (s : State) : (flowingTest s).trunk = s.trunk :=
  flowingTest_keeps s .trunk (by decide)

@[simp] theorem returnTest_trunk (s : State) : (returnTest s).trunk = s.trunk :=
  returnTest_keeps s .trunk (by decide)

@[simp] theorem clearNoPump_trunk (s : State) : (clearNoPump s).trunk = s.trunk :=
  clearNoPump_keeps s .trunk (by decide)

@[simp] theorem noPumpPeriod_trunk (s : State) : (noPumpPeriod s).trunk = s.trunk :=
  noPumpPeriod_keeps s .trunk (by decide)

@[simp] theorem joinPeriod_trunk (s : State) : (joinPeriod s).trunk = s.trunk :=
  joinPeriod_keeps s .trunk (by decide)

@[simp] theorem setCircState_trunk (st : CircState) (s : State) :
    (setCircState st s).trunk = s.trunk :=
  setCircState_keeps st s .trunk (by decide)

@[simp] theorem movePumped_trunk (before : CircState) (r : PeriodRecord) (s : State) :
    (movePumped before r s).trunk = s.trunk :=
  movePumped_keeps before r s .trunk (by decide)

@[simp] theorem pumpedPeriod_trunk (s : State) : (pumpedPeriod s).trunk = s.trunk :=
  pumpedPeriod_keeps s .trunk (by decide)

@[simp] theorem beginPeriod_trunk (s : State) : (beginPeriod s).trunk = s.trunk :=
  beginPeriod_keeps s .trunk (by decide)

@[simp] theorem handPeriodResult_trunk (pumped : Bool) (r : PeriodRecord) (mark : Bool) (s : State) :
    (handPeriodResult pumped r mark s).trunk = s.trunk :=
  handPeriodResult_keeps pumped r mark s .trunk (by decide)

@[simp] theorem stateAfterLoad_trunk (s : State) : (stateAfterLoad s).trunk = s.trunk :=
  stateAfterLoad_keeps s .trunk (by decide)

@[simp] theorem setModeTo_trunk (m : Mode) (s : State) : (setModeTo m s).trunk = s.trunk :=
  setModeTo_keeps m s .trunk (by decide)

@[simp] theorem freshen_trunk (i : InputId) (s : State) : (freshen i s).trunk = s.trunk :=
  freshen_keeps i s .trunk (by decide)

@[simp] theorem takeValue_trunk (i : InputId) (x : Int) (s : State) :
    (takeValue i x s).trunk = s.trunk :=
  takeValue_keeps i x s .trunk (by decide)

@[simp] theorem countRefused_trunk (i : InputId) (s : State) : (countRefused i s).trunk = s.trunk :=
  countRefused_keeps i s .trunk (by decide)


/-! ### The operations that move it -/

section Moves

variable {K : NoticeKind → Prop} {P : Bool} {a : Trunk} {s : State}

@[simp] theorem raise_moved {k : NoticeKind} {n : Nat} {v : Int} (hk : K k)
    (h : Trunk.Moved K P a s.trunk) : Trunk.Moved K P a (s.raise k n v).trunk := h.notice _ hk

@[simp] theorem queueSetpoint_moved {p : PumpId} {v : Nat} (h : Trunk.Moved K true a s.trunk) :
    Trunk.Moved K true a (s.queueSetpoint p v).trunk := h.setpoint rfl _

@[simp] theorem headZero_moved {p : PumpId} (h : Trunk.Moved K true a s.trunk) :
    Trunk.Moved K true a (s.headZero p).trunk := h.zero rfl _ _

theorem eachPump_moved {f : PumpId → State → State}
    (hf : ∀ p s, Trunk.Moved K P a s.trunk → Trunk.Moved K P a (f p s).trunk)
    (h : Trunk.Moved K P a s.trunk) : Trunk.Moved K P a (eachPump f s).trunk := hf _ _ (hf _ _ h)

@[simp] theorem testFillMark_moved {b : Fin 2} (hmark : K .bankFillMark)
    (h : Trunk.Moved K P a s.trunk) : Trunk.Moved K P a (testFillMark b s).trunk := by
  unfold testFillMark
  repeat' split
  all_goals simp -implicitDefEqProofs [hmark, h]

@[simp] theorem testBankFull_moved {b : Fin 2} (hready : K .bankReady)
    (h : Trunk.Moved K P a s.trunk) : Trunk.Moved K P a (testBankFull b s).trunk := by
  unfold testBankFull
  dsimp only
  repeat' split
  all_goals simp -implicitDefEqProofs [hready, h]

@[simp] theorem appendRecord_moved {r : ClosedRecord} (hmark : K .bankFillMark)
    (hready : K .bankReady) (h : Trunk.Moved K P a s.trunk) :
    Trunk.Moved K P a (appendRecord r s).trunk := by
  unfold appendRecord
  repeat' split
  all_goals simp -implicitDefEqProofs [hmark, hready, h]

@[simp] theorem sealBanks_moved (hready : K .bankReady) (h : Trunk.Moved K P a s.trunk) :
    Trunk.Moved K P a (sealBanks s).trunk := by
  unfold sealBanks
  repeat' split
  all_goals simp -implicitDefEqProofs [hready, h]

@[simp] theorem issueTicket_moved {final : Bool} (hticket : K .ticketReady) (hready : K .bankReady)
    (h : Trunk.Moved K P a s.trunk) : Trunk.Moved K P a (issueTicket final s).trunk := by
  unfold issueTicket
  dsimp only
  repeat' split
  all_goals simp -implicitDefEqProofs [hticket, hready, h]

@[simp] theorem ticketDue_moved {final : Bool} (hticket : K .ticketReady) (hready : K .bankReady)
    (hdeferred : K .ticketDeferred) (h : Trunk.Moved K P a s.trunk) :
    Trunk.Moved K P a (ticketDue final s).trunk := by
  unfold ticketDue
  repeat' split
  all_goals simp -implicitDefEqProofs [hticket, hready, hdeferred, h]

@[simp] theorem finalTicketIfDue_moved (hticket : K .ticketReady) (hready : K .bankReady)
    (hdeferred : K .ticketDeferred) (h : Trunk.Moved K P a s.trunk) :
    Trunk.Moved K P a (finalTicketIfDue s).trunk := by
  unfold finalTicketIfDue
  repeat' split
  all_goals simp -implicitDefEqProofs [hticket, hready, hdeferred, h]

@[simp] theorem takeCadence_moved (hticket : K .ticketReady) (hready : K .bankReady)
    (hdeferred : K .ticketDeferred) (h : Trunk.Moved K P a s.trunk) :
    Trunk.Moved K P a (takeCadence s).trunk := by
  unfold takeCadence
  dsimp only
  repeat' split
  all_goals simp -implicitDefEqProofs [hticket, hready, hdeferred, h]

@[simp] theorem meterSecond_moved (hticket : K .ticketReady) (hready : K .bankReady)
    (hdeferred : K .ticketDeferred) (h : Trunk.Moved K P a s.trunk) :
    Trunk.Moved K P a (meterSecond s).trunk := by
  unfold meterSecond
  dsimp only
  repeat' split
  all_goals simp -implicitDefEqProofs [hticket, hready, hdeferred, h]

@[simp] theorem handOnRecord_moved {r : ClosedRecord} (hmark : K .bankFillMark)
    (hready : K .bankReady) (h : Trunk.Moved K P a s.trunk) :
    Trunk.Moved K P a (handOnRecord r s).trunk := by
  unfold handOnRecord
  dsimp only
  repeat' split
  all_goals simp -implicitDefEqProofs [hmark, hready, h]

@[simp] theorem closeInterval_moved {bottom : Int} {added : FlagSet} (hmark : K .bankFillMark)
    (hready : K .bankReady) (h : Trunk.Moved K P a s.trunk) :
    Trunk.Moved K P a (closeInterval bottom added s).trunk := by
  unfold closeInterval
  repeat' split
  all_goals simp -implicitDefEqProofs [hmark, hready, h]

@[simp] theorem testOverdue_moved (hexhausted : K .banksExhausted) (h : Trunk.Moved K P a s.trunk) :
    Trunk.Moved K P a (testOverdue s).trunk := by
  unfold testOverdue
  repeat' split
  all_goals simp -implicitDefEqProofs [hexhausted, h]

@[simp] theorem testExtension_moved (hexhausted : K .banksExhausted) (h : Trunk.Moved K P a s.trunk)
    : Trunk.Moved K P a (testExtension s).trunk := by
  unfold testExtension
  repeat' split
  all_goals simp -implicitDefEqProofs [hexhausted, h]

@[simp] theorem reopen_moved {top : Int} {corrected : Bool} (hexhausted : K .banksExhausted)
    (h : Trunk.Moved K P a s.trunk) : Trunk.Moved K P a (reopen top corrected s).trunk := by
  unfold reopen
  simp -implicitDefEqProofs [hexhausted, h]

@[simp] theorem boundaryLoop_moved {n : Nat} (hmark : K .bankFillMark) (hready : K .bankReady)
    (hexhausted : K .banksExhausted) (h : Trunk.Moved K P a s.trunk) :
    Trunk.Moved K P a (boundaryLoop n s).trunk := by
  induction n generalizing s with
  | zero => exact h
  | succ n ih =>
    unfold boundaryLoop
    split
    · exact ih (by simp -implicitDefEqProofs [hmark, hready, hexhausted, h])
    · exact h

@[simp] theorem boundaryCheck_moved (hmark : K .bankFillMark) (hready : K .bankReady)
    (hexhausted : K .banksExhausted) (h : Trunk.Moved K P a s.trunk) :
    Trunk.Moved K P a (boundaryCheck s).trunk := by
  unfold boundaryCheck
  simp -implicitDefEqProofs [hmark, hready, hexhausted, h]

@[simp] theorem onHoleAdvance_moved (hmark : K .bankFillMark) (hready : K .bankReady)
    (hexhausted : K .banksExhausted) (h : Trunk.Moved K P a s.trunk) :
    Trunk.Moved K P a (onHoleAdvance s).trunk := by
  unfold onHoleAdvance
  simp -implicitDefEqProofs [hmark, hready, hexhausted, h]

@[simp] theorem onCorrection_moved {oldD newD : Int} (hmark : K .bankFillMark)
    (hready : K .bankReady) (hexhausted : K .banksExhausted) (h : Trunk.Moved K P a s.trunk) :
    Trunk.Moved K P a (onCorrection oldD newD s).trunk := by
  unfold onCorrection
  split
  · split
    · exact h
    · dsimp only
      split
      · exact boundaryCheck_moved hmark hready hexhausted
          (reopen_moved hexhausted (closeInterval_moved hmark hready h))
      · simp -implicitDefEqProofs [hmark, hready, hexhausted, h]
  · exact h

@[simp] theorem closeForJob_moved {added : FlagSet} (hmark : K .bankFillMark)
    (hready : K .bankReady) (h : Trunk.Moved K P a s.trunk) :
    Trunk.Moved K P a (closeForJob added s).trunk := by
  unfold closeForJob
  dsimp only
  repeat' split
  all_goals simp -implicitDefEqProofs [hmark, hready, h]

@[simp] theorem recorderJobClose_moved (hmark : K .bankFillMark) (hready : K .bankReady)
    (h : Trunk.Moved K P a s.trunk) : Trunk.Moved K P a (recorderJobClose s).trunk := by
  unfold recorderJobClose
  repeat' split
  all_goals simp -implicitDefEqProofs [hmark, hready, h]

@[simp] theorem endExtension_moved (hmark : K .bankFillMark) (hready : K .bankReady)
    (hexhausted : K .banksExhausted) (hticket : K .ticketReady) (hdeferred : K .ticketDeferred)
    (h : Trunk.Moved K P a s.trunk) : Trunk.Moved K P a (endExtension s).trunk := by
  unfold endExtension
  dsimp only
  split
  · exact finalTicketIfDue_moved hticket hready hdeferred (closeForJob_moved hmark hready h)
  · split
    · split
      · exact boundaryCheck_moved hmark hready hexhausted
          (reopen_moved hexhausted (closeInterval_moved hmark hready h))
      · exact h
    · exact boundaryCheck_moved hmark hready hexhausted h

@[simp] theorem releaseFullBank_moved {b : Fin 2} (hmark : K .bankFillMark) (hready : K .bankReady)
    (hexhausted : K .banksExhausted) (hticket : K .ticketReady) (hdeferred : K .ticketDeferred)
    (h : Trunk.Moved K P a s.trunk) : Trunk.Moved K P a (releaseFullBank b s).trunk := by
  unfold releaseFullBank
  dsimp only
  repeat' split
  all_goals simp -implicitDefEqProofs [hmark, hready, hexhausted, hticket, hdeferred, h]

@[simp] theorem advanceHole_moved (hmark : K .bankFillMark) (hready : K .bankReady)
    (hexhausted : K .banksExhausted) (h : Trunk.Moved K P a s.trunk) :
    Trunk.Moved K P a (advanceHole s).trunk := by
  unfold advanceHole
  repeat' split
  all_goals simp -implicitDefEqProofs [hmark, hready, hexhausted, h]

@[simp] theorem takeActivity_moved {act : Activity} (hactivity : K .activity)
    (h : Trunk.Moved K P a s.trunk) : Trunk.Moved K P a (takeActivity act s).trunk := by
  unfold takeActivity
  dsimp only
  repeat' split
  all_goals simp -implicitDefEqProofs [hactivity, h]

@[simp] theorem onIndicated_moved {old new : Activity} (hactivity : K .activity)
    (h : Trunk.Moved K P a s.trunk) : Trunk.Moved K P a (onIndicated old new s).trunk := by
  unfold onIndicated
  repeat' split
  all_goals simp -implicitDefEqProofs [hactivity, h]

@[simp] theorem reindicate_moved (hactivity : K .activity) (h : Trunk.Moved K P a s.trunk) :
    Trunk.Moved K P a (reindicate s).trunk := by
  unfold reindicate
  repeat' split
  all_goals simp -implicitDefEqProofs [hactivity, h]

@[simp] theorem react_moved (hmark : K .bankFillMark) (hready : K .bankReady)
    (hexhausted : K .banksExhausted) (hactivity : K .activity) (h : Trunk.Moved K P a s.trunk) :
    Trunk.Moved K P a (react s).trunk := by
  unfold react
  simp -implicitDefEqProofs [hmark, hready, hexhausted, hactivity, h]

@[simp] theorem rejectReport_moved {n mm : Int} (hjump : K .depthJump)
    (h : Trunk.Moved K P a s.trunk) : Trunk.Moved K P a (rejectReport n mm s).trunk := by
  unfold rejectReport
  simp -implicitDefEqProofs [hjump, h]

@[simp] theorem onHeadReport_moved {n : Int} (hjump : K .depthJump) (h : Trunk.Moved K P a s.trunk)
    : Trunk.Moved K P a (onHeadReport n s).trunk := by
  unfold onHeadReport
  dsimp only
  repeat' split
  all_goals simp -implicitDefEqProofs [hjump, h]

@[simp] theorem handLength_moved (hmark : K .bankFillMark) (hready : K .bankReady)
    (hexhausted : K .banksExhausted) (hactivity : K .activity) (h : Trunk.Moved K P a s.trunk) :
    Trunk.Moved K P a (handLength s).trunk := by
  unfold handLength
  dsimp only
  repeat' split
  all_goals simp -implicitDefEqProofs [hmark, hready, hexhausted, hactivity, h]

@[simp] theorem correctDepth_moved {new : Int} (hmark : K .bankFillMark) (hready : K .bankReady)
    (hexhausted : K .banksExhausted) (h : Trunk.Moved K P a s.trunk) :
    Trunk.Moved K P a (correctDepth new s).trunk := by
  unfold correctDepth
  dsimp only
  simp -implicitDefEqProofs [hmark, hready, hexhausted, h]

@[simp] theorem changeRates_moved {p : PumpId} {requested commanded : Nat}
    (h : Trunk.Moved K true a s.trunk) :
    Trunk.Moved K true a (changeRates p requested commanded s).trunk := by
  unfold changeRates
  dsimp only
  repeat' split
  all_goals simp -implicitDefEqProofs [h]

@[simp] theorem forceZero_moved {p : PumpId} (h : Trunk.Moved K true a s.trunk) :
    Trunk.Moved K true a (forceZero p s).trunk := by
  unfold forceZero
  dsimp only
  repeat' split
  all_goals simp -implicitDefEqProofs [h]

@[simp] theorem forceHead_moved {p : PumpId} (h : Trunk.Moved K true a s.trunk) :
    Trunk.Moved K true a (forceHead p s).trunk := by
  unfold forceHead
  repeat' split
  all_goals simp -implicitDefEqProofs [h]

@[simp] theorem forceBothHead_moved (h : Trunk.Moved K true a s.trunk) :
    Trunk.Moved K true a (forceBothHead s).trunk := by
  unfold forceBothHead
  simp -implicitDefEqProofs [h]

@[simp] theorem onPressure_moved {v : Int} (htrip : K .pressureTrip)
    (h : Trunk.Moved K true a s.trunk) : Trunk.Moved K true a (onPressure v s).trunk := by
  unfold onPressure
  dsimp only
  repeat' split
  all_goals simp -implicitDefEqProofs [htrip, h]

@[simp] theorem handConn_moved {old : Conn} (h : Trunk.Moved K true a s.trunk) :
    Trunk.Moved K true a (handConn old s).trunk := by
  unfold handConn
  split
  · exact h
  · split
    · exact eachPump_moved (fun p t ht => by simpa using ht) h
    · split
      · exact eachPump_moved (fun p t ht => by simp -implicitDefEqProofs [ht]) h
      · exact h

@[simp] theorem acceptSetpoint_moved {p : PumpId} {v : Nat} (h : Trunk.Moved K true a s.trunk) :
    Trunk.Moved K true a (acceptSetpoint p v s).trunk := by
  unfold acceptSetpoint
  dsimp only
  simp -implicitDefEqProofs [h]

@[simp] theorem refuseSetpoint_moved {p : PumpId} {r : Reason} (hrefused : K .interlockRefused)
    (h : Trunk.Moved K P a s.trunk) : Trunk.Moved K P a (refuseSetpoint p r s).trunk := by
  unfold refuseSetpoint
  simp -implicitDefEqProofs [hrefused, h]

@[simp] theorem judgeSetpoint_moved {p : PumpId} {v : Nat} (hrefused : K .interlockRefused)
    (h : Trunk.Moved K true a s.trunk) : Trunk.Moved K true a (judgeSetpoint p v s).trunk := by
  unfold judgeSetpoint
  repeat' split
  all_goals simp -implicitDefEqProofs [hrefused, h]

@[simp] theorem rampPump_moved {p : PumpId} (h : Trunk.Moved K true a s.trunk) :
    Trunk.Moved K true a (rampPump p s).trunk := by
  unfold rampPump
  dsimp only
  repeat' split
  all_goals simp -implicitDefEqProofs [h]

@[simp] theorem judgePeriod_moved {p : PumpId} {strokes : Nat} (hfollow : K .pumpNotFollowing)
    (h : Trunk.Moved K P a s.trunk) : Trunk.Moved K P a (judgePeriod p strokes s).trunk := by
  unfold judgePeriod
  dsimp only
  repeat' split
  all_goals simp -implicitDefEqProofs [hfollow, h]

@[simp] theorem enterSupervised_moved (h : Trunk.Moved K true a s.trunk) :
    Trunk.Moved K true a (enterSupervised s).trunk := by
  unfold enterSupervised
  have hadopt : Trunk.Moved K true a (eachPump adoptRecord s).trunk :=
    eachPump_moved (fun p t ht => by simpa using ht) h
  dsimp only
  split
  · simp -implicitDefEqProofs [hadopt]
  · split
    · exact eachPump_moved (fun p t ht => by simp -implicitDefEqProofs [ht]) hadopt
    · exact hadopt

@[simp] theorem enterStandby_moved (h : Trunk.Moved K true a s.trunk) :
    Trunk.Moved K true a (enterStandby s).trunk := by
  unfold enterStandby
  refine eachPump_moved (fun p t ht => ?_) h
  split <;> simp -implicitDefEqProofs [ht]

@[simp] theorem pumpNodeChanged_moved {p : PumpId} {oldNode : Nat}
    (h : Trunk.Moved K true a s.trunk) :
    Trunk.Moved K true a (pumpNodeChanged p oldNode s).trunk := by
  exact h.drop rfl oldNode

@[simp] theorem pumpMaxLowered_moved {p : PumpId} (h : Trunk.Moved K true a s.trunk) :
    Trunk.Moved K true a (pumpMaxLowered p s).trunk := by
  unfold pumpMaxLowered
  dsimp only
  repeat' split
  all_goals simp -implicitDefEqProofs [h]

@[simp] theorem onPumpRow_moved {p : PumpId} {oldNode : Nat} (h : Trunk.Moved K true a s.trunk) :
    Trunk.Moved K true a (onPumpRow p oldNode s).trunk := by
  unfold onPumpRow
  repeat' split
  all_goals simp -implicitDefEqProofs [h]

@[simp] theorem handMove_moved {old : Conn} (hmark : K .bankFillMark) (hready : K .bankReady)
    (hexhausted : K .banksExhausted) (hactivity : K .activity) (h : Trunk.Moved K true a s.trunk) :
    Trunk.Moved K true a (handMove old s).trunk := by
  unfold handMove
  simp -implicitDefEqProofs [hmark, hready, hexhausted, hactivity, h]

@[simp] theorem refuseCommand_moved {code : HandlerCode} {r : Reason}
    (hrefused : K .interlockRefused) (h : Trunk.Moved K P a s.trunk) :
    Trunk.Moved K P a (refuseCommand code r s).trunk := by
  unfold refuseCommand
  simp -implicitDefEqProofs [hrefused, h]

@[simp] theorem mismatch_moved {code : HandlerCode} {cause : Nat} (htally : K .tallyMismatch)
    (h : Trunk.Moved K true a s.trunk) : Trunk.Moved K true a (mismatch code cause s).trunk := by
  unfold mismatch
  dsimp only
  simp -implicitDefEqProofs [htally, h]

@[simp] theorem completeCommand_moved {r : Report} (htally : K .tallyMismatch)
    (hmark : K .bankFillMark) (hready : K .bankReady) (hexhausted : K .banksExhausted)
    (hactivity : K .activity) (h : Trunk.Moved K true a s.trunk) :
    Trunk.Moved K true a (completeCommand r s).trunk := by
  unfold completeCommand
  dsimp only
  repeat' split
  all_goals simp -implicitDefEqProofs [htally, hmark, hready, hexhausted, hactivity, h]

@[simp] theorem okReport_moved {r : Report} (htally : K .tallyMismatch) (hmark : K .bankFillMark)
    (hready : K .bankReady) (hexhausted : K .banksExhausted) (hactivity : K .activity)
    (h : Trunk.Moved K true a s.trunk) : Trunk.Moved K true a (okReport r s).trunk := by
  unfold okReport
  repeat' split
  all_goals simp -implicitDefEqProofs [htally, hmark, hready, hexhausted, hactivity, h]

@[simp] theorem failedReport_moved {r : Report} (hfailed : K .handlerFailed)
    (h : Trunk.Moved K P a s.trunk) : Trunk.Moved K P a (failedReport r s).trunk := by
  unfold failedReport
  repeat' split
  all_goals simp -implicitDefEqProofs [hfailed, h]

@[simp] theorem handlerReport_moved {payload : List Byte} (hfailed : K .handlerFailed)
    (htally : K .tallyMismatch) (hmark : K .bankFillMark) (hready : K .bankReady)
    (hexhausted : K .banksExhausted) (hactivity : K .activity) (h : Trunk.Moved K true a s.trunk) :
    Trunk.Moved K true a (handlerReport payload s).trunk := by
  unfold handlerReport
  repeat' split
  all_goals simp -implicitDefEqProofs [hfailed, htally, hmark, hready, hexhausted, hactivity, h]

@[simp] theorem handlerExpiry_moved {p : PendingCommand} (htimeout : K .handlerTimeout)
    (h : Trunk.Moved K P a s.trunk) : Trunk.Moved K P a (handlerExpiry p s).trunk := by
  unfold handlerExpiry
  simp -implicitDefEqProofs [htimeout, h]

@[simp] theorem collectStrokes_moved {p : PumpId} {delta : Nat} (hcount : K .pumpCountJump)
    (h : Trunk.Moved K P a s.trunk) : Trunk.Moved K P a (collectStrokes p delta s).trunk := by
  unfold collectStrokes
  repeat' split
  all_goals simp -implicitDefEqProofs [hcount, h]

@[simp] theorem notifyState_moved {old : CircState} {q : Nat} (hloss : K .loss) (hgain : K .gain)
    (hstate : K .circulationState) (h : Trunk.Moved K P a s.trunk) :
    Trunk.Moved K P a (notifyState old q s).trunk := by
  unfold notifyState
  repeat' split
  all_goals simp -implicitDefEqProofs [hloss, hgain, hstate, h]

@[simp] theorem handPeriodResult_moved {pumped : Bool} {r : PeriodRecord} {mark : Bool}
    (h : Trunk.Moved K P a s.trunk) :
    Trunk.Moved K P a (handPeriodResult pumped r mark s).trunk := by
  unfold handPeriodResult
  dsimp only
  repeat' split
  all_goals simp -implicitDefEqProofs [h]

@[simp] theorem workPeriod_moved (hloss : K .loss) (hgain : K .gain) (hstate : K .circulationState)
    (h : Trunk.Moved K P a s.trunk) : Trunk.Moved K P a (workPeriod s).trunk := by
  unfold workPeriod
  dsimp only
  repeat' split
  all_goals simp -implicitDefEqProofs [hloss, hgain, hstate, h]

@[simp] theorem endPeriod_moved (hfollow : K .pumpNotFollowing) (hloss : K .loss) (hgain : K .gain)
    (hstate : K .circulationState) (hmark : K .bankFillMark) (hready : K .bankReady)
    (hexhausted : K .banksExhausted) (hactivity : K .activity) (h : Trunk.Moved K P a s.trunk) :
    Trunk.Moved K P a (endPeriod s).trunk := by
  unfold endPeriod
  refine react_moved hmark hready hexhausted hactivity ?_
  rw [endMovementPeriod_trunk, beginPeriod_trunk]
  exact workPeriod_moved hloss hgain hstate (judgePeriod_moved hfollow (judgePeriod_moved hfollow h))

@[simp] theorem clearByLoad_moved {dropMean : Bool} (hloss : K .loss) (hgain : K .gain)
    (hstate : K .circulationState) (h : Trunk.Moved K P a s.trunk) :
    Trunk.Moved K P a (clearByLoad dropMean s).trunk := by
  unfold clearByLoad
  dsimp only
  repeat' split
  all_goals simp -implicitDefEqProofs [hloss, hgain, hstate, h]

@[simp] theorem wake_moved {cause : WakeCause} (hwake : K .wake) (h : Trunk.Moved K P a s.trunk) :
    Trunk.Moved K P a (wake cause s).trunk := by
  unfold wake
  dsimp only
  repeat' split
  all_goals simp -implicitDefEqProofs [hwake, h]

@[simp] theorem changeMode_moved {m : Mode} (h : Trunk.Moved K true a s.trunk) :
    Trunk.Moved K true a (changeMode m s).trunk := by
  unfold changeMode
  repeat' split
  all_goals simp -implicitDefEqProofs [h]

@[simp] theorem goStandby_moved (h : Trunk.Moved K true a s.trunk) :
    Trunk.Moved K true a (goStandby s).trunk := by
  unfold goStandby
  simp -implicitDefEqProofs [h]

@[simp] theorem endStarting_moved (hcomplete : K .startComplete) (hmark : K .bankFillMark)
    (hready : K .bankReady) (hexhausted : K .banksExhausted) (hactivity : K .activity)
    (h : Trunk.Moved K true a s.trunk) : Trunk.Moved K true a (endStarting s).trunk := by
  unfold endStarting
  dsimp only
  refine raise_moved hcomplete (react_moved hmark hready hexhausted hactivity ?_)
  repeat' split
  all_goals simp -implicitDefEqProofs [h]

@[simp] theorem checkStarting_moved (hcomplete : K .startComplete) (hmark : K .bankFillMark)
    (hready : K .bankReady) (hexhausted : K .banksExhausted) (hactivity : K .activity)
    (h : Trunk.Moved K true a s.trunk) : Trunk.Moved K true a (checkStarting s).trunk := by
  unfold checkStarting
  repeat' split
  all_goals simp -implicitDefEqProofs [hcomplete, hmark, hready, hexhausted, hactivity, h]

@[simp] theorem wakeByRotation_moved (hwake : K .wake) (h : Trunk.Moved K P a s.trunk) :
    Trunk.Moved K P a (wakeByRotation s).trunk := by
  unfold wakeByRotation
  repeat' split
  all_goals simp -implicitDefEqProofs [hwake, h]

@[simp] theorem deliver_moved {i : InputId} {v : Int} (hwake : K .wake) (htrip : K .pressureTrip)
    (hmark : K .bankFillMark) (hready : K .bankReady) (hexhausted : K .banksExhausted)
    (hactivity : K .activity) (h : Trunk.Moved K true a s.trunk) :
    Trunk.Moved K true a (deliver i v s).trunk := by
  unfold deliver
  repeat' split
  all_goals simp -implicitDefEqProofs [hwake, htrip, hmark, hready, hexhausted, hactivity, h]

@[simp] theorem acceptValue_moved {i : InputId} {x : Int} (hwake : K .wake)
    (htrip : K .pressureTrip) (hmark : K .bankFillMark) (hready : K .bankReady)
    (hexhausted : K .banksExhausted) (hactivity : K .activity) (h : Trunk.Moved K true a s.trunk) :
    Trunk.Moved K true a (acceptValue i x s).trunk := by
  unfold acceptValue
  simp -implicitDefEqProofs [hwake, htrip, hmark, hready, hexhausted, hactivity, h]

@[simp] theorem startRunning_moved {p : PumpId} (hwake : K .wake) (h : Trunk.Moved K P a s.trunk) :
    Trunk.Moved K P a (startRunning p s).trunk := by
  unfold startRunning
  dsimp only
  repeat' split
  all_goals simp -implicitDefEqProofs [hwake, h]

@[simp] theorem acceptStrokes_moved {p : PumpId} {c : Nat} (hwake : K .wake)
    (hcount : K .pumpCountJump) (hmark : K .bankFillMark) (hready : K .bankReady)
    (hexhausted : K .banksExhausted) (hactivity : K .activity) (h : Trunk.Moved K P a s.trunk) :
    Trunk.Moved K P a (acceptStrokes p c s).trunk := by
  unfold acceptStrokes
  dsimp only
  have hfresh : ∀ t : State, t.trunk = s.trunk →
      Trunk.Moved K P a (freshen (strokeInput p) t).trunk := fun t ht => by
    rw [freshen_trunk, ht]
    exact h
  have hcollect : ∀ d t, t.trunk = s.trunk →
      Trunk.Moved K P a (collectStrokes p d (freshen (strokeInput p) t)).trunk :=
    fun _ _ ht => collectStrokes_moved hcount (hfresh _ ht)
  split
  · exact hfresh _ rfl
  · refine react_moved hmark hready hexhausted hactivity ?_
    split
    · exact startRunning_moved hwake (hcollect _ _ rfl)
    · exact hcollect _ _ rfl

@[simp] theorem acceptHead_moved {n : Int} (hjump : K .depthJump) (hmark : K .bankFillMark)
    (hready : K .bankReady) (hexhausted : K .banksExhausted) (hactivity : K .activity)
    (h : Trunk.Moved K P a s.trunk) : Trunk.Moved K P a (acceptHead n s).trunk := by
  unfold acceptHead
  dsimp only
  repeat' split
  all_goals simp -implicitDefEqProofs [hjump, hmark, hready, hexhausted, hactivity, h]

@[simp] theorem accept_moved {i : InputId} {x : Int} (hwake : K .wake) (hcount : K .pumpCountJump)
    (hjump : K .depthJump) (htrip : K .pressureTrip) (hmark : K .bankFillMark)
    (hready : K .bankReady) (hexhausted : K .banksExhausted) (hactivity : K .activity)
    (h : Trunk.Moved K true a s.trunk) : Trunk.Moved K true a (accept i x s).trunk := by
  unfold accept
  repeat' split
  all_goals simp -implicitDefEqProofs [hwake, hcount, hjump, htrip, hmark, hready, hexhausted, hactivity, h]

@[simp] theorem condition_moved {f : Frame} (hwake : K .wake) (hcount : K .pumpCountJump)
    (hjump : K .depthJump) (htrip : K .pressureTrip) (hmark : K .bankFillMark)
    (hready : K .bankReady) (hexhausted : K .banksExhausted) (hactivity : K .activity)
    (h : Trunk.Moved K true a s.trunk) : Trunk.Moved K true a (condition f s).trunk := by
  unfold condition
  repeat' split
  all_goals simp -implicitDefEqProofs [hwake, hcount, hjump, htrip, hmark, hready, hexhausted, hactivity, h]

@[simp] theorem goStale_moved {i : InputId} (hlost : K .inputLost) (hmark : K .bankFillMark)
    (hready : K .bankReady) (hexhausted : K .banksExhausted) (hactivity : K .activity)
    (h : Trunk.Moved K P a s.trunk) : Trunk.Moved K P a (goStale i s).trunk := by
  unfold goStale
  dsimp only
  repeat' split
  all_goals simp -implicitDefEqProofs [hlost, hmark, hready, hexhausted, hactivity, h]

@[simp] theorem stopRunning_moved {p : PumpId} (hmark : K .bankFillMark) (hready : K .bankReady)
    (hexhausted : K .banksExhausted) (hactivity : K .activity) (h : Trunk.Moved K P a s.trunk) :
    Trunk.Moved K P a (stopRunning p s).trunk := by
  unfold stopRunning
  simp -implicitDefEqProofs [hmark, hready, hexhausted, hactivity, h]

@[simp] theorem secondTickWork_moved (hticket : K .ticketReady) (hready : K .bankReady)
    (hdeferred : K .ticketDeferred) (h : Trunk.Moved K true a s.trunk) :
    Trunk.Moved K true a (secondTickWork s).trunk := by
  unfold secondTickWork
  dsimp only
  have hramp : ∀ t : State, Trunk.Moved K true a t.trunk →
      Trunk.Moved K true a (eachPump rampPump t).trunk := fun t ht =>
    eachPump_moved (fun p u hu => by simp -implicitDefEqProofs [hu]) ht
  simp -implicitDefEqProofs [hticket, hready, hdeferred, hramp, h]

@[simp] theorem expireHandler_moved (htimeout : K .handlerTimeout) (h : Trunk.Moved K P a s.trunk) :
    Trunk.Moved K P a (expireHandler s).trunk := by
  unfold expireHandler
  repeat' split
  all_goals simp -implicitDefEqProofs [htimeout, h]

@[simp] theorem expireStartHold_moved (hcomplete : K .startComplete) (hmark : K .bankFillMark)
    (hready : K .bankReady) (hexhausted : K .banksExhausted) (hactivity : K .activity)
    (h : Trunk.Moved K true a s.trunk) : Trunk.Moved K true a (expireStartHold s).trunk := by
  unfold expireStartHold
  simp -implicitDefEqProofs [hcomplete, hmark, hready, hexhausted, hactivity, h]

@[simp] theorem storeSettings_moved {r : Settings} (hloss : K .loss) (hgain : K .gain)
    (hstate : K .circulationState) (hmark : K .bankFillMark) (hready : K .bankReady)
    (hexhausted : K .banksExhausted) (hactivity : K .activity) (h : Trunk.Moved K P a s.trunk) :
    Trunk.Moved K P a (storeSettings r s).trunk := by
  unfold storeSettings
  dsimp only
  repeat' split
  all_goals simp -implicitDefEqProofs [hloss, hgain, hstate, hmark, hready, hexhausted, hactivity, h]

@[simp] theorem storeChannel_moved {i : InputId} {r : ChannelRow} (hloss : K .loss)
    (hgain : K .gain) (hstate : K .circulationState) (hmark : K .bankFillMark)
    (hready : K .bankReady) (hexhausted : K .banksExhausted) (hactivity : K .activity)
    (h : Trunk.Moved K P a s.trunk) : Trunk.Moved K P a (storeChannel i r s).trunk := by
  unfold storeChannel
  dsimp only
  repeat' split
  all_goals simp -implicitDefEqProofs [hloss, hgain, hstate, hmark, hready, hexhausted, hactivity, h]

@[simp] theorem storePump_moved {p : PumpId} {r : PumpRow} (hloss : K .loss) (hgain : K .gain)
    (hstate : K .circulationState) (hmark : K .bankFillMark) (hready : K .bankReady)
    (hexhausted : K .banksExhausted) (hactivity : K .activity) (h : Trunk.Moved K true a s.trunk) :
    Trunk.Moved K true a (storePump p r s).trunk := by
  exact react_moved hmark hready hexhausted hactivity
    (clearByLoad_moved hloss hgain hstate (onPumpRow_moved h))

@[simp] theorem storeLimits_moved {r : Limits} (hmark : K .bankFillMark) (hready : K .bankReady)
    (hexhausted : K .banksExhausted) (hactivity : K .activity) (h : Trunk.Moved K P a s.trunk) :
    Trunk.Moved K P a (storeLimits r s).trunk := by
  unfold storeLimits
  dsimp only
  repeat' split
  all_goals simp -implicitDefEqProofs [hmark, hready, hexhausted, hactivity, h]

@[simp] theorem storeDefaults_moved (h : Trunk.Moved K true a s.trunk) :
    Trunk.Moved K true a (storeDefaults s).trunk := by
  unfold storeDefaults
  dsimp only
  refine onPumpRow_moved (onPumpRow_moved ?_)
  simpa using h

@[simp] theorem afterRelease_moved (hticket : K .ticketReady) (hready : K .bankReady)
    (h : Trunk.Moved K P a s.trunk) : Trunk.Moved K P a (afterRelease s).trunk := by
  unfold afterRelease
  repeat' split
  all_goals simp -implicitDefEqProofs [hticket, hready, h]

@[simp] theorem restoreAreas_moved {lost : FailedAreas} (hmark : K .bankFillMark)
    (hready : K .bankReady) (hexhausted : K .banksExhausted) (hactivity : K .activity)
    (h : Trunk.Moved K true a s.trunk) : Trunk.Moved K true a (restoreAreas lost s).trunk := by
  unfold restoreAreas restoreTables restoreString restoreDepth
  dsimp only
  have hjob : ∀ t : State, (restoreJob t).trunk = t.trunk := fun _ => rfl
  repeat' split
  all_goals simp -implicitDefEqProofs [hmark, hready, hexhausted, hactivity, hjob, h]

@[simp] theorem completeChecks_moved {failed : FailedAreas} (hcomplete : K .startComplete)
    (hmark : K .bankFillMark) (hready : K .bankReady) (hexhausted : K .banksExhausted)
    (hactivity : K .activity) (h : Trunk.Moved K true a s.trunk) :
    Trunk.Moved K true a (completeChecks failed s).trunk := by
  unfold completeChecks
  dsimp only
  repeat' split
  all_goals simp -implicitDefEqProofs [hcomplete, hmark, hready, hexhausted, hactivity, h]

end Moves

end Sys2Proof.Machine
end

section
/-! What a move of the trunk keeps: the queues' bounds (R156, R158, R161), the ports' other parts, and the
notices of other kinds. -/

namespace Sys2Proof.Machine

/-! ### The notice queues -/

theorem Notice.sameAs_iff (n q : Notice) :
    n.sameAs q = true ↔ q.kind = n.kind ∧ q.subject = n.subject := by
  simp [Notice.sameAs]

theorem Notice.sameAs_eq_false_iff (n q : Notice) :
    n.sameAs q = false ↔ ¬(q.kind = n.kind ∧ q.subject = n.subject) := by
  rw [← Notice.sameAs_iff, Bool.not_eq_true]

theorem Notice.sameAs_congr {n q n' q' : Notice} (hn : n'.kind = n.kind ∧ n'.subject = n.subject)
    (hq : q'.kind = q.kind ∧ q'.subject = q.subject) : n'.sameAs q' = n.sameAs q := by
  simp [Notice.sameAs, hn, hq]

theorem Trunk.joinUrgent_bounded {t : Trunk} (n : Notice) (h : t.bounded) : (t.joinUrgent n).bounded := by
  obtain ⟨hcab, hfield, hurgent, hrest⟩ := h
  rcases t.joinUrgent_cases n with ⟨hroom, he⟩ | ⟨-, he⟩ <;> rw [he]
  · exact ⟨hcab, hfield, by simpa using hroom, hrest⟩
  · exact ⟨hcab, hfield, hurgent, hrest⟩

theorem Trunk.joinGeneral_bounded {t : Trunk} (n : Notice) (h : t.bounded) :
    (t.joinGeneral n).bounded := by
  obtain ⟨hcab, hfield, hurgent, hgeneral, hnodes, hpair⟩ := h
  have hlength := t.joinGeneral_length n hgeneral
  rw [Trunk.joinGeneral_other] at hlength ⊢
  refine ⟨hcab, hfield, hurgent, hlength, hnodes, ?_⟩
  dsimp only
  unfold Trunk.joinGeneral
  split
  · refine List.pairwise_map.mpr (hpair.imp fun {a b} hab => ?_)
    refine (Notice.sameAs_congr ?_ ?_).trans hab <;> split <;> exact ⟨rfl, rfl⟩
  · next hnone =>
    split
    · refine List.pairwise_append.mpr ⟨hpair, List.pairwise_singleton _ _, fun a ha b hb => ?_⟩
      obtain rfl := List.mem_singleton.mp hb
      rw [Notice.sameAs_eq_false_iff]
      rintro ⟨hkind, hsubject⟩
      exact hnone (List.any_eq_true.mpr ⟨a, ha, (Notice.sameAs_iff _ _).mpr ⟨hkind.symm, hsubject.symm⟩⟩)
    · exact hpair

theorem Trunk.join_bounded {t : Trunk} (n : Notice) (h : t.bounded) : (t.join n).bounded := by
  unfold Trunk.join
  split
  · exact joinUrgent_bounded n h
  · exact joinGeneral_bounded n h

/-! ### The field setpoint queue -/

theorem Trunk.queueSetpoint_nodup {t : Trunk} (e : SetpointEntry)
    (h : (t.setpoints.map SetpointEntry.node).Nodup) :
    ((t.queueSetpoint e).setpoints.map SetpointEntry.node).Nodup := by
  rw [Trunk.queueSetpoint_nodes]
  split
  · exact h
  · next hnone =>
    refine List.nodup_append.mpr ⟨h, List.nodup_singleton _, fun a ha b hb => ?_⟩
    obtain rfl := List.mem_singleton.mp hb
    rintro rfl
    obtain ⟨q, hq, hnode⟩ := List.mem_map.mp ha
    exact hnone (List.any_eq_true.mpr ⟨q, hq, by simpa using hnode⟩)

theorem filter_node_nodup {l : List SetpointEntry} (node : Nat)
    (h : (l.map SetpointEntry.node).Nodup) :
    ((l.filter (·.node != node)).map SetpointEntry.node).Nodup :=
  h.sublist (List.filter_sublist.map _)

theorem Trunk.headZero_nodup {t : Trunk} (node : Nat) (src : Addr)
    (h : (t.setpoints.map SetpointEntry.node).Nodup) :
    ((t.headZero node src).setpoints.map SetpointEntry.node).Nodup := by
  rw [Trunk.headZero, List.map_cons, List.nodup_cons]
  refine ⟨fun hmem => ?_, filter_node_nodup node h⟩
  obtain ⟨q, hq, hnode⟩ := List.mem_map.mp hmem
  simp_all

/-! ### What every move keeps -/

section Moved

variable {K : NoticeKind → Prop} {P : Bool} {t u : Trunk}

theorem Trunk.Moved.bounded (h : Trunk.Moved K P t u) (ht : t.bounded) : u.bounded := by
  induction h with
  | refl => exact ht
  | notice _ n _ ih => exact join_bounded n ih
  | setpoint _ _ e ih =>
    obtain ⟨hcab, hfield, hurgent, hgeneral, hnodes, hpair⟩ := ih
    rw [Trunk.queueSetpoint_other]
    exact ⟨hcab, hfield, hurgent, hgeneral, queueSetpoint_nodup e hnodes, hpair⟩
  | zero _ _ node src ih =>
    obtain ⟨hcab, hfield, hurgent, hgeneral, hnodes, hpair⟩ := ih
    exact ⟨hcab, hfield, hurgent, hgeneral, headZero_nodup node src hnodes, hpair⟩
  | drop _ _ node ih =>
    obtain ⟨hcab, hfield, hurgent, hgeneral, hnodes, hpair⟩ := ih
    exact ⟨hcab, hfield, hurgent, hgeneral, filter_node_nodup node hnodes, hpair⟩

/-- A move changes the notice queues, the overflow flag and the setpoint queue only. -/
theorem Trunk.Moved.other (h : Trunk.Moved K P t u) : u = { t with
    urgent := u.urgent, general := u.general, overflow := u.overflow, setpoints := u.setpoints } := by
  induction h with
  | refl => rfl
  | @notice u _ n _ ih =>
    rw [Trunk.join_other, ih]
  | @setpoint u _ _ e ih =>
    rw [Trunk.queueSetpoint_other, ih]
  | @zero u _ _ node src ih =>
    rw [Trunk.headZero, ih]
  | @drop u _ _ node ih =>
    rw [Trunk.dropSetpoint, ih]

theorem Trunk.join_setpoints (t : Trunk) (n : Notice) : (t.join n).setpoints = t.setpoints := by
  rw [Trunk.join_other]

/-- Where no pump is moved the setpoint queue stands. -/
theorem Trunk.Moved.setpoints_eq (h : Trunk.Moved K false t u) : u.setpoints = t.setpoints := by
  induction h with
  | refl => rfl
  | notice _ n _ ih => rw [Trunk.join_setpoints, ih]
  | setpoint _ hp => cases hp
  | zero _ hp => cases hp
  | drop _ hp => cases hp

theorem Trunk.Moved.replySlot_eq (h : Trunk.Moved K P t u) : u.replySlot = t.replySlot := by
  rw [h.other]

theorem Trunk.Moved.mono {K' : NoticeKind → Prop} (h : Trunk.Moved K P t u) (hK : ∀ k, K k → K' k) :
    Trunk.Moved K' P t u := by
  induction h with
  | refl => exact .refl
  | notice _ n hn ih => exact ih.notice n (hK _ hn)
  | setpoint _ hp e ih => exact ih.setpoint hp e
  | zero _ hp node src ih => exact ih.zero hp node src
  | drop _ hp node ih => exact ih.drop hp node

theorem Trunk.Moved.withPumps (h : Trunk.Moved K P t u) : Trunk.Moved K true t u := by
  induction h with
  | refl => exact .refl
  | notice _ n hn ih => exact ih.notice n hn
  | setpoint _ _ e ih => exact ih.setpoint rfl e
  | zero _ _ node src ih => exact ih.zero rfl node src
  | drop _ _ node ih => exact ih.drop rfl node

end Moved

/-! ### The events' other changes of the trunk -/

theorem State.offerCab_bounded {s : State} (f : Frame) (h : s.trunk.bounded) :
    (s.offerCab f).trunk.bounded := by
  obtain ⟨hcab, hrest⟩ := h
  rw [State.offerCab, State.onTrunk_trunk]
  split
  · next hroom => exact ⟨by simpa using hroom, hrest⟩
  · exact ⟨hcab, hrest⟩

theorem State.offerField_bounded {s : State} (f : Frame) (h : s.trunk.bounded) :
    (s.offerField f).trunk.bounded := by
  obtain ⟨hcab, hfield, hrest⟩ := h
  rw [State.offerField, State.onTrunk_trunk]
  split
  · next hroom => exact ⟨hcab, by simpa using hroom, hrest⟩
  · exact ⟨hcab, hfield, hrest⟩

/-- The choices of the transmitters only take frames out of the queues. -/
theorem Trunk.cabArbiter_bounded {t : Trunk} (h : t.bounded) : t.cabArbiter.bounded := by
  obtain ⟨hcab, hfield, hurgent, hgeneral, hnodes, hpair⟩ := h
  unfold Trunk.cabArbiter
  split
  case h_1 => exact ⟨hcab, hfield, hurgent, hgeneral, hnodes, hpair⟩
  case h_2 => exact ⟨hcab, hfield, hurgent, hgeneral, hnodes, hpair⟩
  case h_3 heq =>
    rw [heq] at hurgent
    exact ⟨hcab, hfield, (Nat.le_succ _).trans hurgent, hgeneral, hnodes, hpair⟩
  case h_4 heq =>
    rw [heq] at hcab
    exact ⟨(Nat.le_succ _).trans hcab, hfield, hurgent, hgeneral, hnodes, hpair⟩
  case h_5 heq =>
    rw [heq] at hgeneral hpair
    exact ⟨hcab, hfield, hurgent, (Nat.le_succ _).trans hgeneral, hnodes, hpair.of_cons⟩
  case h_6 => exact ⟨hcab, hfield, hurgent, hgeneral, hnodes, hpair⟩

theorem Trunk.fieldArbiter_bounded {t : Trunk} (h : t.bounded) : t.fieldArbiter.bounded := by
  obtain ⟨hcab, hfield, hurgent, hgeneral, hnodes, hpair⟩ := h
  unfold Trunk.fieldArbiter
  split
  case h_1 => exact ⟨hcab, hfield, hurgent, hgeneral, hnodes, hpair⟩
  case h_2 heq =>
    rw [heq] at hnodes
    exact ⟨hcab, hfield, hurgent, hgeneral, (List.nodup_cons.mp hnodes).2, hpair⟩
  case h_3 heq =>
    rw [heq] at hfield
    exact ⟨hcab, (Nat.le_succ _).trans hfield, hurgent, hgeneral, hnodes, hpair⟩
  case h_4 => exact ⟨hcab, hfield, hurgent, hgeneral, hnodes, hpair⟩

theorem transmit_bounded {s : State} (h : s.trunk.bounded) : (transmit s).trunk.bounded :=
  Trunk.fieldArbiter_bounded (Trunk.cabArbiter_bounded h)

/-! ### The works of the events -/

/-- The state changes of the requests reach the trunk by notices and setpoints alone. -/
theorem RequestEffect.moved {s w : State} {code : Nat} (h : RequestEffect s code w) :
    Trunk.Moved (fun _ => True) true s.trunk w.trunk := by
  have hrefl : Trunk.Moved (fun _ => True) true s.trunk s.trunk := .refl
  cases h with
  | clearTables =>
    exact react_moved trivial trivial trivial trivial
      (clearByLoad_moved trivial trivial trivial (storeDefaults_moved hrefl))
  | setMode =>
    exact react_moved trivial trivial trivial trivial
      (changeMode_moved (wake_moved trivial hrefl))
  | bhaAdd => exact handLength_moved trivial trivial trivial trivial hrefl
  | bhaRemove => exact handLength_moved trivial trivial trivial trivial hrefl
  | holdToSlot => exact handConn_moved hrefl
  | jobOpen =>
    rw [recorderJobOpen_trunk]
    exact hrefl
  | releaseTicket => exact afterRelease_moved trivial trivial hrefl
  | jobClose =>
    exact finalTicketIfDue_moved trivial trivial trivial
      (recorderJobClose_moved trivial trivial hrefl)
  | _ => simp -implicitDefEqProofs [hrefl]

theorem setpointArrival_bounded {s : State} (f : Frame) (h : s.trunk.bounded) :
    (setpointArrival f s).trunk.bounded := by
  have hoffer := State.offerField_bounded f h
  unfold setpointArrival
  split
  · next p _ =>
    unfold pumpSetpointFrame
    split
    · split
      · exact (judgeSetpoint_moved (K := fun _ => True) trivial .refl).bounded h
      · exact h
    · split <;> exact h
    · split <;> exact hoffer
  · split
    · unfold handlerFrame
      split
      · exact hoffer
      · split
        · simpa using hoffer
        · exact hoffer
      · split
        · unfold judgedCommand
          split
          · exact (refuseCommand_moved (K := fun _ => True) (P := true) trivial .refl).bounded h
          · simpa using hoffer
        · simpa using h
    · exact hoffer

theorem serveFrame_bounded {s : State} (f : Frame) (h : s.trunk.bounded) :
    (serveFrame f s).trunk.bounded := by
  rcases serveFrame_cases f s with he | ⟨w, r, he, rfl | rfl | ⟨-, heffect⟩⟩ <;> rw [he]
  · exact h
  · exact h
  · exact h
  · exact heffect.moved.bounded h

theorem cabArrival_bounded {s : State} (f : Frame) (h : s.trunk.bounded) :
    (cabArrival f s).trunk.bounded := by
  unfold cabArrival
  split
  · split
    · exact serveFrame_bounded f h
    · exact h
  · split
    · exact setpointArrival_bounded f h
    · exact State.offerField_bounded f h

theorem fieldArrival_moved (f : Frame) (s : State) :
    Trunk.Moved (fun _ => True) true (s.offerCab f).trunk (fieldArrival f s).trunk := by
  have hrefl : Trunk.Moved (fun _ => True) true (s.offerCab f).trunk (s.offerCab f).trunk := .refl
  unfold fieldArrival
  dsimp only
  have hcond := condition_moved (f := f) trivial trivial trivial trivial trivial trivial trivial trivial hrefl
  refine checkStarting_moved trivial trivial trivial trivial trivial ?_
  split
  · exact handlerReport_moved trivial trivial trivial trivial trivial trivial hcond
  · exact hcond

theorem Trunk.afterReset_bounded : Trunk.afterReset.bounded := by
  simp [Trunk.bounded, Trunk.afterReset]

theorem Works.bounded {s w : State} {c : Instr} (h : Works s c w) (hs : s.trunk.bounded) :
    w.trunk.bounded := by
  have hrefl : Trunk.Moved (fun _ => True) true s.trunk s.trunk := .refl
  cases h with
  | fieldFrame _ f => exact (fieldArrival_moved f s).bounded (State.offerCab_bounded f hs)
  | cabFrame _ f => exact cabArrival_bounded f hs
  | fieldError => exact hs
  | cabError => exact hs
  | fieldSent => exact hs
  | cabSent =>
    unfold endCabSend
    split
    · exact Trunk.afterReset_bounded
    · exact hs
  | reset => exact Trunk.afterReset_bounded
  | _ =>
    refine Trunk.Moved.bounded (K := fun _ => True) (P := true) (t := s.trunk) ?_ hs
    simp -implicitDefEqProofs [hrefl]

/-- The queues keep within their capacities (R156, R158, R161). -/
theorem step_bounded {s t : State} (h : step s = .next t) (hs : s.trunk.bounded) : t.trunk.bounded :=
  step_keeps (P := fun s => s.trunk.bounded) (fun _ _ h => h) (fun _ h => h)
    (fun _ => transmit_bounded) (fun _ _ _ => Works.bounded) h hs

end Sys2Proof.Machine
end

section
/-! The laws of the pumps and of their waiting setpoints: what each operation of Pump Control leaves of a
pump and of the setpoint queue (chapter 3, R158). -/

namespace Sys2Proof.Machine

/-! ### The law of one pump (R38, R41, R43) -/

/-- The rates and control state of a pump agree with its use, the hold and its max rate. -/
def Pump.fits (used held : Bool) (top : Nat) (u : Pump) : Prop :=
  (used = false ∨ held = true → u.requested = 0 ∧ u.commanded = 0) ∧
  (u.commanded ≤ u.requested ∧ u.requested ≤ top) ∧
  (used = true →
    match u.control with
    | .stopped | .forcedOff => u.requested = 0 ∧ u.commanded = 0
    | .ramping | .rampHeld => u.commanded < u.requested
    | .steady => 0 < u.requested ∧ u.commanded = u.requested)

/-- Each pump fits its row and the hold. -/
def State.pumpsFit (s : State) : Prop :=
  ∀ p : PumpId, (s.pump p).fits (s.used p) s.heldAtZero (s.pumpRow p).maxRate

theorem State.pumpLaw_iff (s : State) : s.pumpLaw ↔ s.startModeLegal ∧ s.pumpsFit := by
  constructor
  · rintro ⟨hmode, hunused, hheld, hrates, hcontrol⟩
    exact ⟨hmode, fun p => ⟨fun h => h.elim (hunused p) fun hh => hheld hh p, hrates p, hcontrol p⟩⟩
  · rintro ⟨hmode, hfit⟩
    exact ⟨hmode, fun p h => (hfit p).1 (.inl h), fun h p => (hfit p).1 (.inr h), fun p => (hfit p).2.1,
      fun p => (hfit p).2.2⟩

section Fits

variable {used held : Bool} {top : Nat} {u v : Pump}

/-- A pump at zero that is STOPPED or FORCED_OFF fits every row and every hold. -/
theorem Pump.fits_of_zero (hr : u.requested = 0) (hc : u.commanded = 0)
    (hcontrol : u.control = .stopped ∨ u.control = .forcedOff) : u.fits used held top := by
  refine ⟨fun _ => ⟨hr, hc⟩, by omega, fun _ => ?_⟩
  rcases hcontrol with h | h <;> rw [h] <;> exact ⟨hr, hc⟩

/-- An unused pump at zero fits. -/
theorem Pump.fits_of_unused (hr : u.requested = 0) (hc : u.commanded = 0) : u.fits false held top :=
  ⟨fun _ => ⟨hr, hc⟩, by omega, nofun⟩

/-- The law reads the rates and the control state alone. -/
theorem Pump.fits_congr (hr : v.requested = u.requested) (hc : v.commanded = u.commanded)
    (hcontrol : v.control = u.control) (h : u.fits used held top) : v.fits used held top := by
  unfold Pump.fits at h ⊢
  rw [hr, hc, hcontrol]
  exact h

/-- A pump that fits under a hold is at zero, so it fits without one. -/
theorem Pump.fits_release (h : u.fits used true top) : u.fits used held top := by
  obtain ⟨hzero, hrates, hcontrol⟩ := h
  exact ⟨fun _ => hzero (.inr rfl), hrates, hcontrol⟩

/-- A control state set by R41 fits its rates. -/
theorem Pump.fits_controlOf {requested commanded : Nat} {rise : Bool} (hle : commanded ≤ requested)
    (htop : requested ≤ top) (hr : u.requested = requested) (hc : u.commanded = commanded)
    (hcontrol : u.control = controlOf requested commanded rise) : u.fits true false top := by
  refine ⟨by simp, by omega, fun _ => ?_⟩
  rw [hcontrol, hr, hc, controlOf]
  by_cases h0 : requested = 0
  · simp [h0]; omega
  · by_cases hlt : commanded < requested
    · cases rise <;> simp [h0, hlt]
    · simp [h0, hlt]; omega

end Fits

/-! ### What the operations leave of a pump -/

section PumpOps

variable (s : State) (p q : PumpId)

@[simp] theorem onPump_used (f : Pump → Pump) : (s.onPump p f).used q = s.used q := rfl
@[simp] theorem onPump_pumpRow (f : Pump → Pump) : (s.onPump p f).pumpRow q = s.pumpRow q := rfl
@[simp] theorem onPump_heldAtZero (f : Pump → Pump) : (s.onPump p f).heldAtZero = s.heldAtZero := rfl
@[simp] theorem onPump_mode (f : Pump → Pump) : (s.onPump p f).mode = s.mode := rfl
@[simp] theorem onPump_riseHeld (f : Pump → Pump) : (s.onPump p f).riseHeld = s.riseHeld := rfl
@[simp] theorem onPump_commanding (f : Pump → Pump) : (s.onPump p f).commanding = s.commanding := rfl
@[simp] theorem queueSetpoint_used (v : Nat) : (s.queueSetpoint p v).used q = s.used q := rfl
@[simp] theorem queueSetpoint_pumpRow (v : Nat) :
    (s.queueSetpoint p v).pumpRow q = s.pumpRow q := rfl
@[simp] theorem queueSetpoint_heldAtZero (v : Nat) :
    (s.queueSetpoint p v).heldAtZero = s.heldAtZero := rfl
@[simp] theorem queueSetpoint_mode (v : Nat) : (s.queueSetpoint p v).mode = s.mode := rfl
@[simp] theorem headZero_used : (s.headZero p).used q = s.used q := rfl
@[simp] theorem headZero_pumpRow : (s.headZero p).pumpRow q = s.pumpRow q := rfl
@[simp] theorem headZero_heldAtZero : (s.headZero p).heldAtZero = s.heldAtZero := rfl
@[simp] theorem headZero_mode : (s.headZero p).mode = s.mode := rfl

theorem queueSetpoint_pump (v : Nat) : (s.queueSetpoint p v).pump q =
    if p = q then { s.pump p with nodeRate := some v } else s.pump q :=
  State.onPump_pump (s.onTrunk _) p q _

theorem headZero_pump : (s.headZero p).pump q =
    if p = q then { s.pump p with nodeRate := some 0 } else s.pump q :=
  State.onPump_pump (s.onTrunk _) p q _

theorem changeRates_pump (requested commanded : Nat) : (changeRates p requested commanded s).pump q =
    if p = q then { s.pump p with
      requested := requested
      commanded := commanded
      control := if s.heldAtZero then .forcedOff else controlOf requested commanded s.riseHeld
      nodeRate := if s.commanding = true ∧ commanded ≠ (s.pump p).commanded then some commanded
        else (s.pump p).nodeRate }
    else s.pump q := by
  unfold changeRates
  dsimp only
  split <;> simp only [queueSetpoint_pump, State.onPump_pump, if_true] <;> split <;> rfl

theorem forceZero_pump : (forceZero p s).pump q =
    if p = q ∧ s.used p = true then { (s.pump p).atZero .forcedOff with
      nodeRate := if 0 < (s.pump p).commanded then some 0 else (s.pump p).nodeRate }
    else s.pump q := by
  unfold forceZero
  dsimp only
  split
  · split <;> simp only [queueSetpoint_pump, State.onPump_pump, *] <;> (split <;> simp_all [Pump.atZero])
  · simp_all

theorem forceHead_pump : (forceHead p s).pump q =
    if p = q ∧ s.used p = true then { (s.pump p).atZero .forcedOff with nodeRate := some 0 }
    else s.pump q := by
  unfold forceHead
  split
  · simp only [headZero_pump, State.onPump_pump, *]
    split <;> simp_all
  · simp_all

theorem State.used_congr {s t : State} (h : t.tables = s.tables) : t.used q = s.used q := by
  unfold State.used State.pumpRow
  rw [h]

theorem State.pumpRow_congr {s t : State} (h : t.tables = s.tables) : t.pumpRow q = s.pumpRow q := by
  unfold State.pumpRow
  rw [h]

@[simp] theorem forceZero_used : (forceZero p s).used q = s.used q :=
  State.used_congr q (forceZero_keeps p s .tables (by decide))

@[simp] theorem forceHead_used : (forceHead p s).used q = s.used q :=
  State.used_congr q (forceHead_keeps p s .tables (by decide))

/-- Both used pumps are forced to zero in the normal place (R43). -/
theorem eachPump_forceZero_pump : (eachPump forceZero s).pump q =
    if s.used q = true then { (s.pump q).atZero .forcedOff with
      nodeRate := if 0 < (s.pump q).commanded then some 0 else (s.pump q).nodeRate }
    else s.pump q := by
  simp only [eachPump, forceZero_pump, forceZero_used]
  fin_cases q <;> simp

/-- Both used pumps are forced to zero from the head of the queue (R44). -/
theorem forceBothHead_pump : (forceBothHead s).pump q =
    if s.used q = true then { (s.pump q).atZero .forcedOff with nodeRate := some 0 }
    else s.pump q := by
  simp only [forceBothHead, forceHead_pump, forceHead_used]
  fin_cases q <;> simp

theorem stopAfterReset_pump : (stopAfterReset p s).pump q =
    if p = q ∧ s.used p = true then
      (s.pump p).atZero (if s.heldAtZero then .forcedOff else .stopped)
    else s.pump q := by
  unfold stopAfterReset
  split <;> simp_all [State.onPump_pump]

/-- The open-string hold ends for a pump, as R47 says, in this mode. -/
def State.openStringEnds (s : State) (p : PumpId) : Bool :=
  match s.mode with
  | .supervised => !s.heldAtZero
  | .monitor => (s.pump p).control == .forcedOff && !s.pumpCtl.tripLatch
  | _ => false

theorem endOpenString_eq : endOpenString p s =
    if s.used p = true ∧ s.openStringEnds p = true then s.onPump p (Pump.atZero .stopped) else s := by
  unfold endOpenString State.openStringEnds
  simp only [Bool.and_eq_true] <;> rfl

theorem endOpenString_pump : (endOpenString p s).pump q =
    if p = q ∧ s.used p = true ∧ s.openStringEnds p = true then (s.pump p).atZero .stopped
    else s.pump q := by
  rw [endOpenString_eq]
  split
  · simp [State.onPump_pump, *]
  · rw [if_neg fun h => ‹¬_› h.2]

theorem adoptRecord_pump : (adoptRecord p s).pump q =
    if p = q ∧ s.used p = true then
      let record := (s.pump p).nodeRate.getD 0
      let top := (s.pumpRow p).maxRate
      { s.pump p with
        requested := min record top
        commanded := min record top
        saturated := decide (top < record)
        notFollowing := 0
        control := if min record top = 0 then .stopped else .steady }
    else s.pump q := by
  unfold adoptRecord
  split <;> simp_all [State.onPump_pump]

@[simp] theorem adoptRecord_used : (adoptRecord p s).used q = s.used q :=
  State.used_congr q (adoptRecord_keeps p s .tables (by decide))

@[simp] theorem adoptRecord_pumpRow : (adoptRecord p s).pumpRow q = s.pumpRow q :=
  State.pumpRow_congr q (adoptRecord_keeps p s .tables (by decide))

/-- Both used pumps adopt their node rate records (R49). -/
theorem eachPump_adoptRecord_pump : (eachPump adoptRecord s).pump q =
    if s.used q = true then
      let record := (s.pump q).nodeRate.getD 0
      let top := (s.pumpRow q).maxRate
      { s.pump q with
        requested := min record top
        commanded := min record top
        saturated := decide (top < record)
        notFollowing := 0
        control := if min record top = 0 then .stopped else .steady }
    else s.pump q := by
  simp only [eachPump, adoptRecord_pump, adoptRecord_used, adoptRecord_pumpRow]
  fin_cases q <;> simp

theorem enterMonitor_pump : (enterMonitor s).pump q = { s.pump q with
    nodeRate := if s.used q then some (s.pump q).commanded else (s.pump q).nodeRate
    notFollowing := 0 } := by
  simp only [enterMonitor, eachPump, State.onPump_pump, onPump_used]
  fin_cases q <;> simp

/-- The work of R51 on one pump at the entry into STANDBY. -/
def standbyPump (p : PumpId) (s : State) : State :=
  if s.used p then
    (s.onPump p fun u => { u.atZero .forcedOff with saturated := false }).queueSetpoint p 0
  else s

theorem enterStandby_eq : enterStandby = eachPump standbyPump := rfl

theorem standbyPump_pump : (standbyPump p s).pump q =
    if p = q ∧ s.used p = true then
      { (s.pump p).atZero .forcedOff with saturated := false, nodeRate := some 0 }
    else s.pump q := by
  unfold standbyPump
  split
  · simp only [queueSetpoint_pump, State.onPump_pump, if_true, *, and_true]
    split <;> rfl
  · simp [*]

@[simp] theorem standbyPump_used : (standbyPump p s).used q = s.used q := by
  unfold standbyPump
  split <;> rfl

theorem enterStandby_pump : (enterStandby s).pump q =
    if s.used q = true then { (s.pump q).atZero .forcedOff with saturated := false, nodeRate := some 0 }
    else s.pump q := by
  simp only [enterStandby_eq, eachPump, standbyPump_pump, standbyPump_used]
  fin_cases q <;> simp

/-- The work of R51 and R48 on one pump as STANDBY is left. -/
def leavePump (p : PumpId) (s : State) : State :=
  match s.mode with
  | .supervised =>
    if s.used p = true ∧ s.heldAtZero = false then s.onPump p (Pump.atZero .stopped) else s
  | _ =>
    s.onPump p fun u =>
      { (if s.used p then { u.atZero .stopped with nodeRate := some 0 } else u) with notFollowing := 0 }

theorem leaveStandby_eq : leaveStandby = eachPump leavePump := rfl

/-- What R51 and R48 leave of a pump as STANDBY is left. -/
def Pump.left (mode : Mode) (used held : Bool) (u : Pump) : Pump :=
  if mode = .supervised then (if used = true ∧ held = false then u.atZero .stopped else u)
  else { (if used then { u.atZero .stopped with nodeRate := some 0 } else u) with notFollowing := 0 }

theorem leavePump_pump : (leavePump p s).pump q =
    if p = q then (s.pump p).left s.mode (s.used p) s.heldAtZero else s.pump q := by
  unfold leavePump Pump.left
  split
  · next hmode =>
    rw [if_pos hmode]
    split
    · exact State.onPump_pump s p q _
    · split
      · next h => rw [h]
      · rfl
  · next hmode =>
    rw [if_neg hmode]
    exact State.onPump_pump s p q _

theorem leavePump_view : (∀ r, (leavePump p s).used r = s.used r) ∧ (leavePump p s).mode = s.mode ∧
    (leavePump p s).heldAtZero = s.heldAtZero := by
  unfold leavePump
  split
  · split <;> exact ⟨fun _ => rfl, rfl, rfl⟩
  · exact ⟨fun _ => rfl, rfl, rfl⟩

theorem leaveStandby_pump : (leaveStandby s).pump q =
    (s.pump q).left s.mode (s.used q) s.heldAtZero := by
  obtain ⟨hused, hmode, hheld⟩ := leavePump_view s 0
  simp only [leaveStandby_eq, eachPump, leavePump_pump, hused, hmode, hheld]
  fin_cases q <;> simp

end PumpOps

/-! ### The setpoint queue (R158) -/

/-- A node of a used pump. -/
def State.usedNode (s : State) (node : Nat) : Prop :=
  ∃ p : PumpId, (s.tables.pumps[p]).node ≠ 0 ∧ node = (s.tables.pumps[p]).node

theorem State.usedNode_of_used {s : State} {p : PumpId} (h : s.used p = true) :
    s.usedNode (s.pumpRow p).node := ⟨p, by simpa [State.used, State.pumpRow] using h, rfl⟩

/-- A setpoint queue of one entry for a node, each of them of used pumps. -/
def setpointsFit (N : Nat → Prop) (l : List SetpointEntry) : Prop :=
  (l.map SetpointEntry.node).Nodup ∧ ∀ e ∈ l, N e.node

/-- At most two setpoints wait, since there are two pumps. -/
theorem State.setpointLaw_iff (s : State) :
    s.setpointLaw ↔ setpointsFit s.usedNode s.trunk.setpoints := by
  refine ⟨fun ⟨hnodup, _, hused⟩ => ⟨hnodup, hused⟩, fun ⟨hnodup, hused⟩ => ⟨hnodup, ?_, hused⟩⟩
  have hsub : s.trunk.setpoints.map SetpointEntry.node ⊆
      [(s.tables.pumps[(0 : PumpId)]).node, (s.tables.pumps[(1 : PumpId)]).node] := by
    intro n hn
    obtain ⟨e, he, rfl⟩ := List.mem_map.mp hn
    obtain ⟨p, -, hp⟩ := hused e he
    rw [hp]
    fin_cases p <;> simp
  simpa using (hnodup.subperm hsub).length_le

section Setpoints

variable {N : Nat → Prop} {t : Trunk}

theorem Trunk.queueSetpoint_fits {e : SetpointEntry} (he : N e.node)
    (h : setpointsFit N t.setpoints) : setpointsFit N (t.queueSetpoint e).setpoints := by
  refine ⟨queueSetpoint_nodup e h.1, fun q hq => ?_⟩
  have hmem : q.node ∈ (t.queueSetpoint e).setpoints.map SetpointEntry.node := List.mem_map_of_mem hq
  have hold : ∀ n ∈ t.setpoints.map SetpointEntry.node, N n := by simpa using h.2
  rw [Trunk.queueSetpoint_nodes] at hmem
  split at hmem
  · exact hold _ hmem
  · rcases List.mem_append.mp hmem with hmem | hmem
    · exact hold _ hmem
    · rw [List.mem_singleton.mp hmem]
      exact he

theorem Trunk.headZero_fits {node : Nat} {src : Addr} (he : N node) (h : setpointsFit N t.setpoints) :
    setpointsFit N (t.headZero node src).setpoints := by
  refine ⟨headZero_nodup node src h.1, fun q hq => ?_⟩
  rcases List.mem_cons.mp hq with rfl | hq
  · exact he
  · exact h.2 q (List.mem_filter.mp hq).1

theorem Trunk.dropSetpoint_fits {node : Nat} (h : setpointsFit N t.setpoints) :
    setpointsFit (fun n => N n ∧ n ≠ node) (t.dropSetpoint node).setpoints := by
  refine ⟨filter_node_nodup node h.1, fun q hq => ?_⟩
  obtain ⟨hmem, hne⟩ := List.mem_filter.mp hq
  exact ⟨h.2 q hmem, by simpa using hne⟩

theorem setpointsFit_mono {M : Nat → Prop} {l : List SetpointEntry} (h : setpointsFit N l)
    (hM : ∀ n, N n → M n) : setpointsFit M l := ⟨h.1, fun e he => hM _ (h.2 e he)⟩

end Setpoints

end Sys2Proof.Machine
end

section
/-! Every event keeps the law of the pumps, and with it the law of their waiting setpoints (R38, R43, R158). -/

namespace Sys2Proof.Machine

/-! ### Keeping the two laws -/

/-- From `s` to `t` the law of the pumps is kept, and under it the law of the setpoints. -/
def State.keepsPumps (s t : State) : Prop :=
  (s.pumpLaw → t.pumpLaw) ∧ (s.pumpLaw → s.setpointLaw → t.setpointLaw)

theorem State.keepsPumps_refl (s : State) : s.keepsPumps s := ⟨id, fun _ => id⟩

theorem State.keepsPumps_trans {s t u : State} (h : s.keepsPumps t) (h' : t.keepsPumps u) :
    s.keepsPumps u :=
  ⟨fun hs => h'.1 (h.1 hs), fun hs hq => h'.2 (h.1 hs) (h.2 hs hq)⟩

/-- An operation that moves the pumps by itself keeps the laws. -/
theorem State.keepsPumps_of {s t : State} (htables : t.tables = s.tables)
    (hfit : s.pumpsFit → t.pumpsFit)
    (hset : s.pumpsFit → ∀ N : Nat → Prop, (∀ p, s.used p = true → N (s.pumpRow p).node) →
      setpointsFit N s.trunk.setpoints → setpointsFit N t.trunk.setpoints) : s.keepsPumps t := by
  have hnode : t.usedNode = s.usedNode := by
    unfold State.usedNode
    rw [htables]
  have hmode : t.startModeLegal = s.startModeLegal := by
    unfold State.startModeLegal State.settings
    rw [htables]
  refine ⟨fun hs => ?_, fun hs hq => ?_⟩
  · rw [State.pumpLaw_iff] at hs ⊢
    exact ⟨hmode ▸ hs.1, hfit hs.2⟩
  · rw [State.setpointLaw_iff] at hq ⊢
    rw [hnode]
    exact hset ((State.pumpLaw_iff s).mp hs).2 _ (fun p => State.usedNode_of_used) hq

/-- What the two laws read is the same in two states. -/
structure State.samePumps (s t : State) : Prop where
  startMode : t.tables.settings.startMode = s.tables.settings.startMode
  rows : t.tables.pumps = s.tables.pumps
  pumps : t.pumpCtl.pumps = s.pumpCtl.pumps
  latch : t.pumpCtl.tripLatch = s.pumpCtl.tripLatch
  mode : t.mgmt.mode = s.mgmt.mode
  conn : t.tracker.conn = s.tracker.conn
  setpoints : t.trunk.setpoints = s.trunk.setpoints

theorem State.heldAtZero_congr {s t : State} (hmode : t.mgmt.mode = s.mgmt.mode)
    (hlatch : t.pumpCtl.tripLatch = s.pumpCtl.tripLatch) (hconn : t.tracker.conn = s.tracker.conn) :
    t.heldAtZero = s.heldAtZero := by
  unfold State.heldAtZero State.mode
  rw [hmode, hlatch, hconn]

theorem State.samePumps.keeps {s t : State} (h : s.samePumps t) : s.keepsPumps t := by
  obtain ⟨hstart, hrows, hpumps, hlatch, hmode, hconn, hset⟩ := h
  have hheld := State.heldAtZero_congr hmode hlatch hconn
  constructor
  · intro hs
    rw [State.pumpLaw_iff] at hs ⊢
    unfold State.startModeLegal State.pumpsFit State.used State.pumpRow State.pump State.settings at hs ⊢
    rw [hstart, hrows, hpumps, hheld]
    exact hs
  · intro _ hq
    unfold State.setpointLaw at hq ⊢
    rw [hset, hrows]
    exact hq

/-- An event of other blocks, whose notices are all it does at the trunk, keeps the laws. -/
theorem State.keepsPumps_of_keeps {l : List Block} {K : NoticeKind → Prop} {s t : State}
    (h : keepsAllBut l s t)
    (hl : ∀ b ∈ [Block.tables, .pumpCtl, .tracker, .mgmt], b ∉ l)
    (htrunk : Trunk.Moved K false s.trunk t.trunk) : s.keepsPumps t := by
  have htables : t.tables = s.tables := h .tables (hl _ (by simp))
  have hpumps : t.pumpCtl = s.pumpCtl := h .pumpCtl (hl _ (by simp))
  have htracker : t.tracker = s.tracker := h .tracker (hl _ (by simp))
  have hmgmt : t.mgmt = s.mgmt := h .mgmt (hl _ (by simp))
  exact State.samePumps.keeps ⟨by rw [htables], by rw [htables], by rw [hpumps], by rw [hpumps],
    by rw [hmgmt], by rw [htracker], htrunk.setpoints_eq⟩

theorem react_keepsPumps (s : State) : s.keepsPumps (react s) :=
  State.keepsPumps_of_keeps (react_keeps s) (by decide)
    (react_moved (K := fun _ => True) trivial trivial trivial trivial .refl)

/-! ### One pump at a time -/

section OnePump

variable {s : State} {p : PumpId}

theorem queueSetpoint_fits {N : Nat → Prop} {v : Nat} (hN : N (s.pumpRow p).node)
    (h : setpointsFit N s.trunk.setpoints) : setpointsFit N (s.queueSetpoint p v).trunk.setpoints :=
  Trunk.queueSetpoint_fits hN h

theorem changeRates_setpoints {N : Nat → Prop} {requested commanded : Nat} (hN : N (s.pumpRow p).node)
    (h : setpointsFit N s.trunk.setpoints) :
    setpointsFit N (changeRates p requested commanded s).trunk.setpoints := by
  unfold changeRates
  dsimp only
  split
  · exact queueSetpoint_fits hN h
  · exact h

/-- Rates within the max rate, and zero under a hold, with the control state of R41, fit. -/
theorem changeRates_pumpsFit {requested commanded : Nat} (hused : s.used p = true)
    (hle : commanded ≤ requested) (htop : requested ≤ (s.pumpRow p).maxRate)
    (hzero : s.heldAtZero = true → requested = 0) (hs : s.pumpsFit) :
    (changeRates p requested commanded s).pumpsFit := by
  have hview : ∀ q, (changeRates p requested commanded s).used q = s.used q ∧
      (changeRates p requested commanded s).heldAtZero = s.heldAtZero ∧
      (changeRates p requested commanded s).pumpRow q = s.pumpRow q := by
    intro q
    unfold changeRates
    dsimp only
    split <;> exact ⟨rfl, rfl, rfl⟩
  intro q
  obtain ⟨hu, hh, hr⟩ := hview q
  rw [changeRates_pump, hu, hh, hr]
  split
  · next hpq =>
    subst hpq
    by_cases hheld : s.heldAtZero = true
    · have h0 := hzero hheld
      exact Pump.fits_of_zero h0 (by simp; omega) (by simp [hheld])
    · rw [Bool.not_eq_true] at hheld
      rw [hused, hheld]
      exact Pump.fits_controlOf (rise := s.riseHeld) hle htop rfl rfl (by simp)
  · exact hs q

theorem forceZero_setpoints {N : Nat → Prop} (hN : s.used p = true → N (s.pumpRow p).node)
    (h : setpointsFit N s.trunk.setpoints) : setpointsFit N (forceZero p s).trunk.setpoints := by
  unfold forceZero
  dsimp only
  split
  · next hused =>
    split
    · exact queueSetpoint_fits (hN hused) h
    · exact h
  · exact h

theorem forceHead_setpoints {N : Nat → Prop} (hN : s.used p = true → N (s.pumpRow p).node)
    (h : setpointsFit N s.trunk.setpoints) : setpointsFit N (forceHead p s).trunk.setpoints := by
  unfold forceHead
  split
  · next hused => exact Trunk.headZero_fits (hN hused) h
  · exact h

theorem eachPump_forceZero_setpoints {N : Nat → Prop}
    (hN : ∀ p, s.used p = true → N (s.pumpRow p).node) (h : setpointsFit N s.trunk.setpoints) :
    setpointsFit N (eachPump forceZero s).trunk.setpoints := by
  have hrow := State.pumpRow_congr 1 (forceZero_keeps 0 s .tables (by decide))
  exact forceZero_setpoints (by rw [forceZero_used, hrow]; exact hN 1) (forceZero_setpoints (hN 0) h)

theorem forceBothHead_setpoints {N : Nat → Prop}
    (hN : ∀ p, s.used p = true → N (s.pumpRow p).node) (h : setpointsFit N s.trunk.setpoints) :
    setpointsFit N (forceBothHead s).trunk.setpoints := by
  have hrow := State.pumpRow_congr 0 (forceHead_keeps 1 s .tables (by decide))
  exact forceHead_setpoints (by rw [forceHead_used, hrow]; exact hN 0) (forceHead_setpoints (hN 1) h)

/-- Each used pump is at zero, STOPPED or FORCED_OFF, and each unused one has the rates of `s`. -/
def State.zeroed (s t : State) : Prop :=
  (∀ p, t.used p = s.used p) ∧
  ∀ p, (s.used p = true → (t.pump p).requested = 0 ∧ (t.pump p).commanded = 0 ∧
      ((t.pump p).control = .stopped ∨ (t.pump p).control = .forcedOff)) ∧
    (s.used p = false → (t.pump p).requested = (s.pump p).requested ∧
      (t.pump p).commanded = (s.pump p).commanded)

/-- Pumps put to zero fit whatever hold applies, since an unused pump is at zero already. -/
theorem State.zeroed.fit {s t : State} (h : s.zeroed t) (hs : s.pumpsFit) : t.pumpsFit := by
  intro p
  obtain ⟨hused, hpump⟩ := h
  rw [hused]
  cases hu : s.used p with
  | true =>
    obtain ⟨hr, hc, hcontrol⟩ := (hpump p).1 hu
    exact Pump.fits_of_zero hr hc hcontrol
  | false =>
    obtain ⟨hr, hc⟩ := (hpump p).2 hu
    obtain ⟨hr0, hc0⟩ := (hs p).1 (.inl hu)
    exact Pump.fits_of_unused (hr.trans hr0) (hc.trans hc0)

theorem eachPump_forceZero_zeroed (s : State) : s.zeroed (eachPump forceZero s) := by
  refine ⟨fun p => by simp [eachPump], fun p => ?_⟩
  rw [eachPump_forceZero_pump]
  cases s.used p <;> simp [Pump.atZero]

theorem forceBothHead_zeroed (s : State) : s.zeroed (forceBothHead s) := by
  refine ⟨fun p => by simp [forceBothHead], fun p => ?_⟩
  rw [forceBothHead_pump]
  cases s.used p <;> simp [Pump.atZero]

end OnePump

/-! ### The pressure trip and its reset (R44, R46) -/

theorem raise_keepsPumps (s : State) (k : NoticeKind) (n : Nat) (v : Int) :
    s.keepsPumps (s.raise k n v) :=
  State.keepsPumps_of_keeps (raise_keeps k n v s) (by decide)
    (raise_moved (K := fun _ => True) trivial .refl)

theorem onPressure_keepsPumps (v : Int) (s : State) : s.keepsPumps (onPressure v s) := by
  unfold onPressure
  split
  · dsimp only
    refine State.keepsPumps_trans ?_ (raise_keepsPumps _ _ _ _)
    split
    · refine State.keepsPumps_of (forceBothHead_keeps _ .tables (by decide)) (fun hs => ?_)
        fun _ N hN h => forceBothHead_setpoints hN h
      exact State.zeroed.fit (s := s) (forceBothHead_zeroed _) hs
    · next hcommanding =>
      refine State.keepsPumps_of rfl (fun hs p => ?_) fun _ _ _ h => h
      have hheld : ∀ t : State, t.mode = s.mode → t.heldAtZero = false := by
        intro t ht
        unfold State.heldAtZero
        rw [ht]
        unfold State.commanding at hcommanding
        cases hm : s.mode <;> simp_all
      have hfit := hs p
      rw [hheld s rfl] at hfit
      rw [hheld (s.onPumpCtl _) rfl]
      exact hfit
  · exact s.keepsPumps_refl

theorem eachPump_stopAfterReset_zeroed (s : State) : s.zeroed (eachPump stopAfterReset s) := by
  have hused : ∀ p q (t : State), (stopAfterReset p t).used q = t.used q := fun p q t =>
    State.used_congr q (stopAfterReset_keeps p t .tables (by decide))
  refine ⟨fun p => by simp [eachPump, hused], fun p => ?_⟩
  simp only [eachPump, stopAfterReset_pump, hused]
  fin_cases p
  · cases hu : s.used 0 <;> simp [Pump.atZero, hu]
  · cases hu : s.used 1 <;> simp [Pump.atZero, hu]

theorem resetTrip_keepsPumps (s : State) : s.keepsPumps (resetTrip s) := by
  unfold resetTrip
  split
  · dsimp only
    split
    · next hmode =>
      refine State.keepsPumps_of rfl (fun hs p => ?_) fun _ _ _ h => h
      have hheld : ∀ t : State, t.mode = s.mode → t.heldAtZero = true := by
        intro t ht
        unfold State.heldAtZero
        rw [ht, hmode]
      have hfit := hs p
      rw [hheld s rfl] at hfit
      rw [hheld (s.onPumpCtl _) rfl]
      exact hfit
    · have htrunk : ∀ t : State, (eachPump stopAfterReset t).trunk = t.trunk := fun t =>
        eachPump_keeps stopAfterReset_keeps t .trunk (by decide)
      refine State.keepsPumps_of (eachPump_keeps stopAfterReset_keeps _ .tables (by decide))
        (fun hs => ?_) fun _ _ _ h => by rw [htrunk]; exact h
      exact State.zeroed.fit (s := s) (eachPump_stopAfterReset_zeroed _) hs
  · exact s.keepsPumps_refl

/-! ### Cab setpoints, ramps and the not-following test (R42, R45, R48) -/

theorem judgeSetpoint_keepsPumps {p : PumpId} (v : Nat) {s : State} (hused : s.used p = true)
    (hmode : s.mode = .supervised) : s.keepsPumps (judgeSetpoint p v s) := by
  unfold judgeSetpoint
  split
  · exact raise_keepsPumps _ _ _ _
  · next htrip =>
    split
    · exact raise_keepsPumps _ _ _ _
    · next hopen =>
      unfold acceptSetpoint
      dsimp only
      refine State.keepsPumps_of (changeRates_keeps _ _ _ _ .tables (by decide)) (fun hs => ?_)
        fun _ N hN h => changeRates_setpoints (hN p hused) h
      have hsat : (s.onPump p fun u =>
          { u with saturated := decide ((s.pumpRow p).maxRate < v) }).pumpsFit := by
        intro q
        refine Pump.fits_congr ?_ ?_ ?_ (hs q) <;> rw [State.onPump_pump] <;> split <;> simp_all
      refine changeRates_pumpsFit hused (Nat.min_le_right _ _) (Nat.min_le_right _ _)
        (fun hheld => ?_) hsat
      suffices hv : v = 0 by rw [hv]; exact Nat.zero_min _
      by_contra hv
      have hpos : 0 < v := Nat.pos_of_ne_zero hv
      have hlatch : s.pumpCtl.tripLatch = false := by simpa [hpos] using htrip
      have hconn : s.tracker.conn = .headOn := by simpa [hpos] using hopen
      have hnone : s.heldAtZero = false := by simp [State.heldAtZero, hmode, hlatch, hconn]
      exact absurd (hnone.symm.trans hheld) nofun

theorem rampPump_keepsPumps (p : PumpId) (s : State) : s.keepsPumps (rampPump p s) := by
  unfold rampPump
  dsimp only
  split
  · next h =>
    obtain ⟨-, hused, hheld, hlt⟩ := h
    split
    · refine State.keepsPumps_of rfl (fun hs q => ?_) fun _ _ _ h => h
      rw [State.onPump_pump]
      split
      · next hpq =>
        subst hpq
        obtain ⟨-, hrates, -⟩ := hs p
        exact ⟨fun h => by simp_all, hrates, fun _ => hlt⟩
      · exact hs q
    · refine State.keepsPumps_of (changeRates_keeps _ _ _ _ .tables (by decide)) (fun hs => ?_)
        fun _ N hN h => changeRates_setpoints (hN p hused) h
      exact changeRates_pumpsFit hused (Nat.min_le_left _ _) (hs p).2.1.2
        (fun h => by simp [hheld] at h) hs
  · exact s.keepsPumps_refl

/-- An update of a pump that leaves its rates and control state keeps the laws. -/
theorem onPump_keepsPumps {p : PumpId} {f : Pump → Pump} {s : State}
    (hr : ∀ u, (f u).requested = u.requested) (hc : ∀ u, (f u).commanded = u.commanded)
    (hcontrol : ∀ u, (f u).control = u.control) : s.keepsPumps (s.onPump p f) := by
  refine State.keepsPumps_of rfl (fun hs q => ?_) fun _ _ _ h => h
  rw [State.onPump_pump]
  split
  · next hpq =>
    subst hpq
    exact Pump.fits_congr (hr _) (hc _) (hcontrol _) (hs p)
  · exact hs q

theorem judgePeriod_keepsPumps (p : PumpId) (strokes : Nat) (s : State) :
    s.keepsPumps (judgePeriod p strokes s) := by
  unfold judgePeriod
  split
  · dsimp only
    generalize (if doesNotFollow (s.pump p).commanded (strokes * 60 / s.settings.period) strokes then
      (s.pump p).notFollowing + 1 else 0) = n
    have hone : ∀ k, s.keepsPumps (s.onPump p fun u => { u with
        measured := some (strokes * 60 / s.settings.period), notFollowing := k }) := fun _ =>
      onPump_keepsPumps (fun _ => rfl) (fun _ => rfl) fun _ => rfl
    split
    · exact State.keepsPumps_trans (hone _) (raise_keepsPumps _ _ _ _)
    · exact hone _
  · exact s.keepsPumps_refl

theorem offerField_keepsPumps (f : Frame) (s : State) : s.keepsPumps (s.offerField f) := by
  refine State.samePumps.keeps ⟨rfl, rfl, rfl, rfl, rfl, rfl, ?_⟩
  rw [State.offerField, State.onTrunk_trunk]
  split <;> rfl

theorem countBadSetpoint_keepsPumps (s : State) : s.keepsPumps (countBadSetpoint s) :=
  State.samePumps.keeps ⟨rfl, rfl, rfl, rfl, rfl, rfl, rfl⟩

theorem pumpSetpointFrame_keepsPumps {p : PumpId} (f : Frame) {s : State} (hused : s.used p = true) :
    s.keepsPumps (pumpSetpointFrame p f s) := by
  unfold pumpSetpointFrame
  split
  · split
    · exact judgeSetpoint_keepsPumps _ hused ‹_›
    · exact countBadSetpoint_keepsPumps s
  · split
    · exact s.keepsPumps_refl
    · exact countBadSetpoint_keepsPumps s
  · split
    · exact State.keepsPumps_trans (offerField_keepsPumps f s)
        (onPump_keepsPumps (fun _ => rfl) (fun _ => rfl) fun _ => rfl)
    · exact offerField_keepsPumps f s

end Sys2Proof.Machine
end

section
/-! The pumps under a change of the connection state, of the mode and of the tables, and at a reset
(R38, R47, R49 to R51): the two laws are kept by every event. -/

namespace Sys2Proof.Machine

/-! ### The open string (R47) -/

theorem endOpenString_view (p : PumpId) (s : State) :
    (∀ q, (endOpenString p s).used q = s.used q) ∧
    (∀ q, (endOpenString p s).pumpRow q = s.pumpRow q) ∧
    (endOpenString p s).heldAtZero = s.heldAtZero := by
  rw [endOpenString_eq]
  split <;> exact ⟨fun _ => rfl, fun _ => rfl, rfl⟩

theorem endOpenString_pumpsFit (p : PumpId) {s : State} (hs : s.pumpsFit) :
    (endOpenString p s).pumpsFit := by
  obtain ⟨hused, hrow, hheld⟩ := endOpenString_view p s
  intro q
  rw [hused, hrow, hheld, endOpenString_pump]
  split
  · exact Pump.fits_of_zero rfl rfl (.inl rfl)
  · exact hs q

/-- A hold that applied before the head came on leaves the pumps fit for what holds remain. -/
theorem State.pumpsFit_release {s t : State} (hrow : ∀ p, t.pumpRow p = s.pumpRow p)
    (hpump : ∀ p, t.pump p = s.pump p) (hheld : t.heldAtZero = true → s.heldAtZero = true)
    (hs : s.pumpsFit) : t.pumpsFit := by
  intro p
  have hused : t.used p = s.used p := by unfold State.used; rw [hrow]
  have hfit := hs p
  rw [hused, hrow, hpump]
  cases ht : t.heldAtZero with
  | true => rw [← hheld ht]; exact hfit
  | false =>
    cases hh : s.heldAtZero with
    | true => rw [hh] at hfit; exact Pump.fits_release hfit
    | false => rw [hh] at hfit; exact hfit

/-- A changed connection state is handed to Pump Control in the event that changes it. -/
theorem handConn_keepsPumps {l : List Block} {s t : State} (h : keepsAllBut l s t)
    (hl : ∀ b ∈ [Block.tables, .pumpCtl, .mgmt], b ∉ l)
    (htrunk : t.trunk.setpoints = s.trunk.setpoints) : s.keepsPumps (handConn s.tracker.conn t) := by
  have htables : t.tables = s.tables := h .tables (hl _ (by simp))
  have hctl : t.pumpCtl = s.pumpCtl := h .pumpCtl (hl _ (by simp))
  have hmgmt : t.mgmt = s.mgmt := h .mgmt (hl _ (by simp))
  have hrow : ∀ p, t.pumpRow p = s.pumpRow p := fun p => State.pumpRow_congr p htables
  have hused : ∀ p, t.used p = s.used p := fun p => State.used_congr p htables
  have hpump : ∀ p, t.pump p = s.pump p := fun p => by unfold State.pump; rw [hctl]
  unfold handConn
  split
  · next hsame =>
    exact State.samePumps.keeps ⟨by rw [htables], by rw [htables], by rw [hctl], by rw [hctl],
      by rw [hmgmt], hsame, by rw [htrunk]⟩
  · split
    · next hon =>
      have hheld : t.heldAtZero = true → s.heldAtZero = true := by
        unfold State.heldAtZero State.mode
        rw [hmgmt, hctl, hon]
        cases s.mgmt.mode <;> simp +contextual
      refine State.keepsPumps_of ?_ (fun hs => ?_) fun _ N _ hq => ?_
      · exact (eachPump_keeps endOpenString_keeps t .tables (by decide)).trans htables
      · exact endOpenString_pumpsFit 1 (endOpenString_pumpsFit 0
          (State.pumpsFit_release hrow hpump hheld hs))
      · rw [show (eachPump endOpenString t).trunk = t.trunk from
          eachPump_keeps endOpenString_keeps t .trunk (by decide), htrunk]
        exact hq
    · next hoff =>
      split
      · refine State.keepsPumps_of ?_ (fun hs => ?_) fun _ N hN hq => ?_
        · exact (eachPump_keeps forceZero_keeps t .tables (by decide)).trans htables
        · have hzero : s.zeroed (eachPump forceZero t) := by
            obtain ⟨hu, hz⟩ := eachPump_forceZero_zeroed t
            simp only [hused, hpump] at hu hz
            exact ⟨hu, hz⟩
          exact hzero.fit hs
        · refine eachPump_forceZero_setpoints (fun p => ?_) (by rw [htrunk]; exact hq)
          rw [hused, hrow]
          exact hN p
      · next hopen =>
        have hheld : t.heldAtZero = s.heldAtZero := by
          unfold State.heldAtZero State.mode
          rw [hmgmt, hctl]
          cases hm : s.mgmt.mode
          case supervised =>
            have hbefore : s.tracker.conn ≠ .headOn := fun hc =>
              hopen ⟨hc, by unfold State.mode; rw [hmgmt, hm]⟩
            simp only [bne_iff_ne.mpr hoff, bne_iff_ne.mpr hbefore]
          all_goals rfl
        refine State.keepsPumps_of htables (fun hs => ?_) fun _ N _ hq => by rw [htrunk]; exact hq
        exact State.pumpsFit_release hrow hpump (fun ht => hheld ▸ ht) hs

/-! ### Changes of mode (R49 to R51, R171) -/

theorem adopted_pumpsFit {s : State} (hheld : s.heldAtZero = false)
    (hunused : ∀ p, s.used p = false → (s.pump p).requested = 0 ∧ (s.pump p).commanded = 0) :
    (eachPump adoptRecord s).pumpsFit := by
  have htables := eachPump_keeps adoptRecord_keeps s .tables (by decide)
  have hctl : (eachPump adoptRecord s).heldAtZero = s.heldAtZero := by
    have hone : ∀ p (t : State), (adoptRecord p t).heldAtZero = t.heldAtZero := by
      intro p t
      unfold adoptRecord
      split <;> rfl
    simp only [eachPump, hone]
  intro p
  rw [State.used_congr p htables, State.pumpRow_congr p htables, hctl, hheld, eachPump_adoptRecord_pump]
  cases hu : s.used p with
  | false => simpa using Pump.fits_of_unused (hunused p hu).1 (hunused p hu).2
  | true =>
    refine ⟨by simp, ⟨le_rfl, ?_⟩, fun _ => ?_⟩
    · exact Nat.min_le_right _ _
    · dsimp only [if_true]
      generalize min ((s.pump p).nodeRate.getD 0) (s.pumpRow p).maxRate = rate
      by_cases h0 : rate = 0
      · simp [h0]
      · simp [h0]
        omega

/-- The entry into SUPERVISED gives every pump its adopted rate or, under a hold, zero (R49). -/
theorem enterSupervised_pumpsFit {s : State} (hmode : s.mode = .supervised)
    (hunused : ∀ p, s.used p = false → (s.pump p).requested = 0 ∧ (s.pump p).commanded = 0) :
    (enterSupervised s).pumpsFit := by
  have htables : (eachPump adoptRecord s).tables = s.tables :=
    eachPump_keeps adoptRecord_keeps s .tables (by decide)
  have hzero : ∀ t, (eachPump adoptRecord s).zeroed t → t.pumpsFit := by
    rintro t ⟨hused, hpump⟩ p
    rw [hused, State.used_congr p htables] at *
    obtain ⟨hz, hu⟩ := hpump p
    rw [State.used_congr p htables] at hz hu
    cases hup : s.used p with
    | true => exact Pump.fits_of_zero (hz hup).1 (hz hup).2.1 (hz hup).2.2
    | false =>
      obtain ⟨hr, hc⟩ := hu hup
      rw [eachPump_adoptRecord_pump, hup] at hr hc
      exact Pump.fits_of_unused (hr.trans (hunused p hup).1) (hc.trans (hunused p hup).2)
  unfold enterSupervised
  dsimp only
  split
  · exact hzero _ (forceBothHead_zeroed _)
  · next hlatch =>
    split
    · exact hzero _ (eachPump_forceZero_zeroed _)
    · next hconn =>
      refine adopted_pumpsFit ?_ hunused
      unfold State.heldAtZero
      rw [hmode]
      simp_all

theorem enterSupervised_setpoints {N : Nat → Prop} {s : State}
    (hN : ∀ p, s.used p = true → N (s.pumpRow p).node) (h : setpointsFit N s.trunk.setpoints) :
    setpointsFit N (enterSupervised s).trunk.setpoints := by
  have htables : (eachPump adoptRecord s).tables = s.tables :=
    eachPump_keeps adoptRecord_keeps s .tables (by decide)
  have htrunk : (eachPump adoptRecord s).trunk = s.trunk :=
    eachPump_keeps adoptRecord_keeps s .trunk (by decide)
  have hN' : ∀ p, (eachPump adoptRecord s).used p = true → N ((eachPump adoptRecord s).pumpRow p).node := by
    intro p
    rw [State.used_congr p htables, State.pumpRow_congr p htables]
    exact hN p
  unfold enterSupervised
  dsimp only
  split
  · exact forceBothHead_setpoints hN' (htrunk ▸ h)
  · split
    · exact eachPump_forceZero_setpoints hN' (htrunk ▸ h)
    · exact htrunk ▸ h

/-- SUPERVISED entered from a state that meets the laws, whatever its mode. -/
theorem enterSupervised_keepsPumps {s t : State} (h : keepsAllBut [.circ, .mgmt] s t)
    (hmode : t.mode = .supervised) : s.keepsPumps (enterSupervised t) := by
  have htables : t.tables = s.tables := h .tables (by decide)
  have hctl : t.pumpCtl = s.pumpCtl := h .pumpCtl (by decide)
  have htrunk : t.trunk = s.trunk := h .trunk (by decide)
  have hpump : ∀ p, t.pump p = s.pump p := fun p => by unfold State.pump; rw [hctl]
  refine State.keepsPumps_of ((enterSupervised_keeps t .tables (by decide)).trans htables)
    (fun hs => enterSupervised_pumpsFit hmode fun p hu => ?_) fun _ N hN hq => ?_
  · rw [hpump]
    exact (hs p).1 (.inl (by rw [← State.used_congr p htables]; exact hu))
  · refine enterSupervised_setpoints (fun p => ?_) (htrunk ▸ hq)
    rw [State.used_congr p htables, State.pumpRow_congr p htables]
    exact hN p

theorem enterMonitor_keepsPumps {s t : State} (h : keepsAllBut [.mgmt] s t) (hmode : t.mode = .monitor) :
    s.keepsPumps (enterMonitor t) := by
  have htables : (enterMonitor t).tables = s.tables :=
    (enterMonitor_keeps t .tables (by decide)).trans (h .tables (by decide))
  have hctl : t.pumpCtl = s.pumpCtl := h .pumpCtl (by decide)
  have htrunk : (enterMonitor t).trunk = s.trunk :=
    (enterMonitor_keeps t .trunk (by decide)).trans (h .trunk (by decide))
  have hheld : (enterMonitor t).heldAtZero = false := by
    have : (enterMonitor t).mode = .monitor := by
      rw [← hmode]
      exact congrArg Management.mode (enterMonitor_keeps t .mgmt (by decide))
    simp [State.heldAtZero, this]
  refine State.keepsPumps_of htables (fun hs p => ?_) fun _ N _ hq => htrunk ▸ hq
  have hfit : (s.pump p).fits (s.used p) false (s.pumpRow p).maxRate := by
    have := hs p
    cases hh : s.heldAtZero <;> rw [hh] at this
    · exact this
    · exact Pump.fits_release this
  rw [State.used_congr p htables, State.pumpRow_congr p htables, hheld, enterMonitor_pump]
  have hpump : t.pump p = s.pump p := by unfold State.pump; rw [hctl]
  exact Pump.fits_congr rfl rfl rfl (hpump ▸ hfit)

theorem changeMode_keepsPumps {m : Mode} (hm : m = .monitor ∨ m = .supervised) (s : State) :
    s.keepsPumps (changeMode m s) := by
  unfold changeMode
  split
  · exact s.keepsPumps_refl
  · split
    · next hsup =>
      exact enterSupervised_keepsPumps (keepsAllBut_mono (setModeTo_keeps m s) (by simp)) hsup
    · next hsup => exact enterMonitor_keepsPumps (setModeTo_keeps m s) (hm.resolve_right hsup)

theorem standbyPump_setpoints {N : Nat → Prop} {p : PumpId} {s : State}
    (hN : s.used p = true → N (s.pumpRow p).node) (h : setpointsFit N s.trunk.setpoints) :
    setpointsFit N (standbyPump p s).trunk.setpoints := by
  unfold standbyPump
  split
  · next hused => exact queueSetpoint_fits (hN hused) h
  · exact h

theorem goStandby_keepsPumps (s : State) : s.keepsPumps (goStandby s) := by
  refine State.keepsPumps_of (goStandby_keeps s .tables (by decide)) (fun hs => ?_) fun _ N hN hq => ?_
  · refine State.zeroed.fit (s := s) ⟨fun p => ?_, fun p => ?_⟩ hs
    · exact State.used_congr p (goStandby_keeps s .tables (by decide))
    · rw [goStandby, enterStandby_pump]
      cases hu : s.used p <;> simp_all [State.used, State.pumpRow, Pump.atZero, State.pump]
  · have hrow : ∀ t : State, (standbyPump 0 t).pumpRow 1 = t.pumpRow 1 := by
      intro t
      unfold standbyPump
      split <;> rfl
    rw [goStandby, enterStandby_eq]
    refine standbyPump_setpoints (fun hu => ?_) (standbyPump_setpoints (hN 0) hq)
    rw [standbyPump_used] at hu
    rw [hrow]
    exact hN 1 hu

theorem wake_keepsPumps (cause : WakeCause) (s : State) : s.keepsPumps (wake cause s) := by
  unfold wake
  split
  · next hmode =>
    dsimp only
    refine State.keepsPumps_trans ?_ (raise_keepsPumps _ _ _ _)
    refine State.keepsPumps_of (leaveStandby_keeps _ .tables (by decide)) (fun hs p => ?_) fun _ N _ hq => by
      rw [leaveStandby_trunk]
      exact hq
    have htables : ∀ t : State, (leaveStandby t).tables = t.tables := fun t =>
      leaveStandby_keeps t .tables (by decide)
    have hfit := hs p
    rw [show s.heldAtZero = true by simp [State.heldAtZero, hmode]] at hfit
    rw [State.used_congr p (htables _), State.pumpRow_congr p (htables _), leaveStandby_pump]
    generalize hg : (s.onMgmt fun g => { g with
      mode := s.mgmt.remembered.getD .monitor, remembered := none }) = g
    have hpump : g.pump p = s.pump p := by rw [← hg]; rfl
    have hused : g.used p = s.used p := by rw [← hg]; rfl
    have hrow : g.pumpRow p = s.pumpRow p := by rw [← hg]; rfl
    rw [hpump, hused, hrow]
    obtain ⟨hzero, -, hcontrol⟩ := id hfit
    obtain ⟨hr, hc⟩ := hzero (.inr rfl)
    unfold Pump.left
    cases hu : s.used p with
    | false =>
      refine Pump.fits_of_unused ?_ ?_ <;> split <;> simp [hr, hc]
    | true =>
      have hstop : (s.pump p).control = .stopped ∨ (s.pump p).control = .forcedOff := by
        have := hcontrol hu
        cases hctl : (s.pump p).control <;> simp_all
      refine Pump.fits_of_zero ?_ ?_ ?_ <;> split
      all_goals split <;> simp_all [Pump.atZero]
  · exact s.keepsPumps_refl

end Sys2Proof.Machine
end

section
/-! Every step keeps the laws of the pumps and of their setpoints: the loads (R38, R169), the handler
reports (R47), the end of STARTING, and the list of all events. -/

namespace Sys2Proof.Machine

/-! ### Loads of a Pump Table row (R38) -/

/-- The nodes a setpoint may be for after the load of a row whose node was `old`: one that no longer is a
node of a used pump waits no more. -/
theorem onPumpRow_setpoints {p : PumpId} {old : Nat} {N : Nat → Prop} {s : State}
    (hold : old = 0 → (s.pump p).requested = 0 ∧ (s.pump p).commanded = 0)
    (hsame : (s.pumpRow p).node = old → old ≠ 0 → N old) (h : setpointsFit N s.trunk.setpoints) :
    setpointsFit (fun n => N n ∧ (n = old → (s.pumpRow p).node = old))
      (onPumpRow p old s).trunk.setpoints := by
  unfold onPumpRow
  split
  · next hnode =>
    suffices hfit : setpointsFit N (pumpMaxLowered p s).trunk.setpoints from
      setpointsFit_mono hfit fun n hn => ⟨hn, fun _ => hnode⟩
    unfold pumpMaxLowered
    dsimp only
    split
    · next hlower =>
      refine changeRates_setpoints ?_ h
      have hne : old ≠ 0 := fun h0 => by
        obtain ⟨hr, hc⟩ := hold h0
        omega
      rw [onPump_pumpRow, hnode]
      exact hsame hnode hne
    · exact h
  · exact setpointsFit_mono (Trunk.dropSetpoint_fits h) fun n hn => ⟨hn.1, fun he => absurd he hn.2⟩

theorem pumpMaxLowered_view (p : PumpId) (s : State) :
    (pumpMaxLowered p s).tables = s.tables ∧ (pumpMaxLowered p s).heldAtZero = s.heldAtZero := by
  refine ⟨pumpMaxLowered_keeps p s .tables (by decide), ?_⟩
  unfold pumpMaxLowered changeRates
  dsimp only
  repeat' split
  all_goals rfl

/-- A load leaves the pump of its row within the row, whatever the row was. -/
theorem onPumpRow_pump_fits {p : PumpId} {old : Nat} {s : State} {usedBefore : Bool} {topBefore : Nat}
    (hused : (s.pumpRow p).node = old → s.used p = usedBefore)
    (hs : (s.pump p).fits usedBefore s.heldAtZero topBefore) :
    ((onPumpRow p old s).pump p).fits ((onPumpRow p old s).used p) (onPumpRow p old s).heldAtZero
      ((onPumpRow p old s).pumpRow p).maxRate := by
  unfold onPumpRow
  split
  · next hnode =>
    obtain ⟨htables, hheld⟩ := pumpMaxLowered_view p s
    rw [State.used_congr p htables, State.pumpRow_congr p htables, hheld, hused hnode]
    unfold pumpMaxLowered
    dsimp only
    split
    · next hlower =>
      have hpos : ¬((s.pump p).requested = 0 ∧ (s.pump p).commanded = 0) := by omega
      have hu : usedBefore = true := by
        by_contra hu
        exact hpos (hs.1 (.inl (by simpa using hu)))
      have hh : s.heldAtZero = false := by
        by_contra hh
        exact hpos (hs.1 (.inr (by simpa using hh)))
      rw [changeRates_pump, if_pos rfl, hu, hh]
      have hle := hs.2.1.1
      exact Pump.fits_controlOf (rise := s.riseHeld)
        (requested := min (s.pump p).requested (s.pumpRow p).maxRate)
        (commanded := min (s.pump p).commanded (s.pumpRow p).maxRate)
        (by omega) (Nat.min_le_right _ _) rfl rfl (by simp [hh])
    · next hlow =>
      obtain ⟨hzero, ⟨hle, -⟩, hcontrol⟩ := hs
      exact ⟨hzero, ⟨hle, by omega⟩, hcontrol⟩
  · have hpump : (pumpNodeChanged p old s).pump p =
        { (s.pump p).atZero (if s.used p && s.heldAtZero then .forcedOff else .stopped) with
          notFollowing := 0, saturated := false, nodeRate := none } := by
      rw [pumpNodeChanged, State.onPump_pump, if_pos rfl]
      rfl
    rw [hpump]
    refine Pump.fits_of_zero rfl rfl ?_
    dsimp only
    split
    · exact .inr rfl
    · exact .inl rfl

theorem onPumpRow_other_pump {p q : PumpId} (h : p ≠ q) (old : Nat) (s : State) :
    (onPumpRow p old s).pump q = s.pump q := by
  unfold onPumpRow
  split
  · unfold pumpMaxLowered
    dsimp only
    split
    · rw [changeRates_pump, if_neg h, State.onPump_pump, if_neg h]
    · rfl
  · rw [pumpNodeChanged, State.onPump_pump, if_neg h]
    rfl

theorem onPumpRow_view (p : PumpId) (old : Nat) (s : State) :
    (onPumpRow p old s).tables = s.tables ∧ (onPumpRow p old s).heldAtZero = s.heldAtZero := by
  refine ⟨onPumpRow_keeps p old s .tables (by decide), ?_⟩
  unfold onPumpRow
  split
  · exact (pumpMaxLowered_view p s).2
  · rfl

theorem State.usedNode_iff (s : State) (n : Nat) :
    s.usedNode n ↔ ∃ p, s.used p = true ∧ n = (s.pumpRow p).node := by
  simp [State.usedNode, State.used, State.pumpRow]

/-- The load of a Pump Table row keeps the laws up to the clearing of the window. -/
theorem onPumpRow_keepsPumps (p : PumpId) (r : PumpRow) (s : State) :
    s.keepsPumps (onPumpRow p (s.pumpRow p).node
      (s.onTables fun t => { t with pumps := t.pumps.set p r })) := by
  generalize hs1 : (s.onTables fun t => { t with pumps := t.pumps.set p r }) = s1
  have hpump : ∀ q, s1.pump q = s.pump q := fun q => by rw [← hs1]; rfl
  have hheld : s1.heldAtZero = s.heldAtZero := by rw [← hs1]; rfl
  have htrunk : s1.trunk = s.trunk := by rw [← hs1]; rfl
  have hrow : ∀ q, q ≠ p → s1.pumpRow q = s.pumpRow q := fun q hq => by
    have : (p : Nat) ≠ q := fun e => hq (Fin.ext e.symm)
    rw [← hs1]
    simp [State.pumpRow, this]
  have hmode : s1.settings = s.settings := by rw [← hs1]; rfl
  obtain ⟨htables, hheld'⟩ := onPumpRow_view p (s.pumpRow p).node s1
  have hused : (s1.pumpRow p).node = (s.pumpRow p).node → s1.used p = s.used p := by
    intro h
    unfold State.used
    rw [h]
  have hfit : s.pumpsFit → (onPumpRow p (s.pumpRow p).node s1).pumpsFit := by
    intro hs q
    by_cases hq : q = p
    · subst hq
      exact onPumpRow_pump_fits hused (by rw [hpump, hheld]; exact hs q)
    · rw [onPumpRow_other_pump (Ne.symm hq), State.used_congr q htables, State.pumpRow_congr q htables,
        hheld', hpump, hheld, hrow q hq]
      have := hs q
      unfold State.used at this ⊢
      rw [hrow q hq]
      exact this
  refine ⟨fun hlaw => ?_, fun hlaw hq => ?_⟩
  · rw [State.pumpLaw_iff] at hlaw ⊢
    refine ⟨?_, hfit hlaw.2⟩
    have hstart := hlaw.1
    unfold State.startModeLegal at hstart ⊢
    rw [show (onPumpRow p (s.pumpRow p).node s1).settings = s.settings by
      rw [← hmode]; exact congrArg Tables.settings htables]
    exact hstart
  · rw [State.setpointLaw_iff] at hq ⊢
    have hpumps := ((State.pumpLaw_iff s).mp hlaw).2
    refine setpointsFit_mono (onPumpRow_setpoints (N := s.usedNode) (fun h0 => ?_)
      (fun _ hne => ?_) (by rw [htrunk]; exact hq)) fun n hn => ?_
    · rw [hpump]
      exact (hpumps p).1 (.inl (by simp [State.used, h0]))
    · exact ⟨p, hne, rfl⟩
    · obtain ⟨⟨q, hne, hnq⟩, hstay⟩ := hn
      unfold State.usedNode
      rw [htables]
      by_cases hqp : q = p
      · subst hqp
        exact ⟨q, by rw [show (s1.tables.pumps[q]).node = _ from hstay hnq]; exact hne,
          by rw [show (s1.tables.pumps[q]).node = _ from hstay hnq]; exact hnq⟩
      · have hsame : s1.tables.pumps[q] = s.tables.pumps[q] := hrow q hqp
        exact ⟨q, by rw [hsame]; exact hne, by rw [hsame]; exact hnq⟩

theorem clearByLoad_keepsPumps (dropMean : Bool) (s : State) : s.keepsPumps (clearByLoad dropMean s) :=
  State.keepsPumps_of_keeps (clearByLoad_keeps dropMean s) (by decide)
    (clearByLoad_moved (K := fun _ => True) trivial trivial trivial .refl)

theorem storePump_keepsPumps (p : PumpId) (r : PumpRow) (s : State) :
    s.keepsPumps (storePump p r s) :=
  State.keepsPumps_trans (onPumpRow_keepsPumps p r s)
    (State.keepsPumps_trans (clearByLoad_keepsPumps _ _) (react_keepsPumps _))

/-- Loads of other tables leave what the laws read, a legal start mode aside. -/
theorem storeSettings_keepsPumps {r : Settings} (hr : r.startMode = .monitor ∨ r.startMode = .supervised)
    (s : State) : s.keepsPumps (storeSettings r s) := by
  have hstore : s.keepsPumps (s.onTables fun t => { t with settings := r }) := by
    refine ⟨fun hs => ?_, fun _ hq => hq⟩
    rw [State.pumpLaw_iff] at hs ⊢
    exact ⟨hr, hs.2⟩
  unfold storeSettings
  dsimp only
  split
  · exact hstore
  · exact State.keepsPumps_trans hstore
      (State.keepsPumps_trans (clearByLoad_keepsPumps _ _) (react_keepsPumps _))

theorem storeChannel_keepsPumps (i : InputId) (r : ChannelRow) (s : State) :
    s.keepsPumps (storeChannel i r s) := by
  have hstore : s.keepsPumps ((s.onTables fun t => { t with channels := t.channels.set i r }).onInput i
      fun _ => Input.afterLoad) := State.samePumps.keeps ⟨rfl, rfl, rfl, rfl, rfl, rfl, rfl⟩
  unfold storeChannel
  dsimp only
  refine State.keepsPumps_trans ?_ (react_keepsPumps _)
  split
  · exact State.keepsPumps_trans hstore (clearByLoad_keepsPumps _ _)
  · exact hstore

theorem storeLimits_keepsPumps (r : Limits) (s : State) : s.keepsPumps (storeLimits r s) := by
  unfold storeLimits
  dsimp only
  refine State.keepsPumps_trans ?_ (react_keepsPumps _)
  split <;> exact State.samePumps.keeps ⟨rfl, rfl, rfl, rfl, rfl, rfl, rfl⟩

/-- With every table at its defaults both pumps are unused, and no setpoint waits (R38, R169). -/
theorem storeDefaults_keepsPumps (s : State) : s.keepsPumps (storeDefaults s) := by
  generalize hs1 : clearCommand { s with
    tables := .default, inputs := Vector.replicate 13 .afterLoad } = s1
  have hpump : ∀ q, s1.pump q = s.pump q := fun q => by rw [← hs1]; rfl
  have hheld : s1.heldAtZero = s.heldAtZero := by rw [← hs1]; rfl
  have htrunk : s1.trunk = s.trunk := by rw [← hs1]; rfl
  have htables : s1.tables = .default := by rw [← hs1]; rfl
  have hnode : ∀ p, (s1.pumpRow p).node = 0 := by
    intro p
    unfold State.pumpRow
    rw [htables]
    fin_cases p <;> rfl
  have hstore : storeDefaults s =
      onPumpRow 1 (s.pumpRow 1).node (onPumpRow 0 (s.pumpRow 0).node s1) := by rw [← hs1]; rfl
  rw [hstore]
  generalize hs2 : onPumpRow 0 (s.pumpRow 0).node s1 = s2
  obtain ⟨htables2, hheld2⟩ : s2.tables = s1.tables ∧ s2.heldAtZero = s1.heldAtZero := by
    rw [← hs2]; exact onPumpRow_view _ _ _
  obtain ⟨htables3, hheld3⟩ := onPumpRow_view 1 (s.pumpRow 1).node s2
  have hnode2 : ∀ p, (s2.pumpRow p).node = 0 := fun p => by
    rw [State.pumpRow_congr p htables2]; exact hnode p
  have hused : ∀ (t : State) (p : PumpId), (t.pumpRow p).node = 0 →
      (t.pumpRow p).node = (s.pumpRow p).node → t.used p = s.used p := by
    intro t p h0 h
    unfold State.used
    rw [h]
  refine ⟨fun hlaw => ?_, fun hlaw hq => ?_⟩
  · rw [State.pumpLaw_iff] at hlaw ⊢
    refine ⟨?_, fun p => ?_⟩
    · unfold State.startModeLegal State.settings
      rw [htables3, htables2, htables]
      exact .inl rfl
    · fin_cases p
      · have hfirst := onPumpRow_pump_fits (p := 0) (old := (s.pumpRow 0).node) (s := s1)
          (hused s1 0 (hnode 0)) (by rw [hpump, hheld]; exact hlaw.2 0)
        rw [hs2] at hfirst
        simp only [Fin.zero_eta]
        rw [onPumpRow_other_pump (by decide), State.used_congr 0 htables3,
          State.pumpRow_congr 0 htables3, hheld3]
        exact hfirst
      · refine onPumpRow_pump_fits (usedBefore := s.used 1) (topBefore := (s.pumpRow 1).maxRate)
          (hused s2 1 (hnode2 1)) ?_
        rw [← hs2, onPumpRow_other_pump (by decide), hs2, hpump, hheld2, hheld]
        exact hlaw.2 1
  · rw [State.setpointLaw_iff] at hq ⊢
    have hfit := ((State.pumpLaw_iff s).mp hlaw).2
    have hzero : ∀ (t : State) p, t.pump p = s.pump p → (s.pumpRow p).node = 0 →
        (t.pump p).requested = 0 ∧ (t.pump p).commanded = 0 := by
      intro t p ht h0
      rw [ht]
      exact (hfit p).1 (.inl (by simp [State.used, h0]))
    have hfirst := onPumpRow_setpoints (p := 0) (old := (s.pumpRow 0).node) (N := s.usedNode) (s := s1)
      (hzero s1 0 (hpump 0)) (fun _ h => ⟨0, h, rfl⟩) (by rw [htrunk]; exact hq)
    rw [hs2] at hfirst
    have hsecond := onPumpRow_setpoints (p := 1) (old := (s.pumpRow 1).node) (s := s2)
      (hzero s2 1 (by rw [← hs2, onPumpRow_other_pump (by decide), hpump]))
      (fun h hne => absurd (h.symm.trans (hnode2 1)) hne) hfirst
    refine setpointsFit_mono hsecond fun n hn => ?_
    obtain ⟨⟨⟨q, hne, hnq⟩, hstay0⟩, hstay1⟩ := hn
    rw [hnode] at hstay0
    rw [hnode2] at hstay1
    exfalso
    fin_cases q
    · exact hne (hstay0 hnq).symm
    · exact hne (hstay1 hnq).symm

end Sys2Proof.Machine
end

section
/-! Every step keeps the laws of the pumps and of their setpoints (R38, R43, R47, R158): the conditioner, the
handler reports, the ends of STARTING and of a period, and the list of all events. -/

namespace Sys2Proof.Machine

/-- An event of blocks the laws do not read keeps them. -/
theorem State.keepsPumps_of_quiet {l : List Block} {s t : State} (h : keepsAllBut l s t)
    (hl : ∀ b ∈ [Block.tables, .pumpCtl, .tracker, .mgmt, .trunk], b ∉ l) : s.keepsPumps t := by
  refine State.keepsPumps_of_keeps (K := fun _ => True) h (fun b hb => hl b ?_) ?_
  · simp only [List.mem_cons, List.not_mem_nil, or_false] at hb ⊢
    tauto
  · rw [show t.trunk = s.trunk from h .trunk (hl _ (by simp))]
    exact .refl

/-- An update of the tracker that leaves the connection state keeps the laws. -/
theorem onTracker_keepsPumps {f : Tracker → Tracker} {s : State} (h : (f s.tracker).conn = s.tracker.conn) :
    s.keepsPumps (s.onTracker f) :=
  State.samePumps.keeps ⟨rfl, rfl, rfl, rfl, rfl, h, rfl⟩

/-- An update of Management that leaves the mode keeps the laws. -/
theorem onMgmt_keepsPumps {f : Management → Management} {s : State} (h : (f s.mgmt).mode = s.mgmt.mode) :
    s.keepsPumps (s.onMgmt f) :=
  State.samePumps.keeps ⟨rfl, rfl, rfl, rfl, h, rfl, rfl⟩

theorem reach_keepsPumps (d : Nat) (s : State) : s.keepsPumps (s.reach d) := onMgmt_keepsPumps rfl

/-! ### The conditioner (R8, R19, R44, R172) -/

theorem collectStrokes_keepsPumps (p : PumpId) (d : Nat) (s : State) :
    s.keepsPumps (collectStrokes p d s) :=
  State.keepsPumps_of_keeps (collectStrokes_keeps p d s) (by decide)
    (collectStrokes_moved (K := fun _ => True) trivial .refl)

theorem wakeByRotation_keepsPumps (s : State) : s.keepsPumps (wakeByRotation s) := by
  unfold wakeByRotation
  split
  · exact wake_keepsPumps _ s
  · exact s.keepsPumps_refl

theorem deliver_keepsPumps (i : InputId) (v : Int) (s : State) : s.keepsPumps (deliver i v s) := by
  unfold deliver
  repeat' split
  · exact State.keepsPumps_trans (State.keepsPumps_of_quiet (onHookload_keeps s) (by decide))
      (react_keepsPumps _)
  · exact State.keepsPumps_trans (wakeByRotation_keepsPumps s) (react_keepsPumps _)
  · exact onPressure_keepsPumps v s
  · exact State.keepsPumps_of_quiet (collectFlow_keeps s) (by decide)
  · exact State.keepsPumps_trans (State.keepsPumps_of_quiet (onSlips_keeps _ s) (by decide))
      (react_keepsPumps _)
  · exact s.keepsPumps_refl

theorem acceptValue_keepsPumps (i : InputId) (x : Int) (s : State) : s.keepsPumps (acceptValue i x s) :=
  State.keepsPumps_trans
    (State.keepsPumps_of_quiet (keepsAllBut_trans (takeValue_keeps i x s) (freshen_keeps i _)) (by decide))
    (deliver_keepsPumps i _ _)

theorem startRunning_keepsPumps (p : PumpId) (s : State) : s.keepsPumps (startRunning p s) := by
  have hone := State.keepsPumps_of_quiet (onInput_keeps (strokeInput p)
    (fun u => { u with runningDue := some (s.dueIn Config.runningTime) }) s) (by decide)
  unfold startRunning
  dsimp only
  split
  · exact hone
  · exact State.keepsPumps_trans hone (wake_keepsPumps _ _)

theorem acceptStrokes_keepsPumps (p : PumpId) (c : Nat) (s : State) :
    s.keepsPumps (acceptStrokes p c s) := by
  have hone := State.keepsPumps_of_quiet (keepsAllBut_trans
    (onInput_keeps (strokeInput p) (fun u => { u with lastRaw := some (c : Int), lastCount := some c }) s)
    (freshen_keeps (strokeInput p) _)) (by decide)
  unfold acceptStrokes
  dsimp only
  split
  · exact hone
  · next last _ =>
    refine State.keepsPumps_trans hone (State.keepsPumps_trans
      (collectStrokes_keepsPumps p (strokeDelta c last) _) (State.keepsPumps_trans ?_ (react_keepsPumps _)))
    split
    · exact startRunning_keepsPumps p _
    · exact State.keepsPumps_refl _

theorem acceptHead_keepsPumps (n : Int) (s : State) : s.keepsPumps (acceptHead n s) :=
  State.keepsPumps_of_keeps (acceptHead_keeps n s) (by decide)
    (acceptHead_moved (K := fun _ => True) trivial trivial trivial trivial trivial .refl)

theorem condition_keepsPumps (f : Frame) (s : State) : s.keepsPumps (condition f s) := by
  unfold condition
  split
  · exact s.keepsPumps_refl
  · next i _ =>
    split
    · next x _ =>
      unfold accept
      split
      · exact acceptStrokes_keepsPumps _ _ s
      · split
        · exact acceptHead_keepsPumps x s
        · exact acceptValue_keepsPumps i x s
    · exact State.keepsPumps_of_quiet (countRefused_keeps i s) (by decide)

/-! ### Handler reports (R65 to R68) -/

theorem setTallyUncertain_keepsPumps (s : State) : s.keepsPumps (setTallyUncertain s) :=
  State.keepsPumps_trans (onTracker_keepsPumps (f := fun t => { t with tallyUncertain := true }) rfl)
    (State.keepsPumps_of_quiet (handUncertain_keeps _ _) (by decide))

theorem handMove_keepsPumps (f : Tracker → Tracker) (s : State) :
    s.keepsPumps (handMove s.tracker.conn (s.onTracker f)) :=
  handConn_keepsPumps (l := [.tracker, .depth, .recorder, .banks, .billing, .trunk]) (by simp) (by decide)
    (Trunk.Moved.setpoints_eq
      (handLength_moved (K := fun _ => True) trivial trivial trivial trivial .refl))

theorem mismatch_keepsPumps (code : HandlerCode) (cause : Nat) (s : State) :
    s.keepsPumps (mismatch code cause s) := by
  refine State.keepsPumps_trans ?_ (raise_keepsPumps _ _ _ _)
  exact handConn_keepsPumps (l := [.tracker, .recorder]) (by simp) (by decide)
    (congrArg Trunk.setpoints (setTallyUncertain_trunk s))

theorem okReport_keepsPumps (r : Report) (s : State) : s.keepsPumps (okReport r s) := by
  have hclear : s.keepsPumps (clearCommand s) := onTracker_keepsPumps rfl
  unfold okReport
  split
  · unfold completeCommand
    dsimp only
    split
    · exact State.keepsPumps_trans hclear (handMove_keepsPumps _ (clearCommand s))
    · exact State.keepsPumps_trans hclear (mismatch_keepsPumps _ _ _)
  · exact mismatch_keepsPumps _ _ s

theorem handlerReport_keepsPumps (payload : List Byte) (s : State) :
    s.keepsPumps (handlerReport payload s) := by
  unfold handlerReport
  split
  · exact onTracker_keepsPumps rfl
  · split
    · split
      · exact setTallyUncertain_keepsPumps s
      · exact s.keepsPumps_refl
    · split
      · exact okReport_keepsPumps _ s
      · refine State.keepsPumps_trans ?_ (raise_keepsPumps _ _ _ _)
        split
        · exact onTracker_keepsPumps rfl
        · exact s.keepsPumps_refl

/-! ### The end of STARTING and the checks (R173, R174) -/

/-- MONITOR entered from a state that meets the laws, whatever its mode. -/
theorem monitor_keepsPumps {s t : State} (h : keepsAllBut [.circ, .mgmt] s t) (hmode : t.mode = .monitor) :
    s.keepsPumps t := by
  have htables : t.tables = s.tables := h .tables (by decide)
  have hctl : t.pumpCtl = s.pumpCtl := h .pumpCtl (by decide)
  have hheld : t.heldAtZero = false := by simp [State.heldAtZero, hmode]
  refine State.keepsPumps_of htables (fun hs => ?_) fun _ N _ hq => ?_
  · exact State.pumpsFit_release (fun p => State.pumpRow_congr p htables)
      (fun p => by unfold State.pump; rw [hctl]) (fun ht => by simp [hheld] at ht) hs
  · rw [show t.trunk = s.trunk from h .trunk (by decide)]
    exact hq

theorem endStarting_keepsPumps (s : State) : s.keepsPumps (endStarting s) := by
  by_cases hlaw : s.pumpLaw
  swap
  · exact ⟨fun h => absurd h hlaw, fun h => absurd h hlaw⟩
  have hstart : s.settings.startMode = .monitor ∨ s.settings.startMode = .supervised :=
    ((State.pumpLaw_iff s).mp hlaw).1
  unfold endStarting
  dsimp only
  generalize hs2 : ((beginPeriod (s.onMgmt fun m =>
    { m with mode := s.settings.startMode, holdDue := none, holdExpired := false })).onCirc fun c =>
      { c with pumpsOffAt := some s.mgmt.clock }) = s2
  have hkeeps : keepsAllBut [.circ, .mgmt] s s2 := by rw [← hs2]; simp
  have hmode : s2.mode = s.settings.startMode := by rw [← hs2]; rfl
  refine State.keepsPumps_trans ?_ (raise_keepsPumps _ _ _ _)
  have hmoded : s.keepsPumps (if s.settings.startMode = .supervised then enterSupervised s2 else s2) := by
    split
    · next hsup => exact enterSupervised_keepsPumps hkeeps (hmode.trans hsup)
    · next hmon => exact monitor_keepsPumps hkeeps (hmode.trans (hstart.resolve_right hmon))
  refine State.keepsPumps_trans hmoded (State.keepsPumps_trans ?_ (react_keepsPumps _))
  generalize (if s.settings.startMode = .supervised then enterSupervised s2 else s2) = s3
  · refine State.keepsPumps_trans (State.keepsPumps_of_quiet (startMovementPeriod_keeps _) (by decide)) ?_
    split
    · exact State.keepsPumps_of_quiet (markDepthUncertain_keeps _) (by decide)
    · exact State.keepsPumps_refl _

theorem checkStarting_keepsPumps (s : State) : s.keepsPumps (checkStarting s) := by
  unfold checkStarting
  split
  · exact endStarting_keepsPumps s
  · exact s.keepsPumps_refl

theorem restoreAreas_keepsPumps (lost : FailedAreas) (s : State) :
    s.keepsPumps (restoreAreas lost s) := by
  have hif : ∀ (b : Bool) (f : State → State), (∀ t : State, t.keepsPumps (f t)) → ∀ t : State,
      t.keepsPumps (if b then f t else t) := by
    intro b f hf t
    cases b
    · exact t.keepsPumps_refl
    · exact hf t
  have hjob : ∀ t : State, t.keepsPumps (restoreJob t) := fun t =>
    State.samePumps.keeps ⟨rfl, rfl, rfl, rfl, rfl, rfl, rfl⟩
  have hdepth : ∀ t : State, t.keepsPumps (restoreDepth t) := fun t =>
    State.samePumps.keeps ⟨rfl, rfl, rfl, rfl, rfl, rfl, rfl⟩
  exact State.keepsPumps_trans (hif _ restoreTables storeDefaults_keepsPumps _)
    (State.keepsPumps_trans (hif _ restoreString (handMove_keepsPumps _) _)
      (State.keepsPumps_trans (hif _ restoreDepth hdepth _) (hif _ restoreJob hjob _)))

theorem completeChecks_keepsPumps (failed : FailedAreas) (s : State) :
    s.keepsPumps (completeChecks failed s) := by
  unfold completeChecks
  split
  · exact State.keepsPumps_trans (restoreAreas_keepsPumps _ s)
      (State.keepsPumps_trans (onMgmt_keepsPumps rfl) (checkStarting_keepsPumps _))
  · exact s.keepsPumps_refl

/-! ### The timers (R42, R48, R170) -/

theorem meterSecond_keepsPumps (s : State) : s.keepsPumps (meterSecond s) :=
  State.keepsPumps_of_keeps (meterSecond_keeps s) (by decide)
    (meterSecond_moved (K := fun _ => True) trivial trivial trivial .refl)

theorem workPeriod_keepsPumps (s : State) : s.keepsPumps (workPeriod s) :=
  State.keepsPumps_of_keeps (workPeriod_keeps s) (by decide)
    (workPeriod_moved (K := fun _ => True) trivial trivial trivial .refl)

theorem rotatingSecond_keepsPumps (s : State) : s.keepsPumps (rotatingSecond s) := by
  unfold rotatingSecond
  split
  · exact onTracker_keepsPumps rfl
  · exact s.keepsPumps_refl

theorem drillingSecond_keepsPumps (s : State) : s.keepsPumps (drillingSecond s) :=
  State.keepsPumps_of_quiet (drillingSecond_keeps s) (by decide)

theorem secondTickWork_keepsPumps (s : State) : s.keepsPumps (secondTickWork s) := by
  unfold secondTickWork
  dsimp only
  generalize hs1 : ((s.reach s.mgmt.secondDue).onMgmt fun m =>
    { m with siteTime := m.siteTime + 1, secondDue := m.secondDue + 1000 }) = s1
  have htime : s.keepsPumps s1 := hs1 ▸ onMgmt_keepsPumps rfl
  have hramp : s1.keepsPumps (eachPump rampPump s1) :=
    State.keepsPumps_trans (rampPump_keepsPumps 0 s1) (rampPump_keepsPumps 1 _)
  refine State.keepsPumps_trans htime (State.keepsPumps_trans hramp ?_)
  exact State.keepsPumps_trans (rotatingSecond_keepsPumps _)
    (State.keepsPumps_trans (drillingSecond_keepsPumps _) (meterSecond_keepsPumps _))

theorem endPeriod_keepsPumps (s : State) : s.keepsPumps (endPeriod s) := by
  have hjudge := State.keepsPumps_trans (judgePeriod_keepsPumps 0 s.circ.strokes1 s)
    (judgePeriod_keepsPumps 1 s.circ.strokes2 _)
  unfold endPeriod
  dsimp only
  generalize judgePeriod 1 _ _ = s1 at hjudge ⊢
  have hbegin : ∀ t : State, t.keepsPumps (endMovementPeriod (beginPeriod t)) := fun t =>
    State.keepsPumps_of_quiet (l := [.circ, .depth]) (by simp) (by decide)
  exact State.keepsPumps_trans hjudge (State.keepsPumps_trans (workPeriod_keepsPumps s1)
    (State.keepsPumps_trans (hbegin _) (react_keepsPumps _)))

end Sys2Proof.Machine
end

section
/-! The law of the pumps and the bounds of the trunk's queues over every step (R38, R43, R156, R158). -/

namespace Sys2Proof.Machine

theorem RequestEffect.keepsPumps {s w : State} {code : Nat} (h : RequestEffect s code w) :
    s.keepsPumps w := by
  have hmoved := h.moved
  cases h with
  | loadSettings f mode hmode =>
    refine storeSettings_keepsPumps ?_ s
    unfold startModeOf at hmode
    split at hmode
    · exact .inl (Option.some.inj hmode).symm
    · exact .inr (Option.some.inj hmode).symm
    · cases hmode
  | loadChannel i f hfits => exact storeChannel_keepsPumps i _ s
  | loadPump p f hfits => exact storePump_keepsPumps p _ s
  | loadLimits f hfits => exact storeLimits_keepsPumps _ s
  | clearTables hjob =>
    exact State.keepsPumps_trans (storeDefaults_keepsPumps s)
      (State.keepsPumps_trans (clearByLoad_keepsPumps _ _) (react_keepsPumps _))
  | standby hmode => exact State.keepsPumps_trans (goStandby_keepsPumps s) (react_keepsPumps _)
  | setMode m hm hmode =>
    exact State.keepsPumps_trans (wake_keepsPumps _ s)
      (State.keepsPumps_trans (changeMode_keepsPumps hm _) (react_keepsPumps _))
  | tripReset hbled => exact resetTrip_keepsPumps s
  | bhaAdd serial length hfits hrod hroom hserial =>
    refine State.keepsPumps_trans (onTracker_keepsPumps rfl)
      (State.keepsPumps_of_keeps (K := fun _ => True) (handLength_keeps _) (by decide) ?_)
    exact handLength_moved trivial trivial trivial trivial .refl
  | bhaRemove =>
    refine State.keepsPumps_trans (onTracker_keepsPumps rfl)
      (State.keepsPumps_of_keeps (K := fun _ => True) (handLength_keeps _) (by decide) ?_)
    exact handLength_moved trivial trivial trivial trivial .refl
  | holdToSlot slot rod hheld hempty =>
    exact handConn_keepsPumps (onTracker_keeps _ s) (by decide) rfl
  | depthCorrect new hbottom hext =>
    exact State.keepsPumps_of_keeps (K := fun _ => True) (correctDepth_keeps new s) (by decide)
      (correctDepth_moved trivial trivial trivial .refl)
  | releaseBank b hfull =>
    exact State.keepsPumps_of_keeps (K := fun _ => True) (releaseFullBank_keeps b s) (by decide)
      (releaseFullBank_moved trivial trivial trivial trivial trivial .refl)
  | jobOpen number customer hjob hfree hstore =>
    exact State.keepsPumps_of_quiet (l := [.billing, .banks, .recorder]) (by simp [openJob]) (by decide)
  | jobClose hjob =>
    refine State.keepsPumps_of_keeps (K := fun _ => True)
      (l := [.recorder, .banks, .billing, .trunk]) (by simp) (by decide) ?_
    exact finalTicketIfDue_moved trivial trivial trivial (recorderJobClose_moved trivial trivial .refl)
  | ticketNow hjob hcounter =>
    exact State.keepsPumps_of_keeps (K := fun _ => True) (ticketDue_keeps false s) (by decide)
      (ticketDue_moved trivial trivial trivial .refl)
  | releaseTicket t rest hstore =>
    refine State.keepsPumps_of_keeps (K := fun _ => True) (l := [.billing, .banks, .trunk]) ?_ (by decide)
      (afterRelease_moved trivial trivial .refl)
    unfold afterRelease
    repeat' split
    all_goals simp
  | _ => exact State.samePumps.keeps ⟨rfl, rfl, rfl, rfl, rfl, rfl, rfl⟩

/-! ### The frames -/

theorem State.used_of_pumpAt {s : State} {a : Addr} {p : PumpId} (h : s.pumpAt a = some p) :
    s.used p = true := by
  unfold State.pumpAt at h
  split at h
  · next h0 =>
    obtain rfl := Option.some.inj h
    exact (Bool.and_eq_true_iff.mp h0).1
  · split at h
    · next h1 =>
      obtain rfl := Option.some.inj h
      exact (Bool.and_eq_true_iff.mp h1).1
    · cases h

theorem recordCommand_keepsPumps (code : HandlerCode) (slot : Nat) (s : State) :
    s.keepsPumps (recordCommand code slot s) := onTracker_keepsPumps rfl

theorem handlerFrame_keepsPumps (f : Frame) (s : State) : s.keepsPumps (handlerFrame f s) := by
  have hoffer := offerField_keepsPumps f s
  unfold handlerFrame
  split
  · exact hoffer
  · split
    · exact State.keepsPumps_trans hoffer (recordCommand_keepsPumps _ _ _)
    · exact hoffer
  · split
    · unfold judgedCommand
      split
      · exact raise_keepsPumps _ _ _ _
      · exact State.keepsPumps_trans hoffer (recordCommand_keepsPumps _ _ _)
    · exact onTracker_keepsPumps rfl

/-- An update of the trunk that leaves the setpoint queue keeps the laws. -/
theorem onTrunk_keepsPumps {f : Trunk → Trunk} {s : State}
    (h : (f s.trunk).setpoints = s.trunk.setpoints) : s.keepsPumps (s.onTrunk f) :=
  State.samePumps.keeps ⟨rfl, rfl, rfl, rfl, rfl, rfl, h⟩

theorem serveFrame_keepsPumps (f : Frame) (s : State) : s.keepsPumps (serveFrame f s) := by
  have hplace : ∀ (h : ReqHeader) (tag : Byte) (r : Reply) (w : State),
      w.keepsPumps (w.placeReply h tag r) := fun _ _ _ _ => onTrunk_keepsPumps rfl
  rcases serveFrame_cases f s with he | ⟨w, r, he, rfl | rfl | ⟨-, heffect⟩⟩ <;> rw [he]
  · exact s.keepsPumps_refl
  · exact hplace _ _ _ _
  · exact State.keepsPumps_trans (onTrunk_keepsPumps rfl) (hplace _ _ _ _)
  · exact State.keepsPumps_trans heffect.keepsPumps (hplace _ _ _ _)

theorem cabArrival_keepsPumps (f : Frame) (s : State) : s.keepsPumps (cabArrival f s) := by
  unfold cabArrival
  split
  · split
    · exact serveFrame_keepsPumps f s
    · exact onTrunk_keepsPumps rfl
  · split
    · unfold setpointArrival
      split
      · next hp => exact pumpSetpointFrame_keepsPumps f (State.used_of_pumpAt hp)
      · split
        · exact handlerFrame_keepsPumps f s
        · exact offerField_keepsPumps f s
    · exact offerField_keepsPumps f s

theorem fieldArrival_keepsPumps (f : Frame) (s : State) : s.keepsPumps (fieldArrival f s) := by
  have hoffer : s.keepsPumps (s.offerCab f) := by
    refine onTrunk_keepsPumps ?_
    split <;> rfl
  unfold fieldArrival
  dsimp only
  refine State.keepsPumps_trans hoffer (State.keepsPumps_trans (condition_keepsPumps f _)
    (State.keepsPumps_trans ?_ (checkStarting_keepsPumps _)))
  split
  · exact handlerReport_keepsPumps _ _
  · exact State.keepsPumps_refl _

/-! ### All events -/

/-- After a reset both pumps are at zero and no setpoint waits (section 3.2). -/
theorem afterReset_keepsPumps (cause : ResetCause) (s : State) : s.keepsPumps (s.afterReset cause) := by
  refine State.keepsPumps_of rfl (fun _ p => ?_) fun _ N _ _ => ?_
  · have hpump : (s.afterReset cause).pump p = .afterReset := by
      fin_cases p <;> rfl
    rw [hpump]
    exact Pump.fits_of_zero rfl rfl (.inl rfl)
  · exact ⟨List.nodup_nil, fun e he => absurd he List.not_mem_nil⟩

theorem Works.keepsPumps {c : Instr} {s w : State} (h : Works s c w) : s.keepsPumps w := by
  cases h with
  | none => exact s.keepsPumps_refl
  | fieldFrame _ f => exact fieldArrival_keepsPumps f s
  | fieldError => exact onTrunk_keepsPumps rfl
  | cabFrame _ f => exact cabArrival_keepsPumps f s
  | cabError => exact onTrunk_keepsPumps rfl
  | cabSent =>
    unfold endCabSend
    split
    · exact afterReset_keepsPumps _ s
    · exact onTrunk_keepsPumps rfl
  | fieldSent => exact onTrunk_keepsPumps rfl
  | secondTick => exact secondTickWork_keepsPumps s
  | cadence =>
    exact State.keepsPumps_of_keeps (K := fun _ => True) (takeCadence_keeps s) (by decide)
      (takeCadence_moved trivial trivial trivial .refl)
  | staleExpiry _ i due =>
    exact State.keepsPumps_trans (reach_keepsPumps due s)
      (State.keepsPumps_of_keeps (K := fun _ => True) (goStale_keeps i _) (by decide)
        (goStale_moved trivial trivial trivial trivial trivial .refl))
  | runningExpiry _ p due =>
    exact State.keepsPumps_trans (reach_keepsPumps due s)
      (State.keepsPumps_of_keeps (K := fun _ => True) (stopRunning_keeps p _) (by decide)
        (stopRunning_moved trivial trivial trivial trivial .refl))
  | periodExpiry _ due _ =>
    exact State.keepsPumps_trans (reach_keepsPumps due s) (endPeriod_keepsPumps _)
  | handlerExpiry _ due =>
    refine State.keepsPumps_trans (reach_keepsPumps due s) ?_
    unfold expireHandler
    split
    · exact State.keepsPumps_trans (onTracker_keepsPumps rfl) (raise_keepsPumps _ _ _ _)
    · exact State.keepsPumps_refl _
  | settleExpiry _ due =>
    exact State.keepsPumps_trans (reach_keepsPumps due s)
      (State.keepsPumps_of_keeps (K := fun _ => True) (takeActivity_keeps _ _) (by decide)
        (takeActivity_moved trivial .refl))
  | holdExpiry _ due =>
    exact State.keepsPumps_trans (reach_keepsPumps due s)
      (State.keepsPumps_trans (onMgmt_keepsPumps rfl) (checkStarting_keepsPumps _))
  | checks failed => exact completeChecks_keepsPumps failed s
  | endOfStarting => exact checkStarting_keepsPumps s
  | reset _ cause => exact afterReset_keepsPumps cause s

theorem Trunk.fieldArbiter_setpoints (t : Trunk) : t.fieldArbiter.setpoints.Sublist t.setpoints := by
  unfold Trunk.fieldArbiter
  split
  case h_2 heq =>
    rw [heq]
    exact List.sublist_cons_self _ _
  all_goals exact List.Sublist.refl _

theorem Trunk.cabArbiter_setpoints (t : Trunk) : t.cabArbiter.setpoints = t.setpoints := by
  unfold Trunk.cabArbiter
  split <;> rfl

/-- A transmitter takes at most the head setpoint. -/
theorem transmit_setpoints (s : State) : (transmit s).trunk.setpoints.Sublist s.trunk.setpoints :=
  Trunk.cabArbiter_setpoints s.trunk ▸ Trunk.fieldArbiter_setpoints _

theorem transmit_keepsPumps (s : State) : s.keepsPumps (transmit s) :=
  State.keepsPumps_of (transmit_keeps s .tables (by decide)) (fun hs => hs) fun _ _ _ hq =>
    ⟨hq.1.sublist ((transmit_setpoints s).map _), fun e he => hq.2 e ((transmit_setpoints s).subset he)⟩

/-- Every step keeps the law of the pumps, and under it the law of their waiting setpoints. -/
theorem step_keepsPumps {s t : State} (h : step s = .next t) : s.keepsPumps t := by
  have hqueue : ∀ (s : State) q, s.keepsPumps { s with pending := q } := fun s q =>
    State.samePumps.keeps ⟨rfl, rfl, rfl, rfl, rfl, rfl, rfl⟩
  rcases step_next_cases h with ⟨c, q, w, hw, rfl⟩ | ⟨q, rfl⟩ | rfl
  · exact State.keepsPumps_trans (hqueue s q)
      (State.keepsPumps_trans hw.keepsPumps (transmit_keepsPumps w))
  · exact hqueue s q
  · exact onMgmt_keepsPumps rfl

/-- Settles O30: each event keeps the rates within what the row and the holds allow. -/
theorem everyStepKeepsThePumpLaw : Obligations.EveryStepKeepsThePumpLaw :=
  fun _ _ hlaw hstep => (step_keepsPumps hstep).1 hlaw

/-- Settles O4: the queues by what a notice, a setpoint and a frame do to them, the setpoints' nodes under
the law of the pumps. -/
theorem trunkQueuesStayBounded : Obligations.TrunkQueuesStayBounded :=
  fun _ _ hstep => ⟨step_bounded hstep, (step_keepsPumps hstep).2⟩

end Sys2Proof.Machine
end

section
/-! The law of the rods (R54 to R58): what each move of a record does to the records held, and that every
step keeps the law. -/

namespace Sys2Proof.Machine

/-! ### Serials and lengths of the records held (R54) -/

/-- The serial and the length of a record, which no move changes. -/
def Rod.key (r : Rod) : Nat × Nat := (r.serial, r.length)

/-- The serials and lengths of a list of records are as R54 says. -/
def rodsFit (l : List Rod) : Prop :=
  (l.map Rod.serial).Nodup ∧ ∀ r ∈ l, r.inRange

theorem rodsFit_iff_keys (l : List Rod) : rodsFit l ↔
    ((l.map Rod.key).map Prod.fst).Nodup ∧ ∀ k ∈ l.map Rod.key, rodFits k.1 k.2 = true := by
  simp [rodsFit, Rod.key, Rod.inRange, Function.comp_def]

/-- Records that keep their serials and lengths go on fitting as they move, and as some leave. -/
theorem rodsFit_of_subperm {l l' : List Rod} (h : (l'.map Rod.key).Subperm (l.map Rod.key)) (hl : rodsFit l) :
    rodsFit l' := by
  rw [rodsFit_iff_keys] at hl ⊢
  obtain ⟨m, hperm, hsub⟩ := h
  exact ⟨((hperm.map Prod.fst).nodup_iff).mp (hl.1.sublist (hsub.map Prod.fst)),
    fun k hk => hl.2 k (hsub.subset (hperm.mem_iff.mpr hk))⟩

theorem subperm_keys {l l' : List Rod} (h : l'.Subperm l) :
    (l'.map Rod.key).Subperm (l.map Rod.key) := by
  obtain ⟨m, hperm, hsub⟩ := h
  exact ⟨m.map Rod.key, hperm.map _, hsub.map _⟩

/-- A record with a free serial and a fitting length may join (R71, R73). -/
theorem rodsFit_cons {l : List Rod} {r : Rod} (hfits : rodFits r.serial r.length = true)
    (hserial : ∀ q ∈ l, q.serial ≠ r.serial) (hl : rodsFit l) : rodsFit (r :: l) := by
  obtain ⟨hnodup, hrange⟩ := hl
  refine ⟨List.nodup_cons.mpr ⟨fun hmem => ?_, hnodup⟩, List.forall_mem_cons.mpr ⟨hfits, hrange⟩⟩
  obtain ⟨q, hq, heq⟩ := List.mem_map.mp hmem
  exact hserial q hq heq

/-! ### The law by its parts -/

/-- The stack keeps its bounds, with its BHA entries lowest (R56). -/
def stackFits (l : List Rod) : Prop :=
  l.length ≤ Config.stackSize ∧ l.countP (·.kind == .bha) ≤ Config.bhaSize ∧
    l.Pairwise fun lower upper => upper.kind = .bha → lower.kind = .bha

theorem Tracker.law_iff (t : Tracker) : t.law ↔
    rodsFit t.rods ∧ (∀ k r, t.slot k = some r → r.kind = .rod) ∧ (∀ r, t.held = some r → r.kind = .rod) ∧
      stackFits t.stack ∧ (t.conn ≠ .headOn → t.conn = t.headOff) := by
  unfold Tracker.law rodsFit stackFits Tracker.bhaCount
  tauto

theorem stackFits_dropLast {l : List Rod} (h : stackFits l) : stackFits l.dropLast := by
  obtain ⟨hlength, hcount, hpair⟩ := h
  have hsub : l.dropLast.Sublist l := List.dropLast_sublist l
  exact ⟨hsub.length_le.trans hlength, hsub.countP_le.trans hcount, hpair.sublist hsub⟩

/-- A ROD joins the top of a stack that has room (R66). -/
theorem stackFits_append_rod {l : List Rod} {r : Rod} (hroom : l.length < Config.stackSize)
    (hkind : r.kind = .rod) (h : stackFits l) : stackFits (l ++ [r]) := by
  obtain ⟨-, hcount, hpair⟩ := h
  refine ⟨by simpa using hroom, by simpa [List.countP_append, hkind] using hcount,
    List.pairwise_append.mpr ⟨hpair, List.pairwise_singleton _ _, fun a _ b hb hbha => ?_⟩⟩
  obtain rfl := List.mem_singleton.mp hb
  rw [hkind] at hbha
  cases hbha

/-- A stack without a ROD is BHA alone. -/
theorem countP_bha_of_no_rod {l : List Rod} (h : ¬∃ r ∈ l, r.kind = .rod) :
    l.countP (·.kind == .bha) = l.length := by
  refine List.countP_eq_length.mpr fun r hr => ?_
  cases hk : r.kind with
  | rod => exact absurd ⟨r, hr, hk⟩ h
  | bha => rfl

/-- A BHA entry joins a stack of fewer than 4 entries, all of them BHA (R73). -/
theorem stackFits_append_bha {l : List Rod} {r : Rod} (hrod : ¬∃ q ∈ l, q.kind = .rod)
    (hroom : l.countP (·.kind == .bha) < Config.bhaSize) : stackFits (l ++ [r]) := by
  have hlength := countP_bha_of_no_rod hrod
  have hbha : ∀ q ∈ l, q.kind = .bha := fun q hq => by
    cases hk : q.kind with
    | rod => exact absurd ⟨q, hq, hk⟩ hrod
    | bha => rfl
  have hsmall : l.length < 4 := hlength ▸ hroom
  have hcount : (l ++ [r]).countP (·.kind == .bha) ≤ (l ++ [r]).length := List.countP_le_length
  rw [List.length_append, List.length_singleton] at hcount
  refine ⟨?_, hcount.trans hsmall, List.pairwise_append.mpr ⟨List.pairwise_of_forall_mem_list
    fun a ha _ _ _ => hbha a ha, List.pairwise_singleton _ _, fun a ha _ _ _ => hbha a ha⟩⟩
  rw [List.length_append, List.length_singleton]
  exact hsmall.trans (by decide)

/-! ### Slots, the hold and the stack as lists of records -/

theorem Tracker.slot_setSlot (t : Tracker) (k j : Nat) (r : Option Rod) :
    (t.setSlot k r).slot j = if k = j ∧ j < 64 then r else t.slot j := by
  unfold Tracker.slot Tracker.setSlot
  rw [Vector.getElem?_setIfInBounds]
  split
  · next h =>
    subst h
    by_cases hj : k < 64 <;> simp [hj]
  · next h => rw [if_neg fun hn => h hn.1]

/-- A record put into an empty slot joins the records held; past the rack it is put nowhere. -/
theorem Tracker.setSlot_rods_subperm {t : Tracker} {k : Nat} (r : Rod) (h : t.slot k = none) :
    (t.setSlot k (some r)).rods.Subperm (r :: t.rods) := by
  by_cases hk : k < 64
  · have hslot : (t.setSlot k (some r)).slot k = some r := by rw [Tracker.slot_setSlot, if_pos ⟨rfl, hk⟩]
    have hback : (t.setSlot k (some r)).setSlot k none = t := by
      have hnone : t.rack[k] = none := by simpa [Tracker.slot, hk] using h
      unfold Tracker.setSlot
      congr 1
      ext i hi
      by_cases hik : k = i
      · subst hik; simp [hnone]
      · simp [hik]
    exact (hback ▸ Tracker.rods_perm_of_slot hslot).subperm
  · have hsame : (t.setSlot k (some r)).rods = t.rods := by
      unfold Tracker.setSlot
      rw [Vector.setIfInBounds_eq_of_size_le (by omega)]
    rw [hsame]
    exact List.Subperm.cons_self

theorem Tracker.rods_of_hold {t : Tracker} {r : Rod} {src : Source} (h : t.hold = some (r, src)) :
    t.rods = { t with hold := none }.rods ++ [r] := by
  simp [Tracker.rods, Tracker.held, h]

/-- The top entry that leaves the stack leaves the records of the rack and the string. -/
theorem Tracker.rods_of_top {t : Tracker} {r : Rod} (h : t.top = some r) :
    t.rods.Perm (r :: { t with stack := t.stack.dropLast }.rods) := by
  have hstack : t.stack.dropLast ++ [r] = t.stack := List.dropLast_append_getLast? r h
  unfold Tracker.rods
  dsimp only
  rw [← hstack, List.dropLast_concat, ← List.append_assoc, List.append_assoc]
  exact List.perm_middle

theorem Tracker.rods_append_stack (t : Tracker) (r : Rod) :
    { t with stack := t.stack ++ [r] }.rods.Perm (r :: t.rods) := by
  unfold Tracker.rods
  dsimp only
  rw [← List.append_assoc, List.append_assoc]
  exact List.perm_middle

/-! ### The moves of a handler report (R66) -/

theorem Tracker.law_pick {t : Tracker} {k : Nat} {r : Rod} {src : Source} (hslot : t.slot k = some r)
    (hhold : t.hold = none) (h : t.law) :
    { t.setSlot k none with hold := some (r, src), conn := .headOffHolding }.law := by
  rw [Tracker.law_iff] at h ⊢
  obtain ⟨hrods, hslots, hheld, hstack, hconn⟩ := h
  refine ⟨rodsFit_of_subperm (subperm_keys ?_) hrods, fun j q hq => ?_, fun q hq => ?_, hstack, fun _ => rfl⟩
  · have hperm := Tracker.rods_perm_of_slot hslot
    have hnew : { t.setSlot k none with hold := some (r, src), conn := .headOffHolding }.rods =
        (t.setSlot k none).rods ++ [r] := by
      simp [Tracker.rods, Tracker.setSlot, Tracker.held, hhold]
    rw [hnew]
    exact ((List.perm_append_singleton r _).trans hperm.symm).subperm
  · refine hslots j q ?_
    have hj : (t.setSlot k none).slot j = some q := hq
    rw [Tracker.slot_setSlot] at hj
    split at hj
    · cases hj
    · exact hj
  · obtain rfl : r = q := by simpa [Tracker.held] using hq
    exact hslots k r hslot

/-- A record laid out of the hold (R66, R75). -/
theorem Tracker.law_lay {t : Tracker} {k : Nat} {r : Rod} (hheld : t.held = some r)
    (hslot : t.slot k = none) (h : t.law) :
    Tracker.law { t.setSlot k (some r) with
      hold := none, conn := if t.conn = .headOffHolding then .headOffEmpty else t.conn } := by
  obtain ⟨src, hhold⟩ : ∃ src, t.hold = some (r, src) := by
    obtain ⟨⟨r', src⟩, hh, rfl⟩ := Option.map_eq_some_iff.mp hheld
    exact ⟨src, hh⟩
  rw [Tracker.law_iff] at h ⊢
  obtain ⟨hrods, hslots, hkind, hstack, hconn⟩ := h
  refine ⟨rodsFit_of_subperm (subperm_keys ?_) hrods, fun j q hq => ?_, fun q hq => ?_, hstack, fun hne => ?_⟩
  · have hput := Tracker.setSlot_rods_subperm (t := { t with hold := none }) (k := k) r hslot
    rw [Tracker.rods_of_hold hhold]
    exact hput.trans (List.perm_append_singleton r _).symm.subperm
  · have hj : (t.setSlot k (some r)).slot j = some q := hq
    rw [Tracker.slot_setSlot] at hj
    split at hj
    · obtain rfl := Option.some.inj hj
      exact hkind r hheld
    · exact hslots j q hj
  · cases hq
  · dsimp only at hne ⊢
    split
    · rfl
    · next hother =>
      rw [if_neg hother] at hne
      have hwas : t.headOff = Conn.headOffHolding := by simp [Tracker.headOff, hhold]
      exact absurd ((hconn hne).trans hwas) hother

theorem Tracker.law_makeRod {t : Tracker} {r : Rod} {src : Source} (hhold : t.hold = some (r, src))
    (hroom : t.stack.length < Config.stackSize) (runs : Nat) (h : t.law) :
    { t with stack := t.stack ++ [{ r with runs := runs }], hold := none, conn := .headOffEmpty }.law := by
  rw [Tracker.law_iff] at h ⊢
  obtain ⟨hrods, hslots, hkind, hstack, hconn⟩ := h
  have hrod : r.kind = .rod := hkind r (by simp [Tracker.held, hhold])
  refine ⟨rodsFit_of_subperm ?_ hrods, hslots, fun q hq => (by cases hq),
    stackFits_append_rod hroom hrod hstack, fun _ => rfl⟩
  have hperm := Tracker.rods_append_stack { t with hold := none } { r with runs := runs }
  rw [Tracker.rods_of_hold hhold]
  exact ((hperm.map Rod.key).trans ((List.perm_append_singleton r _).symm.map Rod.key)).subperm

theorem Tracker.law_breakRod {t : Tracker} {r : Rod} {src : Source} (htop : t.top = some r)
    (hkind : r.kind = .rod) (hhold : t.hold = none) (h : t.law) :
    { t with stack := t.stack.dropLast, hold := some (r, src), conn := .headOffHolding }.law := by
  rw [Tracker.law_iff] at h ⊢
  obtain ⟨hrods, hslots, -, hstack, hconn⟩ := h
  refine ⟨rodsFit_of_subperm (subperm_keys ?_) hrods, hslots, fun q hq => ?_, stackFits_dropLast hstack,
    fun _ => rfl⟩
  · have hnew : { t with stack := t.stack.dropLast, hold := some (r, src), conn := .headOffHolding }.rods =
        { t with stack := t.stack.dropLast }.rods ++ [r] := by
      simp [Tracker.rods, Tracker.held, hhold]
    rw [hnew]
    exact ((List.perm_append_singleton r _).trans (Tracker.rods_of_top htop).symm).subperm
  · obtain rfl : r = q := by simpa [Tracker.held] using hq
    exact hkind

/-- A connection state that is HEAD_ON, or shows the hold, keeps the law. -/
theorem Tracker.law_conn {t : Tracker} {c : Conn} (hc : c ≠ .headOn → c = t.headOff) (h : t.law) :
    { t with conn := c }.law := by
  rw [Tracker.law_iff] at h ⊢
  obtain ⟨hrods, hslots, hkind, hstack, -⟩ := h
  exact ⟨hrods, hslots, hkind, hstack, hc⟩

theorem applyMove_law {code : HandlerCode} {slot : Nat} {t u : Tracker}
    (hmove : applyMove code slot t = some u) (h : t.law) : u.law := by
  unfold applyMove at hmove
  split at hmove
  case h_1 =>
    split at hmove
    · obtain rfl := Option.some.inj hmove
      exact Tracker.law_conn (fun _ => rfl) h
    · cases hmove
  case h_2 =>
    split at hmove
    · obtain rfl := Option.some.inj hmove
      exact Tracker.law_conn (fun hne => absurd rfl hne) h
    · cases hmove
  case h_3 =>
    split at hmove
    · next rod hslot hhold =>
      split at hmove
      · obtain rfl := Option.some.inj hmove
        exact Tracker.law_pick hslot hhold h
      · cases hmove
    · cases hmove
  case h_4 =>
    split at hmove
    · next rod hhold =>
      split at hmove
      · next hroom =>
        obtain rfl := Option.some.inj hmove
        exact Tracker.law_makeRod hhold hroom.2 _ h
      · cases hmove
    · cases hmove
  case h_5 =>
    split at hmove
    · next rod htop hhold =>
      split at hmove
      · next hkind =>
        obtain rfl := Option.some.inj hmove
        exact Tracker.law_breakRod htop hkind.2 hhold h
      · cases hmove
    · cases hmove
  case h_6 =>
    split at hmove
    · next rod src hhold =>
      split at hmove
      · next hslot =>
        obtain rfl := Option.some.inj hmove
        exact Tracker.law_lay (r := rod) (by simp [Tracker.held, hhold]) (Option.isNone_iff_eq_none.mp hslot) h
      · cases hmove
    · cases hmove

/-! ### The requests (R71 to R75) -/

theorem Tracker.law_rackPut {t : Tracker} {k serial length : Nat} (hfits : rodFits serial length = true)
    (hslot : t.slot k = none) (hserial : t.holdsSerial serial = false) (h : t.law) :
    (t.setSlot k (some ⟨serial, .rod, length, 0, 0⟩)).law := by
  rw [Tracker.law_iff] at h ⊢
  obtain ⟨hrods, hslots, hkind, hstack, hconn⟩ := h
  refine ⟨?_, fun j q hq => ?_, hkind, hstack, hconn⟩
  · refine rodsFit_of_subperm (subperm_keys (Tracker.setSlot_rods_subperm _ hslot))
      (rodsFit_cons hfits (fun q hq heq => ?_) hrods)
    exact absurd ((Tracker.holdsSerial_iff t serial).mpr ⟨q, hq, heq⟩) (by simp [hserial])
  · rw [Tracker.slot_setSlot] at hq
    split at hq
    · obtain rfl := Option.some.inj hq
      rfl
    · exact hslots j q hq

theorem Tracker.law_rackTake {t : Tracker} (k : Nat) (h : t.law) : (t.setSlot k none).law := by
  rw [Tracker.law_iff] at h ⊢
  obtain ⟨hrods, hslots, hkind, hstack, hconn⟩ := h
  refine ⟨?_, fun j q hq => ?_, hkind, hstack, hconn⟩
  · cases hslot : t.slot k with
    | some r =>
      refine rodsFit_of_subperm (subperm_keys ?_) hrods
      exact List.Subperm.cons_self.trans (Tracker.rods_perm_of_slot hslot).symm.subperm
    | none =>
      have hsame : (t.setSlot k none).rods = t.rods := by
        have hrack : t.rack.setIfInBounds k none = t.rack := by
          ext i hi
          by_cases hik : k = i
          · subst hik
            have hnone : t.rack[k] = none := by simpa [Tracker.slot, hi] using hslot
            simp [hnone]
          · simp [hik]
        unfold Tracker.setSlot
        rw [hrack]
      rw [hsame]
      exact hrods
  · rw [Tracker.slot_setSlot] at hq
    split at hq
    · cases hq
    · exact hslots j q hq

theorem Tracker.law_bhaAdd {t : Tracker} {serial length : Nat} (hfits : rodFits serial length = true)
    (hrod : t.hasRod = false) (hroom : t.bhaCount < Config.bhaSize)
    (hserial : t.holdsSerial serial = false) (h : t.law) :
    Tracker.law { t with stack := t.stack ++ [⟨serial, .bha, length, 0, 1⟩] } := by
  rw [Tracker.law_iff] at h ⊢
  obtain ⟨hrods, hslots, hkind, hstack, hconn⟩ := h
  refine ⟨?_, hslots, hkind, stackFits_append_bha (fun hex => ?_) hroom, hconn⟩
  · refine rodsFit_of_subperm (subperm_keys (Tracker.rods_append_stack t ⟨serial, .bha, length, 0, 1⟩).subperm)
      (rodsFit_cons (r := ⟨serial, .bha, length, 0, 1⟩) hfits (fun q hq heq => ?_) hrods)
    exact absurd ((Tracker.holdsSerial_iff t serial).mpr ⟨q, hq, heq⟩) (by simp [hserial])
  · exact absurd ((Tracker.hasRod_iff t).mpr hex) (by simp [hrod])

theorem Tracker.law_dropLast {t : Tracker} (h : t.law) : { t with stack := t.stack.dropLast }.law := by
  rw [Tracker.law_iff] at h ⊢
  obtain ⟨hrods, hslots, hkind, hstack, hconn⟩ := h
  refine ⟨?_, hslots, hkind, stackFits_dropLast hstack, hconn⟩
  have hsub : { t with stack := t.stack.dropLast }.rods.Sublist t.rods :=
    ((List.Sublist.refl _).append (List.dropLast_sublist t.stack)).append (List.Sublist.refl _)
  exact rodsFit_of_subperm (subperm_keys hsub.subperm) hrods

/-- Rotating seconds change neither serial nor length nor kind (R70). -/
theorem Tracker.law_mapStack {t : Tracker} {f : Rod → Rod} (hkey : ∀ r, (f r).key = r.key)
    (hkind : ∀ r, (f r).kind = r.kind) (h : t.law) : { t with stack := t.stack.map f }.law := by
  rw [Tracker.law_iff] at h ⊢
  obtain ⟨hrods, hslots, hheld, ⟨hlength, hcount, hpair⟩, hconn⟩ := h
  refine ⟨rodsFit_of_subperm (List.Perm.subperm (.of_eq ?_)) hrods, hslots, hheld, ⟨?_, ?_, ?_⟩, hconn⟩
  · simp [Tracker.rods, Tracker.held, Function.comp_def, hkey]
  · simpa using hlength
  · simpa [List.countP_map, Function.comp_def, hkind] using hcount
  · exact List.pairwise_map.mpr (by simpa [hkind] using hpair)

theorem Tracker.default_law : Tracker.default.law := by
  have hslot : ∀ k, Tracker.default.slot k = none := by
    intro k
    by_cases hk : k < 64 <;> simp [Tracker.slot, Tracker.default, hk]
  rw [Tracker.law_iff]
  refine ⟨⟨?_, ?_⟩, fun k r hr => ?_, fun r hr => (by cases hr), ⟨by decide, by decide, .nil⟩,
    fun hne => absurd rfl hne⟩
  · decide
  · have hnone : Tracker.default.rods = [] := by decide
    simp [hnone]
  · rw [hslot] at hr
    cases hr

end Sys2Proof.Machine
end

section
/-! What the loads, the restored areas and the release of a ticket leave alone. -/

namespace Sys2Proof.Machine

theorem storedDefaults_keeps (s : State) : keepsAllBut [.tables, .inputs, .tracker] s
    (clearCommand { s with tables := .default, inputs := Vector.replicate 13 .afterLoad }) := by
  intro b hb
  cases b <;> simp_all [sameIn, clearCommand]

theorem storeSettings_keeps (r : Settings) (s : State) :
    keepsAllBut [.tables, .circ, .depth, .recorder, .banks, .billing, .trunk] s (storeSettings r s) := by
  unfold storeSettings
  dsimp only
  split <;> simp

@[simp] theorem keepsAllBut_storeSettings (l : List Block) (r : Settings) (s t : State)
    (hl : [.tables, .circ, .depth, .recorder, .banks, .billing, .trunk] ⊆ l) :
    keepsAllBut l s (storeSettings r t) ↔ keepsAllBut l s t :=
  keepsAllBut_congr (storeSettings_keeps r t) hl

theorem storeChannel_keeps (i : InputId) (r : ChannelRow) (s : State) :
    keepsAllBut [.tables, .inputs, .circ, .depth, .recorder, .banks, .billing, .trunk] s (storeChannel i r s) := by
  unfold storeChannel
  dsimp only
  split <;> simp

@[simp] theorem keepsAllBut_storeChannel (l : List Block) (i : InputId) (r : ChannelRow) (s t : State)
    (hl : [.tables, .inputs, .circ, .depth, .recorder, .banks, .billing, .trunk] ⊆ l) :
    keepsAllBut l s (storeChannel i r t) ↔ keepsAllBut l s t :=
  keepsAllBut_congr (storeChannel_keeps i r t) hl

theorem storePump_keeps (p : PumpId) (r : PumpRow) (s : State) :
    keepsAllBut [.tables, .circ, .pumpCtl, .depth, .recorder, .banks, .billing, .trunk] s (storePump p r s) := by
  unfold storePump
  simp

@[simp] theorem keepsAllBut_storePump (l : List Block) (p : PumpId) (r : PumpRow) (s t : State)
    (hl : [.tables, .circ, .pumpCtl, .depth, .recorder, .banks, .billing, .trunk] ⊆ l) :
    keepsAllBut l s (storePump p r t) ↔ keepsAllBut l s t :=
  keepsAllBut_congr (storePump_keeps p r t) hl

theorem storeLimits_keeps (r : Limits) (s : State) :
    keepsAllBut [.tables, .tracker, .depth, .recorder, .banks, .billing, .trunk] s (storeLimits r s) := by
  unfold storeLimits
  dsimp only
  split <;> simp

@[simp] theorem keepsAllBut_storeLimits (l : List Block) (r : Limits) (s t : State)
    (hl : [.tables, .tracker, .depth, .recorder, .banks, .billing, .trunk] ⊆ l) :
    keepsAllBut l s (storeLimits r t) ↔ keepsAllBut l s t :=
  keepsAllBut_congr (storeLimits_keeps r t) hl

theorem storeDefaults_keeps (s : State) :
    keepsAllBut [.tables, .inputs, .pumpCtl, .tracker, .trunk] s (storeDefaults s) := by
  refine keepsAllBut_trans (keepsAllBut_mono (storedDefaults_keeps s) (by simp)) ?_
  unfold storeDefaults
  simp

@[simp] theorem keepsAllBut_storeDefaults (l : List Block) (s t : State)
    (hl : [.tables, .inputs, .pumpCtl, .tracker, .trunk] ⊆ l) :
    keepsAllBut l s (storeDefaults t) ↔ keepsAllBut l s t :=
  keepsAllBut_congr (storeDefaults_keeps t) hl

theorem afterRelease_keeps (s : State) :
    keepsAllBut [.banks, .billing, .trunk] s (afterRelease s) := by
  unfold afterRelease
  repeat' split
  all_goals simp

@[simp] theorem keepsAllBut_afterRelease (l : List Block) (s t : State)
    (hl : [.banks, .billing, .trunk] ⊆ l) :
    keepsAllBut l s (afterRelease t) ↔ keepsAllBut l s t :=
  keepsAllBut_congr (afterRelease_keeps t) hl

end Sys2Proof.Machine
end

section
/-! Every step keeps the law of the rods (R54 to R58). -/

namespace Sys2Proof.Machine

/-- The law does not read the pending command, the error count and the tally mark. -/
theorem Tracker.law_congr {t u : Tracker} (hrack : u.rack = t.rack) (hstack : u.stack = t.stack)
    (hhold : u.hold = t.hold) (hconn : u.conn = t.conn) (h : t.law) : u.law := by
  obtain ⟨rack, stack, hold, conn⟩ := u
  subst hrack hstack hhold hconn
  exact h

/-- An event that leaves the tracker keeps its law. -/
theorem Tracker.law_of_keeps {l : List Block} {s t : State} (h : keepsAllBut l s t)
    (hl : Block.tracker ∉ l) (hs : s.tracker.law) : t.tracker.law :=
  (h .tracker hl : t.tracker = s.tracker) ▸ hs

/-! ### Handler commands and reports (R59 to R69) -/

theorem clearCommand_law {s : State} (h : s.tracker.law) : (clearCommand s).tracker.law :=
  Tracker.law_congr rfl rfl rfl rfl h

theorem setTallyUncertain_law {s : State} (h : s.tracker.law) : (setTallyUncertain s).tracker.law :=
  Tracker.law_of_keeps (s := s.onTracker fun t => { t with tallyUncertain := true })
    (handUncertain_keeps _ _) (by decide) (Tracker.law_congr rfl rfl rfl rfl h)

theorem mismatchConn_law (code : HandlerCode) {t : Tracker} (h : t.law) :
    Tracker.law { t with conn := mismatchConn code t } := by
  obtain ⟨-, -, -, -, hconn⟩ := (Tracker.law_iff t).mp h
  refine Tracker.law_conn (fun hne => ?_) h
  cases code with
  | breakHead => rfl
  | makeHead => exact absurd rfl hne
  | _ => exact hconn hne

theorem mismatch_tracker (code : HandlerCode) (cause : Nat) (s : State) :
    (mismatch code cause s).tracker = { (setTallyUncertain s).tracker with
      conn := mismatchConn code (setTallyUncertain s).tracker } :=
  handConn_keeps s.tracker.conn ((setTallyUncertain s).onTracker fun t =>
    { t with conn := mismatchConn code t }) .tracker (by decide)

theorem mismatch_law (code : HandlerCode) (cause : Nat) {s : State} (h : s.tracker.law) :
    (mismatch code cause s).tracker.law := by
  rw [mismatch_tracker]
  exact mismatchConn_law code (setTallyUncertain_law h)

theorem handMove_tracker (old : Conn) (s : State) : (handMove old s).tracker = s.tracker :=
  handMove_keeps old s .tracker (by decide)

theorem handlerReport_law (payload : List Byte) {s : State} (h : s.tracker.law) :
    (handlerReport payload s).tracker.law := by
  unfold handlerReport
  split
  · exact Tracker.law_congr rfl rfl rfl rfl h
  · split
    · split
      · exact setTallyUncertain_law h
      · exact h
    · split
      · unfold okReport completeCommand
        split
        · dsimp only
          split
          · next hmove =>
            rw [handMove_tracker]
            exact applyMove_law hmove (clearCommand_law h)
          · exact mismatch_law _ _ (clearCommand_law h)
        · exact mismatch_law _ _ h
      · unfold failedReport
        split
        · exact clearCommand_law h
        · exact h

theorem handlerFrame_law (f : Frame) {s : State} (h : s.tracker.law) : (handlerFrame f s).tracker.law := by
  unfold handlerFrame
  split
  · exact h
  · split
    · exact Tracker.law_congr rfl rfl rfl rfl h
    · exact h
  · split
    · unfold judgedCommand
      split
      · exact h
      · exact Tracker.law_congr rfl rfl rfl rfl h
    · exact Tracker.law_congr rfl rfl rfl rfl h

/-! ### Requests and frames -/

theorem RequestEffect.tracker_law {s w : State} {code : Nat} (h : RequestEffect s code w)
    (hs : s.tracker.law) : w.tracker.law := by
  cases h with
  | loadLimits f hfits =>
    unfold storeLimits
    refine Tracker.law_of_keeps (react_keeps _) (by decide) ?_
    split
    · exact hs
    · exact clearCommand_law hs
  | clearTables hjob =>
    refine Tracker.law_of_keeps (l := [.pumpCtl, .circ, .depth, .recorder, .banks, .billing, .trunk])
      (s := clearCommand { s with tables := .default, inputs := Vector.replicate 13 .afterLoad })
      (by simp [storeDefaults]) (by decide) (clearCommand_law hs)
  | rackPut slot serial length hfits hempty hserial =>
    exact Tracker.law_rackPut hfits (by simpa using hempty) hserial hs
  | rackTake slot => exact Tracker.law_rackTake slot hs
  | bhaAdd serial length hfits hrod hroom hserial =>
    rw [handLength_tracker]
    exact Tracker.law_bhaAdd hfits hrod hroom hserial hs
  | bhaRemove =>
    rw [handLength_tracker]
    exact Tracker.law_dropLast hs
  | holdToSlot slot rod hheld hempty =>
    exact Tracker.law_of_keeps (handConn_keeps _ _) (by decide)
      (Tracker.law_lay hheld (by simpa using hempty) hs)
  | tallyConfirm => exact Tracker.law_congr rfl rfl rfl rfl hs
  | _ =>
    exact Tracker.law_of_keeps
      (l := [.tables, .inputs, .circ, .pumpCtl, .depth, .recorder, .banks, .billing, .trunk, .mgmt])
      (by simp [openJob]) (by decide) hs

theorem cabArrival_law (f : Frame) {s : State} (h : s.tracker.law) : (cabArrival f s).tracker.law := by
  unfold cabArrival setpointArrival
  split
  · split
    · rcases serveFrame_cases f s with he | ⟨w, r, he, rfl | rfl | ⟨-, heffect⟩⟩ <;> rw [he]
      · exact h
      · exact h
      · exact h
      · exact heffect.tracker_law h
    · exact h
  · split
    · split
      · exact Tracker.law_of_keeps (pumpSetpointFrame_keeps _ f s) (by decide) h
      · split
        · exact handlerFrame_law f h
        · exact h
    · exact h

theorem fieldArrival_law (f : Frame) {s : State} (h : s.tracker.law) : (fieldArrival f s).tracker.law := by
  have hcond : (condition f (s.offerCab f)).tracker.law :=
    Tracker.law_of_keeps (condition_keeps f _) (by decide) h
  unfold fieldArrival
  refine Tracker.law_of_keeps (checkStarting_keeps _) (by decide) ?_
  split
  · exact handlerReport_law _ hcond
  · exact hcond

/-! ### All events -/

theorem completeChecks_law (failed : FailedAreas) {s : State} (h : s.tracker.law) :
    (completeChecks failed s).tracker.law := by
  have htables : ∀ t : State, t.tracker.law → (restoreTables t).tracker.law := fun t ht =>
    Tracker.law_of_keeps (l := [.pumpCtl, .trunk])
      (s := clearCommand { t with tables := .default, inputs := Vector.replicate 13 .afterLoad })
      (by simp [restoreTables, storeDefaults]) (by decide) (clearCommand_law ht)
  have hstring : ∀ t : State, (restoreString t).tracker.law := fun t => by
    rw [restoreString, handMove_tracker]
    exact Tracker.law_congr rfl rfl rfl rfl Tracker.default_law
  have hrest : ∀ (lost : FailedAreas) (t : State), (restoreAreas lost t).tracker =
      (if lost.string = true then restoreString (if lost.tables = true then restoreTables t else t)
        else if lost.tables = true then restoreTables t else t).tracker := by
    intro lost t
    unfold restoreAreas
    dsimp only
    cases lost.depth <;> cases lost.job <;> rfl
  unfold completeChecks
  split
  · refine Tracker.law_of_keeps (checkStarting_keeps _) (by decide) ?_
    suffices hareas : (restoreAreas (lostAreas failed s) s).tracker.law from hareas
    rw [hrest]
    split
    · exact hstring _
    · split
      · exact htables s h
      · exact h
  · exact h

theorem secondTickWork_law {s : State} (h : s.tracker.law) : (secondTickWork s).tracker.law := by
  have hramp : (eachPump rampPump ((s.reach s.mgmt.secondDue).onMgmt fun m =>
      { m with siteTime := m.siteTime + 1, secondDue := m.secondDue + 1000 })).tracker.law :=
    Tracker.law_of_keeps (eachPump_keeps rampPump_keeps _) (by decide) h
  unfold secondTickWork
  dsimp only
  generalize eachPump rampPump _ = s1 at hramp ⊢
  refine Tracker.law_of_keeps (l := [.recorder, .banks, .billing, .trunk]) (s := rotatingSecond s1)
    (by simp) (by decide) ?_
  unfold rotatingSecond
  split
  · exact Tracker.law_mapStack (fun _ => rfl) (fun _ => rfl) hramp
  · exact hramp

theorem Works.tracker_law {c : Instr} {s w : State} (h : Works s c w) (hs : s.tracker.law) :
    w.tracker.law := by
  cases h with
  | fieldFrame _ f => exact fieldArrival_law f hs
  | cabFrame _ f => exact cabArrival_law f hs
  | cabSent =>
    unfold endCabSend
    split
    · exact Tracker.law_congr rfl rfl rfl rfl hs
    · exact hs
  | fieldSent => exact hs
  | secondTick => exact secondTickWork_law hs
  | handlerExpiry _ due =>
    unfold expireHandler
    split
    · exact clearCommand_law hs
    · exact hs
  | checks failed => exact completeChecks_law failed hs
  | reset => exact Tracker.law_congr rfl rfl rfl rfl hs
  | _ =>
    exact Tracker.law_of_keeps
      (l := [.tables, .inputs, .circ, .pumpCtl, .depth, .recorder, .banks, .billing, .trunk, .mgmt])
      (by simp) (by decide) hs

/-- Settles O35: each move of a record carries its serial along, and the other events leave the tracker. -/
theorem everyStepKeepsTheRodLaw : Obligations.EveryStepKeepsTheRodLaw :=
  fun _ _ hlaw hstep => step_keeps (P := fun s => s.tracker.law) (fun _ _ h => h) (fun _ h => h)
    (fun _ h => h) (fun _ _ _ hw => hw.tracker_law) hstep hlaw

end Sys2Proof.Machine
end

section
/-! The law of the balance window (R24, R27, R173): what a period, a clearing and the end of STARTING leave in
the monitor, and that every step keeps the law. -/

namespace Sys2Proof.Machine

/-! ### The monitor under its law -/

/-- The part of the law that speaks of the monitor alone, for a window of `w` periods. -/
def Circulation.fits (w : Nat) (starting : Prop) (c : Circulation) : Prop :=
  c.window.length ≤ w ∧ c.sumR = (c.window.map PeriodRecord.balance).sum ∧
  c.sumIn = (c.window.map fun r => (r.vin : Int)).sum ∧ c.sumOut = (c.window.map PeriodRecord.vout).sum ∧
  (c.state.evaluated = true → c.window.length = w) ∧
  (c.state = .pumpsOff ∨ c.state = .flowing → c.window = []) ∧
  (starting → c.periodDue = none ∧ c.window = [] ∧ c.state = .pumpsOff)

theorem State.windowLaw_iff (s : State) : s.windowLaw ↔
    4 ≤ s.settings.window ∧ s.startModeLegal ∧ s.mgmt.remembered ≠ some .starting ∧
      s.circ.fits s.settings.window (s.mode = .starting) := Iff.rfl

theorem Circulation.fits_mono {w : Nat} {P Q : Prop} {c : Circulation} (h : c.fits w P) (hQ : Q → P) :
    c.fits w Q := by
  obtain ⟨hlength, hr, hin, hout, heval, hoff, hstart⟩ := h
  exact ⟨hlength, hr, hin, hout, heval, hoff, fun hq => hstart (hQ hq)⟩

/-- What a period collects is not read by the law. -/
theorem Circulation.fits_congr {w : Nat} {P : Prop} {c d : Circulation} (hwindow : d.window = c.window)
    (hr : d.sumR = c.sumR) (hin : d.sumIn = c.sumIn) (hout : d.sumOut = c.sumOut) (hstate : d.state = c.state)
    (hdue : P → d.periodDue = c.periodDue) (h : c.fits w P) : d.fits w P := by
  unfold Circulation.fits at h ⊢
  rw [hwindow, hr, hin, hout, hstate]
  obtain ⟨hlength, hsr, hsin, hsout, heval, hoff, hstart⟩ := h
  exact ⟨hlength, hsr, hsin, hsout, heval, hoff, fun hp => by rw [hdue hp]; exact hstart hp⟩

/-- An empty window fits every length, in a state that is not evaluated. -/
theorem Circulation.fits_of_empty {w : Nat} {c : Circulation} (hwindow : c.window = []) (hr : c.sumR = 0)
    (hin : c.sumIn = 0) (hout : c.sumOut = 0) (hstate : c.state.evaluated = false) : c.fits w False := by
  unfold Circulation.fits
  rw [hwindow, hr, hin, hout, hstate]
  simp

/-- A window that has taken its sums fits where its length fits the state. -/
theorem Circulation.fits_of_setWindow {w : Nat} {c d : Circulation} {l : List PeriodRecord}
    (hwindow : d.window = l) (hr : d.sumR = (c.setWindow l).sumR) (hin : d.sumIn = (c.setWindow l).sumIn)
    (hout : d.sumOut = (c.setWindow l).sumOut) (hlength : l.length ≤ w)
    (heval : d.state.evaluated = true → l.length = w) (hoff : d.state ≠ .pumpsOff ∧ d.state ≠ .flowing) :
    d.fits w False := by
  unfold Circulation.fits
  rw [hwindow, hr, hin, hout]
  exact ⟨hlength, rfl, rfl, rfl, heval, fun h => by tauto, False.elim⟩

/-! ### A period (R24, R27, R30) -/

theorem evaluate_evaluated (th : Thresholds) (before : CircState) (r vin vout : Int) :
    (evaluate th before r vin vout).evaluated = true := by
  unfold evaluate
  dsimp only
  repeat' split
  all_goals rfl

theorem joinWindow_length {w : Nat} {window : List PeriodRecord} (r : PeriodRecord) (hw : 0 < w)
    (h : window.length ≤ w) : (joinWindow w window r).length = min w (window.length + 1) := by
  unfold joinWindow
  split
  · simp only [List.length_append, List.length_tail, List.length_singleton]
    omega
  · simp only [List.length_append, List.length_singleton]
    omega

/-- The state after a pumped period is evaluated only over a full window. -/
theorem pumpedPeriod_fits {s : State} {P : Prop} (hw : 0 < s.settings.window)
    (h : s.circ.fits s.settings.window P) : (pumpedPeriod s).circ.fits s.settings.window False := by
  obtain ⟨hlength, -, -, -, heval, -, -⟩ := h
  have hjoin := joinWindow_length s.periodRecord hw hlength
  generalize hl : joinWindow s.settings.window s.circ.window s.periodRecord = l at hjoin
  have hjoined : (joinPeriod s).circ.window = l := hl
  have hfit : ∀ st, (st.evaluated = true → l.length = s.settings.window) →
      st ≠ CircState.pumpsOff ∧ st ≠ CircState.flowing → ∀ n,
      ({ (joinPeriod s).circ with state := st, flowing := n } : Circulation).fits s.settings.window False := by
    intro st hst hoff n
    exact Circulation.fits_of_setWindow (c := s.circ) (l := l) hjoined (by rw [← hl]; rfl)
      (by rw [← hl]; rfl) (by rw [← hl]; rfl) (by omega) hst hoff
  have hjudged : ∀ (t : State) before, (t.judged before).evaluated = true := fun _ _ =>
    evaluate_evaluated _ _ _ _ _
  have hon : ∀ {st : CircState}, st.evaluated = true → st ≠ .pumpsOff ∧ st ≠ .flowing := by
    intro st hst
    constructor <;> rintro rfl <;> cases hst
  have hfull : ∀ t : State, t.settings = s.settings → t.circ.window = l → t.windowFull = true →
      l.length = s.settings.window := by
    intro t hset hwin h
    unfold State.windowFull at h
    rw [hset, hwin, decide_eq_true_eq] at h
    omega
  have hblind := hfit .blind nofun (by decide) (joinPeriod s).circ.flowing
  -- An evaluated state had a full window before the record joined, and has one after.
  have hstay : s.circ.state.evaluated = true → ∀ st : CircState, st.evaluated = true →
      (setCircState st (joinPeriod s)).circ.fits s.settings.window False := by
    intro hwas st hst
    exact hfit st (fun _ => by have := heval hwas; omega) (hon hst) (joinPeriod s).circ.flowing
  have hevaluated : s.circ.state.evaluated = true → ∀ before, (if 3 ≤ (joinPeriod s).circ.held then
      setCircState .blind (joinPeriod s) else setCircState ((joinPeriod s).judged before)
        (joinPeriod s)).circ.fits s.settings.window False := by
    intro hwas before
    split
    · exact hblind
    · exact hstay hwas _ (hjudged _ _)
  have hrising : (setCircState (if (joinPeriod s).windowFull then (joinPeriod s).judged .filling else .filling)
      ((joinPeriod s).onCirc fun c => { c with flowing := 0 })).circ.fits s.settings.window False := by
    split
    · next hf => exact hfit _ (fun _ => hfull (joinPeriod s) rfl hjoined hf) (hon (hjudged _ _)) 0
    · exact hfit .filling nofun (by decide) 0
  unfold pumpedPeriod movePumped
  cases hst : s.circ.state with
  | pumpsOff => exact hrising
  | flowing => exact hrising
  | blind =>
    dsimp only
    split
    · have hsame : (joinPeriod s).circ = { (joinPeriod s).circ with state := .blind } := by
        rw [← hst]; rfl
      rw [hsame]
      exact hblind
    · exact Circulation.fits_of_setWindow (c := s.circ) (l := [s.periodRecord]) rfl rfl rfl rfl hw nofun
        ⟨nofun, nofun⟩
  | filling =>
    dsimp only
    split
    · exact hblind
    · split
      · next hf => exact hfit _ (fun _ => hfull (joinPeriod s) rfl hjoined hf) (hon (hjudged _ _)) _
      · have hsame : (joinPeriod s).circ = { (joinPeriod s).circ with state := .filling } := by
          rw [← hst]; rfl
        rw [hsame]
        exact hfit .filling nofun (by decide) _
  | _ => exact hevaluated (by rw [hst]; rfl) _

/-- A test of three periods moves the flowing count, and the state at the third (R28, R29). -/
theorem countedTest_cases (n : Nat) (next : CircState) (s : State) :
    ∃ n' st, (if 3 ≤ n then s.onCirc fun c => { c with state := next, flowing := 0 }
        else s.onCirc fun c => { c with flowing := n }).circ =
      { s.circ with state := st, flowing := n' } ∧ (st = s.circ.state ∨ st = next) := by
  split
  · exact ⟨0, next, rfl, .inr rfl⟩
  · exact ⟨n, s.circ.state, rfl, .inl rfl⟩

theorem flowingTest_cases (s : State) : ∃ n st, (flowingTest s).circ = { s.circ with state := st, flowing := n } ∧
    (st = s.circ.state ∨ st = .flowing) := countedTest_cases _ .flowing s

theorem returnTest_cases (s : State) : ∃ n st, (returnTest s).circ = { s.circ with state := st, flowing := n } ∧
    (st = s.circ.state ∨ st = .pumpsOff) := countedTest_cases _ .pumpsOff s

/-- A no-pump period leaves an empty window, with the pumps off or flowing (R27 to R29). -/
theorem noPumpPeriod_fits (s : State) (w : Nat) : (noPumpPeriod s).circ.fits w False := by
  unfold noPumpPeriod
  dsimp only
  split
  · next hst =>
    obtain ⟨n, st, hc, hst'⟩ := returnTest_cases (clearNoPump s)
    rw [hc]
    refine Circulation.fits_of_empty rfl rfl rfl rfl ?_
    rcases hst' with rfl | rfl
    · exact congrArg CircState.evaluated hst
    · rfl
  · next hst =>
    obtain ⟨n, st, hc, hst'⟩ := flowingTest_cases (clearNoPump s)
    rw [hc]
    refine Circulation.fits_of_empty rfl rfl rfl rfl ?_
    rcases hst' with rfl | rfl
    · exact congrArg CircState.evaluated hst
    · rfl
  · obtain ⟨n, st, hc, hst'⟩ := flowingTest_cases ((clearNoPump s).onCirc fun c =>
      { c with state := .pumpsOff, pumpsOffAt := some s.mgmt.clock, flowing := 0 })
    rw [hc]
    refine Circulation.fits_of_empty rfl rfl rfl rfl ?_
    rcases hst' with rfl | rfl <;> rfl

end Sys2Proof.Machine
end

section
/-! Every step keeps the law of the window (R24, R27, R173). -/

namespace Sys2Proof.Machine

/-- What the law reads besides the monitor, carried from `s` to `t`. -/
theorem State.windowLaw_of {s t : State} (hsettings : t.settings = s.settings)
    (hrem : t.mgmt.remembered ≠ some .starting) (hmode : t.mode = .starting → s.mode = .starting)
    (hcirc : s.circ.fits s.settings.window (s.mode = .starting) →
      t.circ.fits s.settings.window (s.mode = .starting)) (h : s.windowLaw) : t.windowLaw := by
  rw [State.windowLaw_iff] at h ⊢
  obtain ⟨hwindow, hstart, -, hfit⟩ := h
  unfold State.startModeLegal at hstart ⊢
  rw [hsettings]
  exact ⟨hwindow, hstart, hrem, Circulation.fits_mono (hcirc hfit) hmode⟩

/-- An event of blocks the law does not read keeps it. -/
theorem State.windowLaw_of_keeps {l : List Block} {s t : State} (h : keepsAllBut l s t)
    (hl : ∀ b ∈ [Block.tables, .circ, .mgmt], b ∉ l) (hs : s.windowLaw) : t.windowLaw := by
  have htables : t.tables = s.tables := h .tables (hl _ (by simp))
  have hcirc : t.circ = s.circ := h .circ (hl _ (by simp))
  have hmgmt : t.mgmt = s.mgmt := h .mgmt (hl _ (by simp))
  obtain ⟨-, -, hrem, -⟩ := (State.windowLaw_iff s).mp hs
  refine State.windowLaw_of (congrArg Tables.settings htables) (hmgmt ▸ hrem) (fun hm => ?_)
    (fun hf => hcirc ▸ hf) hs
  unfold State.mode at hm ⊢
  rwa [hmgmt] at hm

/-- The monitor may move in any mode but STARTING. -/
theorem State.windowLaw_of_circ {l : List Block} {s t : State} (h : keepsAllBut l s t)
    (hl : ∀ b ∈ [Block.tables, .mgmt], b ∉ l) (hmode : s.mode ≠ .starting)
    (hcirc : s.circ.fits s.settings.window False → t.circ.fits s.settings.window False) (hs : s.windowLaw) :
    t.windowLaw := by
  have htables : t.tables = s.tables := h .tables (hl _ (by simp))
  have hmgmt : t.mgmt = s.mgmt := h .mgmt (hl _ (by simp))
  obtain ⟨-, -, hrem, hfit⟩ := (State.windowLaw_iff s).mp hs
  have hmode' : t.mode = s.mode := congrArg Management.mode hmgmt
  refine State.windowLaw_of (congrArg Tables.settings htables) (hmgmt ▸ hrem) (fun hm => hmode' ▸ hm)
    (fun hf => Circulation.fits_mono (hcirc (Circulation.fits_mono hf False.elim)) fun hm => hmode hm) hs

theorem react_windowLaw {s : State} (h : s.windowLaw) : (react s).windowLaw :=
  State.windowLaw_of_keeps (react_keeps s) (by decide) h

/-- What is set in Management, the mode and the remembered mode aside, is not read. -/
theorem onMgmt_windowLaw {f : Management → Management} {s : State} (hmode : (f s.mgmt).mode = s.mgmt.mode)
    (hrem : (f s.mgmt).remembered = s.mgmt.remembered) (h : s.windowLaw) : (s.onMgmt f).windowLaw := by
  obtain ⟨-, -, hrem', -⟩ := (State.windowLaw_iff s).mp h
  exact State.windowLaw_of (s := s) rfl (fun hr => hrem' (hrem ▸ hr)) (fun hm => hmode.symm.trans hm) id h

theorem reach_windowLaw (d : Nat) {s : State} (h : s.windowLaw) : (s.reach d).windowLaw :=
  onMgmt_windowLaw rfl rfl h

/-! ### The collection of a period -/

theorem collectStrokes_windowLaw (p : PumpId) (d : Nat) {s : State} (h : s.windowLaw) :
    (collectStrokes p d s).windowLaw := by
  unfold collectStrokes
  split
  · exact h
  · next hmode =>
    have hmode' : s.mode ≠ .starting := fun hm => hmode (.inl hm)
    have hone : ∀ f : Circulation → Circulation, (∀ c, (f c).window = c.window ∧ (f c).sumR = c.sumR ∧
        (f c).sumIn = c.sumIn ∧ (f c).sumOut = c.sumOut ∧ (f c).state = c.state) →
        (s.onCirc f).windowLaw := by
      intro f hf
      obtain ⟨hw, hr, hin, hout, hst⟩ := hf s.circ
      exact State.windowLaw_of_circ (onCirc_keeps f s) (by decide) hmode'
        (Circulation.fits_congr hw hr hin hout hst False.elim) h
    split
    · refine hone _ fun c => ?_
      split <;> exact ⟨rfl, rfl, rfl, rfl, rfl⟩
    · exact State.windowLaw_of_keeps (raise_keeps _ _ _ _) (by decide)
        (hone _ fun c => ⟨rfl, rfl, rfl, rfl, rfl⟩)

theorem collectFlow_windowLaw {s : State} (h : s.windowLaw) : (collectFlow s).windowLaw := by
  unfold collectFlow
  split
  · exact h
  · next hmode =>
    exact State.windowLaw_of_circ (onCirc_keeps _ s) (by decide) hmode
      (Circulation.fits_congr rfl rfl rfl rfl rfl False.elim) h

/-! ### Periods, clearings and changes of mode -/

theorem beginPeriod_fits {s : State} {w : Nat} (h : s.circ.fits w False) : (beginPeriod s).circ.fits w False :=
  Circulation.fits_congr (c := s.circ) rfl rfl rfl rfl rfl False.elim h

theorem workPeriod_fits {s : State} {P : Prop} (hw : 0 < s.settings.window)
    (h : s.circ.fits s.settings.window P) : (workPeriod s).circ.fits s.settings.window False := by
  have hcirc : (workPeriod s).circ = (if s.pumped then pumpedPeriod s else noPumpPeriod s).circ :=
    (handPeriodResult_keeps _ _ _ _ .circ (by decide)).trans (notifyState_keeps _ _ _ .circ (by decide))
  rw [hcirc]
  split
  · exact pumpedPeriod_fits hw h
  · exact noPumpPeriod_fits s _

theorem endPeriod_windowLaw {s : State} (hmode : s.mode ≠ .starting) (h : s.windowLaw) :
    (endPeriod s).windowLaw := by
  obtain ⟨hwindow, -, -, -⟩ := (State.windowLaw_iff s).mp h
  refine State.windowLaw_of_circ (endPeriod_keeps s) (by decide) hmode (fun hfit => ?_) h
  unfold endPeriod
  dsimp only
  have hjudge : keepsAllBut [.pumpCtl, .trunk] s
      (judgePeriod 1 s.circ.strokes2 (judgePeriod 0 s.circ.strokes1 s)) := by simp
  generalize judgePeriod 1 s.circ.strokes2 (judgePeriod 0 s.circ.strokes1 s) = s1 at hjudge ⊢
  have hcirc : s1.circ = s.circ := hjudge .circ (by decide)
  have hset : s1.settings = s.settings := congrArg Tables.settings (hjudge .tables (by decide))
  have hend : (react (endMovementPeriod (beginPeriod (workPeriod s1)))).circ =
      (beginPeriod (workPeriod s1)).circ :=
    (react_keeps _ .circ (by decide)).trans (endMovementPeriod_keeps _ .circ (by decide))
  rw [hend]
  refine beginPeriod_fits ?_
  rw [← hset] at hfit hwindow ⊢
  exact workPeriod_fits (by omega) (hcirc ▸ hfit)

theorem stateAfterLoad_state (s : State) :
    (stateAfterLoad s).circ.state = if s.anyRunning then .filling else .pumpsOff := rfl

/-- A clearing by a load leaves an empty window that fits every length (R26). -/
theorem clearByLoad_fits (dropMean : Bool) (s : State) (w : Nat) :
    (clearByLoad dropMean s).circ.fits w False := by
  have hcirc : (clearByLoad dropMean s).circ = (stateAfterLoad (restartMovementPeriod (beginPeriod
      (s.onCirc fun c => { c.cleared with heldMean := if dropMean then none else c.heldMean })))).circ :=
    notifyState_keeps _ _ _ .circ (by decide)
  rw [hcirc]
  refine Circulation.fits_of_empty rfl rfl rfl rfl ?_
  rw [stateAfterLoad_state]
  generalize State.anyRunning _ = running
  cases running <;> rfl

/-- A load that clears the window keeps the law in any mode but STARTING, whatever the new length. -/
theorem clearByLoad_windowLaw (dropMean : Bool) {s : State} (hmode : s.mode ≠ .starting)
    (hwindow : 4 ≤ s.settings.window) (hstart : s.startModeLegal)
    (hrem : s.mgmt.remembered ≠ some .starting) : (clearByLoad dropMean s).windowLaw := by
  have htables : (clearByLoad dropMean s).tables = s.tables := clearByLoad_keeps dropMean s .tables (by decide)
  have hmgmt : (clearByLoad dropMean s).mgmt = s.mgmt := clearByLoad_keeps dropMean s .mgmt (by decide)
  rw [State.windowLaw_iff]
  unfold State.startModeLegal State.settings State.mode at *
  rw [htables, hmgmt]
  exact ⟨hwindow, hstart, hrem, Circulation.fits_mono (clearByLoad_fits dropMean s _) fun h => hmode h⟩

theorem wake_windowLaw (cause : WakeCause) {s : State} (h : s.windowLaw) : (wake cause s).windowLaw := by
  unfold wake
  split
  · next hstandby =>
    obtain ⟨-, -, hrem, -⟩ := (State.windowLaw_iff s).mp h
    refine State.windowLaw_of_keeps (l := [.pumpCtl, .trunk]) (s := s.onMgmt fun g =>
      { g with mode := s.mgmt.remembered.getD .monitor, remembered := none }) (by simp) (by decide) ?_
    refine State.windowLaw_of (s := s) rfl nofun (fun hm => ?_) id h
    have hget : s.mgmt.remembered.getD .monitor = .starting := hm
    cases hr : s.mgmt.remembered with
    | none => rw [hr] at hget; cases hget
    | some m =>
      rw [hr] at hget
      exact absurd (hr.trans (congrArg some hget)) hrem
  · exact h

theorem changeMode_windowLaw {m : Mode} (hm : m ≠ .starting) {s : State} (h : s.windowLaw) :
    (changeMode m s).windowLaw := by
  have hset : (setModeTo m s).windowLaw := by
    obtain ⟨-, -, hrem, -⟩ := (State.windowLaw_iff s).mp h
    exact State.windowLaw_of (s := s) rfl hrem (fun he => absurd he hm) id h
  unfold changeMode
  split
  · exact h
  · split
    · exact State.windowLaw_of_keeps (enterSupervised_keeps _) (by decide) hset
    · exact State.windowLaw_of_keeps (enterMonitor_keeps _) (by decide) hset

theorem goStandby_windowLaw {s : State} (hmode : s.mode ≠ .starting) (h : s.windowLaw) :
    (goStandby s).windowLaw := by
  refine State.windowLaw_of_keeps (enterStandby_keeps _) (by decide) ?_
  exact State.windowLaw_of (s := s) rfl (fun he => hmode (Option.some.inj he)) nofun id h

theorem endStarting_windowLaw {s : State} (h : s.windowLaw) : (endStarting s).windowLaw := by
  obtain ⟨hwindow, hstart, hrem, hfit⟩ := (State.windowLaw_iff s).mp h
  have hne : s.settings.startMode ≠ .starting := by
    rcases hstart with hm | hm <;> rw [hm] <;> decide
  unfold endStarting
  dsimp only
  generalize hs2 : ((beginPeriod (s.onMgmt fun m =>
    { m with mode := s.settings.startMode, holdDue := none, holdExpired := false })).onCirc fun c =>
      { c with pumpsOffAt := some s.mgmt.clock }) = s2
  have hlaw2 : s2.windowLaw := by
    rw [← hs2]
    refine (State.windowLaw_iff _).mpr ⟨hwindow, hstart, hrem, ?_⟩
    exact Circulation.fits_congr (c := s.circ) rfl rfl rfl rfl rfl (fun hm => absurd hm hne)
      (Circulation.fits_mono hfit fun hm => absurd hm hne)
  have hentered : (if s.settings.startMode = .supervised then enterSupervised s2 else s2).windowLaw := by
    split
    · exact State.windowLaw_of_keeps (enterSupervised_keeps _) (by decide) hlaw2
    · exact hlaw2
  generalize (if s.settings.startMode = .supervised then enterSupervised s2 else s2) = s3 at hentered
  refine State.windowLaw_of_keeps (raise_keeps _ _ _ _) (by decide) (react_windowLaw ?_)
  split
  · exact State.windowLaw_of_keeps (l := [.depth, .recorder]) (by simp) (by decide) hentered
  · exact State.windowLaw_of_keeps (startMovementPeriod_keeps _) (by decide) hentered

theorem checkStarting_windowLaw {s : State} (h : s.windowLaw) : (checkStarting s).windowLaw := by
  unfold checkStarting
  split
  · exact endStarting_windowLaw h
  · exact h

/-! ### Inputs and frames -/

theorem condition_windowLaw (f : Frame) {s : State} (h : s.windowLaw) : (condition f s).windowLaw := by
  have hquiet : ∀ {t u : State}, keepsAllBut [.inputs] t u → t.windowLaw → u.windowLaw := fun hk =>
    State.windowLaw_of_keeps hk (by decide)
  unfold condition
  split
  · exact h
  · next i _ =>
    split
    · next x _ =>
      unfold accept
      split
      · next p _ =>
        have htaken := hquiet (keepsAllBut_trans (onInput_keeps (strokeInput p)
          (fun u => { u with lastRaw := some (x.toNat : Int), lastCount := some x.toNat }) s)
          (freshen_keeps (strokeInput p) _)) h
        unfold acceptStrokes
        dsimp only
        split
        · exact htaken
        · next last _ =>
          have hcollected := collectStrokes_windowLaw p (strokeDelta x.toNat last) htaken
          refine react_windowLaw ?_
          split
          · unfold startRunning
            dsimp only
            split
            · exact hquiet (onInput_keeps _ _ _) hcollected
            · exact wake_windowLaw _ (hquiet (onInput_keeps _ _ _) hcollected)
          · exact hcollected
      · split
        · exact State.windowLaw_of_keeps (acceptHead_keeps x s) (by decide) h
        · have htaken := hquiet (keepsAllBut_trans (takeValue_keeps i x s) (freshen_keeps i _)) h
          unfold acceptValue deliver
          repeat' split
          · exact State.windowLaw_of_keeps (l := [.depth, .recorder, .banks, .billing, .trunk]) (by simp)
              (by decide) htaken
          · refine react_windowLaw ?_
            unfold wakeByRotation
            split
            · exact wake_windowLaw _ htaken
            · exact htaken
          · exact State.windowLaw_of_keeps (onPressure_keeps _ _) (by decide) htaken
          · exact collectFlow_windowLaw htaken
          · exact State.windowLaw_of_keeps (l := [.depth, .recorder, .banks, .billing, .trunk]) (by simp)
              (by decide) htaken
          · exact htaken
    · exact hquiet (countRefused_keeps i s) h

theorem fieldArrival_windowLaw (f : Frame) {s : State} (h : s.windowLaw) :
    (fieldArrival f s).windowLaw := by
  have hcond := condition_windowLaw f (State.windowLaw_of_keeps (offerCab_keeps f s) (by decide) h)
  unfold fieldArrival
  refine checkStarting_windowLaw ?_
  split
  · exact State.windowLaw_of_keeps (handlerReport_keeps _ _) (by decide) hcond
  · exact hcond

/-! ### Requests (R26, R167, R169, R171) -/

theorem Settings.inRange_window (r : Settings) : 4 ≤ r.inRange.window := by
  simp [Settings.inRange, clampN]

theorem storeSettings_windowLaw {r : Settings} {s : State} (hmode : s.mode ≠ .starting)
    (hwindow : 4 ≤ r.window) (hstart : r.startMode = .monitor ∨ r.startMode = .supervised)
    (h : s.windowLaw) : (storeSettings r s).windowLaw := by
  obtain ⟨-, -, hrem, hfit⟩ := (State.windowLaw_iff s).mp h
  unfold storeSettings
  dsimp only
  split
  · next hsame =>
    refine (State.windowLaw_iff _).mpr ⟨hwindow, hstart, hrem, ?_⟩
    have hw : (s.onTables fun t => { t with settings := r }).settings.window = s.settings.window := hsame.2
    rw [hw]
    exact hfit
  · exact react_windowLaw (clearByLoad_windowLaw false hmode hwindow hstart hrem)

/-- A load that clears the window over the settings in force. -/
theorem clearByLoad_windowLaw_of_keeps {l : List Block} {s t : State} (dropMean : Bool)
    (h : keepsAllBut l s t) (hl : Block.mgmt ∉ l) (hset : t.settings = s.settings)
    (hmode : s.mode ≠ .starting) (hs : s.windowLaw) : (clearByLoad dropMean t).windowLaw := by
  obtain ⟨hwindow, hstart, hrem, -⟩ := (State.windowLaw_iff s).mp hs
  have hmgmt : t.mgmt = s.mgmt := h .mgmt hl
  refine clearByLoad_windowLaw dropMean ?_ (hset ▸ hwindow) ?_ (hmgmt ▸ hrem)
  · exact fun hm => hmode ((congrArg Management.mode hmgmt).symm.trans hm)
  · unfold State.startModeLegal at hstart ⊢
    rwa [hset]

theorem RequestEffect.windowLaw {s w : State} {code : Nat} (h : RequestEffect s code w)
    (hmode : s.mode ≠ .starting) (hs : s.windowLaw) : w.windowLaw := by
  obtain ⟨hwindow, hstart, hrem, hfit⟩ := (State.windowLaw_iff s).mp hs
  have hset : ∀ f : Tables → Tables, (f s.tables).settings = s.tables.settings →
      (s.onTables f).windowLaw := fun f hf => State.windowLaw_of (s := s) hf hrem id id hs
  cases h with
  | loadSettings f mode hf =>
    refine storeSettings_windowLaw hmode (Settings.inRange_window _) ?_ hs
    unfold startModeOf at hf
    split at hf
    · exact .inl (Option.some.inj hf).symm
    · exact .inr (Option.some.inj hf).symm
    · cases hf
  | loadChannel i f hfits =>
    unfold storeChannel
    refine react_windowLaw ?_
    have hstored := State.windowLaw_of_keeps (onInput_keeps i (fun _ => Input.afterLoad) _) (by decide)
      (hset (fun t => { t with channels := t.channels.set i ((channelLoaded f).inRange i) }) rfl)
    split
    · exact clearByLoad_windowLaw_of_keeps (l := []) _ (keepsAllBut_refl _ _) (by decide) rfl hmode hstored
    · exact hstored
  | loadPump p f hfits =>
    refine react_windowLaw (clearByLoad_windowLaw_of_keeps (l := [.tables, .pumpCtl, .trunk]) _
      (by simp) (by decide) ?_ hmode hs)
    have htables := onPumpRow_keeps p (s.pumpRow p).node
      (s.onTables fun t => { t with pumps := t.pumps.set p (pumpLoaded f).inRange }) .tables (by decide)
    exact (congrArg Tables.settings htables).trans rfl
  | loadLimits f hfits =>
    unfold storeLimits
    refine react_windowLaw ?_
    have hstored := hset (fun t => { t with limits := (limitsLoaded f).inRange }) rfl
    split
    · exact hstored
    · exact State.windowLaw_of_keeps (clearCommand_keeps _) (by decide) hstored
  | loadThresholds row f => exact hset _ rfl
  | loadClass row f => exact hset _ rfl
  | loadTariff row f r changed hjob hstored hspan hfree => exact hset _ rfl
  | clearTables hjob =>
    have htables : (storeDefaults s).settings = Tables.default.settings :=
      congrArg Tables.settings ((onPumpRow_keeps 1 _ _ .tables (by decide)).trans
        (onPumpRow_keeps 0 _ _ .tables (by decide)))
    have hmgmt : (storeDefaults s).mgmt = s.mgmt := storeDefaults_keeps s .mgmt (by decide)
    refine react_windowLaw (clearByLoad_windowLaw true ?_ ?_ ?_ (hmgmt ▸ hrem))
    · exact fun hm => hmode ((congrArg Management.mode hmgmt).symm.trans hm)
    · rw [htables]; decide
    · unfold State.startModeLegal; rw [htables]; exact .inl rfl
  | standby hstandby => exact react_windowLaw (goStandby_windowLaw hmode hs)
  | setMode m hm hne =>
    refine react_windowLaw (changeMode_windowLaw ?_ (wake_windowLaw _ hs))
    rcases hm with rfl | rfl <;> decide
  | setTime t => exact onMgmt_windowLaw rfl rfl hs
  | restart => exact onMgmt_windowLaw rfl rfl hs
  | _ =>
    exact State.windowLaw_of_keeps
      (l := [.inputs, .pumpCtl, .tracker, .depth, .recorder, .banks, .billing, .trunk])
      (by simp [openJob]) (by decide) hs

theorem cabArrival_windowLaw (f : Frame) {s : State} (h : s.windowLaw) : (cabArrival f s).windowLaw := by
  unfold cabArrival setpointArrival
  split
  · split
    · rcases serveFrame_cases f s with he | ⟨w, r, he, rfl | rfl | ⟨hmode, heffect⟩⟩ <;> rw [he]
      · exact h
      · exact h
      · exact h
      · exact heffect.windowLaw hmode h
    · exact h
  · split
    · split
      · exact State.windowLaw_of_keeps (pumpSetpointFrame_keeps _ f s) (by decide) h
      · split
        · exact State.windowLaw_of_keeps (handlerFrame_keeps f s) (by decide) h
        · exact h
    · exact h

/-! ### All events -/

/-- In STARTING the window is empty, so the default Settings fit it (log 16). -/
theorem restoreTables_windowLaw {s : State} (hmode : s.mode = .starting) (h : s.windowLaw) :
    (restoreTables s).windowLaw := by
  obtain ⟨-, -, hrem, hfit⟩ := (State.windowLaw_iff s).mp h
  obtain ⟨-, hr, hin, hout, -, -, hrest⟩ := hfit
  obtain ⟨hdue, hwindow, hstate⟩ := hrest hmode
  have hset : (restoreTables s).settings = Tables.default.settings :=
    congrArg Tables.settings ((onPumpRow_keeps 1 _ _ .tables (by decide)).trans
      (onPumpRow_keeps 0 _ _ .tables (by decide)))
  have hmgmt : (restoreTables s).mgmt = s.mgmt := storeDefaults_keeps s .mgmt (by decide)
  have hcirc : (restoreTables s).circ = s.circ := storeDefaults_keeps s .circ (by decide)
  rw [hwindow] at hr hin hout
  obtain ⟨hlength, -, -, -, heval, hoff, -⟩ :=
    Circulation.fits_of_empty (w := Tables.default.settings.window) hwindow hr hin hout (by rw [hstate]; rfl)
  rw [State.windowLaw_iff]
  unfold State.startModeLegal
  rw [hset, hmgmt, hcirc]
  refine ⟨by decide, .inl rfl, hrem, hlength, ?_, ?_, ?_, heval, hoff, fun _ => ⟨hdue, hwindow, hstate⟩⟩
  all_goals rw [hwindow]; assumption

theorem completeChecks_windowLaw (failed : FailedAreas) {s : State} (h : s.windowLaw) :
    (completeChecks failed s).windowLaw := by
  have hif : ∀ (b : Bool) (f : State → State) (t : State), (t.windowLaw → (f t).windowLaw) → t.windowLaw →
      (if b then f t else t).windowLaw := by
    intro b f t hf ht
    cases b
    · exact ht
    · exact hf ht
  unfold completeChecks
  split
  · next hstarting =>
    refine checkStarting_windowLaw (onMgmt_windowLaw rfl rfl ?_)
    have htables := hif (lostAreas failed s).tables restoreTables s (restoreTables_windowLaw hstarting.1) h
    have hstring := hif (lostAreas failed s).string restoreString _ (State.windowLaw_of_keeps
      (l := [.tracker, .pumpCtl, .depth, .recorder, .banks, .billing, .trunk])
        (by simp [restoreString]) (by decide)) htables
    have hdepth := hif (lostAreas failed s).depth restoreDepth _ (State.windowLaw_of_keeps
      (l := [.depth]) (by simp [restoreDepth]) (by decide)) hstring
    exact hif (lostAreas failed s).job restoreJob _ (fun ht => ht) hdepth
  · exact h

/-- What a second tick does beside site time (R42, R70, R99, R136). -/
theorem secondTickWork_keeps_ticked (s : State) :
    keepsAllBut [.pumpCtl, .tracker, .recorder, .banks, .billing, .trunk] ((s.reach s.mgmt.secondDue).onMgmt
      fun m => { m with siteTime := m.siteTime + 1, secondDue := m.secondDue + 1000 }) (secondTickWork s) := by
  unfold secondTickWork
  dsimp only
  generalize ((s.reach s.mgmt.secondDue).onMgmt fun m =>
    { m with siteTime := m.siteTime + 1, secondDue := m.secondDue + 1000 }) = t
  have hramps := eachPump_keeps rampPump_keeps t
  simp only [keepsAllBut_meterSecond, keepsAllBut_drillingSecond, keepsAllBut_rotatingSecond,
    List.cons_subset, List.nil_subset, List.mem_cons, true_or, or_true, and_true, reduceCtorEq, false_or]
  exact keepsAllBut_mono hramps (by simp)

theorem Works.windowLaw {c : Instr} {s w : State} (h : Works s c w) (hs : s.windowLaw) : w.windowLaw := by
  have hreset : ∀ cause, (s.afterReset cause).windowLaw := by
    intro cause
    obtain ⟨hwindow, hstart, -, -⟩ := (State.windowLaw_iff s).mp hs
    exact (State.windowLaw_iff _).mpr ⟨hwindow, hstart, nofun, Nat.zero_le _, rfl, rfl, rfl, nofun,
      fun _ => rfl, fun _ => ⟨rfl, rfl, rfl⟩⟩
  cases h with
  | fieldFrame _ f => exact fieldArrival_windowLaw f hs
  | cabFrame _ f => exact cabArrival_windowLaw f hs
  | cabSent =>
    unfold endCabSend
    split
    · exact hreset _
    · exact hs
  | fieldSent => exact hs
  | secondTick =>
    exact State.windowLaw_of_keeps (secondTickWork_keeps_ticked s) (by decide) (onMgmt_windowLaw rfl rfl hs)
  | staleExpiry _ i due =>
    exact State.windowLaw_of_keeps (goStale_keeps i _) (by decide) (reach_windowLaw due hs)
  | runningExpiry _ p due =>
    exact State.windowLaw_of_keeps (stopRunning_keeps p _) (by decide) (reach_windowLaw due hs)
  | periodExpiry _ due hdue =>
    refine endPeriod_windowLaw (fun hmode => ?_) (reach_windowLaw due hs)
    obtain ⟨-, -, -, -, -, -, -, -, -, hrest⟩ := (State.windowLaw_iff s).mp hs
    rw [(hrest hmode).1] at hdue
    cases hdue
  | handlerExpiry _ due =>
    exact State.windowLaw_of_keeps (expireHandler_keeps _) (by decide) (reach_windowLaw due hs)
  | settleExpiry _ due =>
    exact State.windowLaw_of_keeps (takeActivity_keeps _ _) (by decide) (reach_windowLaw due hs)
  | holdExpiry _ due => exact checkStarting_windowLaw (onMgmt_windowLaw rfl rfl (reach_windowLaw due hs))
  | checks failed => exact completeChecks_windowLaw failed hs
  | endOfStarting => exact checkStarting_windowLaw hs
  | reset _ cause => exact hreset cause
  | _ => exact State.windowLaw_of_keeps (l := [.banks, .billing, .trunk]) (by simp) (by decide) hs

/-- Settles O48: the events that move the window keep its sums and length in step with the state. -/
theorem everyStepKeepsTheWindowLaw : Obligations.EveryStepKeepsTheWindowLaw :=
  fun _ _ hlaw hstep => step_keeps (P := State.windowLaw) (fun _ _ h => h)
    (fun _ h => onMgmt_windowLaw rfl rfl h)
    (fun _ h => State.windowLaw_of_keeps (transmit_keeps _) (by decide) h)
    (fun _ _ _ hw => hw.windowLaw) hstep hlaw

end Sys2Proof.Machine
end

section
/-! What the depth unit's tests leave alone in the unit, and that every step keeps the law of the head height
and the string length (R56, R80). -/

namespace Sys2Proof.Machine

/-! ### The depth unit's tests (R86, R87, R91) -/

theorem takeActivity_depth (a : Activity) (s : State) :
    (takeActivity a s).depth = { s.depth with taken := a, settleDue := none } := by
  unfold takeActivity
  dsimp only
  split <;> rfl

theorem onIndicated_depth (old new : Activity) (s : State) : ∃ a due,
    (onIndicated old new s).depth = { s.depth with taken := a, settleDue := due } := by
  unfold onIndicated
  split
  · exact ⟨new, none, takeActivity_depth new s⟩
  · split
    · exact ⟨_, _, rfl⟩
    · exact ⟨_, _, rfl⟩

theorem reindicate_depth (s : State) : ∃ i a due,
    (reindicate s).depth = { s.depth with indicated := i, taken := a, settleDue := due } := by
  unfold reindicate
  split
  · exact ⟨_, _, _, rfl⟩
  · obtain ⟨a, due, h⟩ := onIndicated_depth s.depth.indicated s.activityNow
      (s.onDepth fun d => { d with indicated := s.activityNow })
    exact ⟨s.activityNow, a, due, h⟩

theorem advanceHole_depth (s : State) : (advanceHole s).depth =
    { s.depth with hole := if s.mode ≠ .starting ∧ s.onBottom = true ∧ s.depth.hole < s.depth.bit then
      s.depth.bit else s.depth.hole } := by
  unfold advanceHole
  split
  · rw [onHoleAdvance_depth]
    rfl
  · rfl

/-- The tests move the hole depth and the activities, and nothing else of the unit. -/
theorem react_depth (s : State) : ∃ i a due, (react s).depth = { (advanceHole s).depth with
    indicated := i, taken := a, settleDue := due } := reindicate_depth (advanceHole s)

theorem react_head (s : State) : (react s).depth.head = s.depth.head := by
  obtain ⟨i, a, due, h⟩ := react_depth s
  rw [h, advanceHole_depth]

/-! ### Head height and string length (R56, R80) -/

/-- What the law reads is the same in two states. -/
theorem State.depthLaw_of {s t : State} (hhead : t.depth.head = s.depth.head)
    (hlength : t.depth.stringLength = s.depth.stringLength) (hstack : t.tracker.stack = s.tracker.stack)
    (h : s.depthLaw) : t.depthLaw := by
  unfold State.depthLaw Tracker.length at h ⊢
  rw [hhead, hlength, hstack]
  exact h

/-- An event of blocks the law does not read keeps it. -/
theorem State.depthLaw_of_keeps {l : List Block} {s t : State} (h : keepsAllBut l s t)
    (hl : ∀ b ∈ [Block.tracker, .depth], b ∉ l) (hs : s.depthLaw) : t.depthLaw := by
  have htracker : t.tracker = s.tracker := h .tracker (hl _ (by simp))
  have hdepth : t.depth = s.depth := h .depth (hl _ (by simp))
  exact State.depthLaw_of (by rw [hdepth]) (by rw [hdepth]) (by rw [htracker]) hs

theorem react_depthLaw {s : State} (h : s.depthLaw) : (react s).depthLaw :=
  State.depthLaw_of (react_head s) (react_stringLength s)
    (congrArg Tracker.stack (react_keeps s .tracker (by decide))) h

theorem takeActivity_depthLaw (a : Activity) {s : State} (h : s.depthLaw) : (takeActivity a s).depthLaw :=
  State.depthLaw_of (by rw [takeActivity_depth]) (by rw [takeActivity_depth])
    (congrArg Tracker.stack (takeActivity_keeps a s .tracker (by decide))) h

/-- The unit's own update that leaves both heights keeps the law. -/
theorem onDepth_depthLaw {f : Depth → Depth} {s : State} (hhead : (f s.depth).head = s.depth.head)
    (hlength : (f s.depth).stringLength = s.depth.stringLength) (h : s.depthLaw) : (s.onDepth f).depthLaw :=
  State.depthLaw_of hhead hlength rfl h

theorem setAnchorUncertain_depthLaw {s : State} (h : s.depthLaw) : (setAnchorUncertain s).depthLaw :=
  State.depthLaw_of_keeps (s := s.onDepth fun d => { d with anchorUncertain := true })
    (handUncertain_keeps _ _) (by decide) (onDepth_depthLaw rfl rfl h)

theorem handLength_head (s : State) : (handLength s).depth.head = s.depth.head := by
  unfold handLength
  split
  · rfl
  · rw [react_head]
    split
    · rw [setAnchorUncertain_depth]
      rfl
    · rfl

/-- Whatever the string has become, its length is handed on. -/
theorem handLength_depthLaw (f : Tracker → Tracker) {s : State} (h : s.depthLaw) :
    (handLength (s.onTracker f)).depthLaw := by
  obtain ⟨hlow, hhigh, -⟩ := h
  unfold State.depthLaw
  rw [handLength_head, handLength_stringLength, handLength_tracker]
  exact ⟨hlow, hhigh, rfl⟩

theorem handMove_depthLaw (old : Conn) (f : Tracker → Tracker) {s : State} (h : s.depthLaw) :
    (handMove old (s.onTracker f)).depthLaw :=
  State.depthLaw_of_keeps (handConn_keeps old _) (by decide) (handLength_depthLaw f h)

/-! ### The events of the encoder, the slips and the hookload -/

theorem clampZ_bounds {lo hi : Int} (h : lo ≤ hi) (x : Int) : lo ≤ clampZ lo hi x ∧ clampZ lo hi x ≤ hi := by
  unfold clampZ
  omega

theorem onHeadReport_depthLaw (n : Int) {s : State} (h : s.depthLaw) : (onHeadReport n s).depthLaw := by
  unfold onHeadReport
  dsimp only
  split
  · obtain ⟨-, -, hlength⟩ := h
    obtain ⟨hlow, hhigh⟩ := clampZ_bounds (lo := 0) (hi := Config.maxHeadHeight) (by decide)
      (s.depth.head + (countDifference n s.depth.lastCount * 1000 + s.depth.residue).fdiv
        (s.channel inHeadPos).aux)
    exact ⟨hlow, hhigh, hlength⟩
  · unfold rejectReport setEncoderUncertain
    exact State.depthLaw_of_keeps (l := [.recorder, .trunk])
      (s := (s.onDepth fun d => { d with lastCount := n, firstReport := false }).onDepth fun d =>
        { d with encoderUncertain := true })
      (by simp) (by decide) (onDepth_depthLaw rfl rfl (onDepth_depthLaw rfl rfl h))

theorem onSlips_depthLaw (readsOne : Bool) {s : State} (h : s.depthLaw) : (onSlips readsOne s).depthLaw := by
  unfold onSlips
  split
  · dsimp only
    split
    · exact setAnchorUncertain_depthLaw (onDepth_depthLaw rfl rfl (onDepth_depthLaw rfl rfl h))
    · exact onDepth_depthLaw rfl rfl h
  · split
    · exact onDepth_depthLaw rfl rfl h
    · exact onDepth_depthLaw rfl rfl h
    · exact h

theorem onHookload_depthLaw {s : State} (h : s.depthLaw) : (onHookload s).depthLaw := by
  unfold onHookload
  split
  · exact onDepth_depthLaw rfl rfl h
  · exact h

theorem condition_depthLaw (f : Frame) {s : State} (h : s.depthLaw) : (condition f s).depthLaw := by
  have hquiet : ∀ {t u : State}, keepsAllBut [.inputs, .circ, .pumpCtl, .trunk, .mgmt] t u →
      t.depthLaw → u.depthLaw := fun hk => State.depthLaw_of_keeps hk (by decide)
  unfold condition
  split
  · exact h
  · next i _ =>
    split
    · next x _ =>
      unfold accept
      split
      · unfold acceptStrokes
        dsimp only
        split
        · exact hquiet (by simp) h
        · refine react_depthLaw ?_
          split <;> exact hquiet (by simp) h
      · split
        · unfold acceptHead
          refine react_depthLaw ?_
          split
          · exact onDepth_depthLaw rfl rfl (hquiet (by simp) h)
          · exact onHeadReport_depthLaw x (hquiet (by simp) h)
        · have htaken : (freshen i (takeValue i x s)).depthLaw := hquiet (by simp) h
          unfold acceptValue deliver
          repeat' split
          · exact react_depthLaw (onHookload_depthLaw htaken)
          · exact react_depthLaw (hquiet (by simp) htaken)
          · exact hquiet (by simp) htaken
          · exact hquiet (by simp) htaken
          · exact react_depthLaw (onSlips_depthLaw _ htaken)
          · exact htaken
    · exact hquiet (by simp) h

/-! ### Handler reports, clearings and the end of STARTING -/

theorem setTallyUncertain_depthLaw {s : State} (h : s.depthLaw) : (setTallyUncertain s).depthLaw :=
  State.depthLaw_of_keeps (s := s.onTracker fun t => { t with tallyUncertain := true })
    (handUncertain_keeps _ _) (by decide) (State.depthLaw_of rfl rfl rfl h)

theorem mismatch_depthLaw (code : HandlerCode) (cause : Nat) {s : State} (h : s.depthLaw) :
    (mismatch code cause s).depthLaw := by
  have hdepth : (mismatch code cause s).depth = s.depth := mismatch_keeps code cause s .depth (by decide)
  have htally : (setTallyUncertain s).depth = s.depth := setTallyUncertain_keeps s .depth (by decide)
  refine State.depthLaw_of (s := setTallyUncertain s) (by rw [hdepth, htally]) (by rw [hdepth, htally]) ?_
    (setTallyUncertain_depthLaw h)
  rw [mismatch_tracker]

theorem handlerReport_depthLaw (payload : List Byte) {s : State} (h : s.depthLaw) :
    (handlerReport payload s).depthLaw := by
  have hclear : (clearCommand s).depthLaw := State.depthLaw_of rfl rfl rfl h
  unfold handlerReport
  split
  · exact State.depthLaw_of rfl rfl rfl h
  · split
    · split
      · exact setTallyUncertain_depthLaw h
      · exact h
    · split
      · unfold okReport completeCommand
        split
        · dsimp only
          split
          · exact handMove_depthLaw _ _ hclear
          · exact mismatch_depthLaw _ _ hclear
        · exact mismatch_depthLaw _ _ h
      · unfold failedReport
        split
        · exact State.depthLaw_of rfl rfl rfl h
        · exact h

theorem clearByLoad_depthLaw (dropMean : Bool) {s : State} (h : s.depthLaw) :
    (clearByLoad dropMean s).depthLaw := by
  have hbegun : (beginPeriod (s.onCirc fun c =>
      { c.cleared with heldMean := if dropMean then none else c.heldMean })).depthLaw := h
  unfold clearByLoad
  dsimp only
  generalize beginPeriod _ = s1 at hbegun ⊢
  exact State.depthLaw_of_keeps (l := [.circ, .trunk]) (s := restartMovementPeriod s1) (by simp) (by decide)
    (onDepth_depthLaw rfl rfl hbegun)

theorem checkStarting_depthLaw {s : State} (h : s.depthLaw) : (checkStarting s).depthLaw := by
  unfold checkStarting
  split
  · unfold endStarting
    dsimp only
    refine State.depthLaw_of_keeps (raise_keeps _ _ _ _) (by decide) (react_depthLaw ?_)
    generalize hs2 : ((beginPeriod (s.onMgmt fun m =>
      { m with mode := s.settings.startMode, holdDue := none, holdExpired := false })).onCirc fun c =>
        { c with pumpsOffAt := some s.mgmt.clock }) = s2
    have hlaw2 : s2.depthLaw := hs2 ▸ h
    have hentered : (if s.settings.startMode = .supervised then enterSupervised s2 else s2).depthLaw := by
      split
      · exact State.depthLaw_of_keeps (enterSupervised_keeps _) (by decide) hlaw2
      · exact hlaw2
    generalize (if s.settings.startMode = .supervised then enterSupervised s2 else s2) = s3 at hentered
    have hstart : (startMovementPeriod s3).depthLaw := onDepth_depthLaw rfl rfl hentered
    split
    · exact State.depthLaw_of_keeps (markDepthUncertain_keeps _) (by decide) hstart
    · exact hstart
  · exact h

/-! ### Requests and all events -/

theorem RequestEffect.depthLaw {s w : State} {code : Nat} (h : RequestEffect s code w) (hs : s.depthLaw) :
    w.depthLaw := by
  cases h with
  | loadSettings f mode hmode =>
    unfold storeSettings
    dsimp only
    split
    · exact State.depthLaw_of rfl rfl rfl hs
    · exact react_depthLaw (clearByLoad_depthLaw _ (State.depthLaw_of rfl rfl rfl hs))
  | loadChannel i f hfits =>
    unfold storeChannel
    refine react_depthLaw ?_
    split
    · exact clearByLoad_depthLaw _ (State.depthLaw_of rfl rfl rfl hs)
    · exact State.depthLaw_of rfl rfl rfl hs
  | loadPump p f hfits =>
    exact react_depthLaw (clearByLoad_depthLaw _
      (State.depthLaw_of_keeps (l := [.tables, .pumpCtl, .trunk]) (by simp) (by decide) hs))
  | loadLimits f hfits =>
    unfold storeLimits
    refine react_depthLaw ?_
    split
    · exact State.depthLaw_of rfl rfl rfl hs
    · exact State.depthLaw_of rfl rfl rfl hs
  | clearTables hjob =>
    refine react_depthLaw (clearByLoad_depthLaw _ (State.depthLaw_of_keeps (l := [.pumpCtl, .trunk])
      (s := clearCommand { s with tables := .default, inputs := Vector.replicate 13 .afterLoad })
      (by simp [storeDefaults]) (by decide) (State.depthLaw_of rfl rfl rfl hs)))
  | standby hmode =>
    exact react_depthLaw (State.depthLaw_of_keeps (goStandby_keeps s) (by decide) hs)
  | setMode m hm hmode =>
    exact react_depthLaw (State.depthLaw_of_keeps (l := [.pumpCtl, .trunk, .mgmt]) (by simp) (by decide) hs)
  | rackPut slot serial length hfits hempty hserial => exact State.depthLaw_of rfl rfl rfl hs
  | rackTake slot => exact State.depthLaw_of rfl rfl rfl hs
  | bhaAdd serial length hfits hrod hroom hserial => exact handLength_depthLaw _ hs
  | bhaRemove => exact handLength_depthLaw _ hs
  | holdToSlot slot rod hheld hempty =>
    exact State.depthLaw_of_keeps (handConn_keeps _ _) (by decide) (State.depthLaw_of rfl rfl rfl hs)
  | tallyConfirm => exact State.depthLaw_of rfl rfl rfl hs
  | depthCorrect new hbottom hext =>
    exact State.depthLaw_of_keeps (onCorrection_keeps _ _ _) (by decide) (onDepth_depthLaw rfl rfl hs)
  | _ =>
    exact State.depthLaw_of_keeps (l := [.tables, .pumpCtl, .recorder, .banks, .billing, .trunk, .mgmt])
      (by simp [openJob]) (by decide) hs

theorem cabArrival_depthLaw (f : Frame) {s : State} (h : s.depthLaw) : (cabArrival f s).depthLaw := by
  unfold cabArrival setpointArrival
  split
  · split
    · rcases serveFrame_cases f s with he | ⟨w, r, he, rfl | rfl | ⟨-, heffect⟩⟩ <;> rw [he]
      · exact h
      · exact h
      · exact h
      · exact heffect.depthLaw h
    · exact h
  · split
    · split
      · exact State.depthLaw_of_keeps (pumpSetpointFrame_keeps _ f s) (by decide) h
      · split
        · unfold handlerFrame judgedCommand
          repeat' split
          all_goals exact State.depthLaw_of rfl rfl rfl h
        · exact h
    · exact h

theorem completeChecks_depthLaw (failed : FailedAreas) {s : State} (h : s.depthLaw) :
    (completeChecks failed s).depthLaw := by
  have hif : ∀ (b : Bool) (f : State → State), (∀ t : State, t.depthLaw → (f t).depthLaw) → ∀ t : State,
      t.depthLaw → (if b then f t else t).depthLaw := by
    intro b f hf t ht
    cases b
    · exact ht
    · exact hf t ht
  have htables : ∀ t : State, t.depthLaw → (restoreTables t).depthLaw := fun t ht =>
    State.depthLaw_of_keeps (l := [.pumpCtl, .trunk])
      (s := clearCommand { t with tables := .default, inputs := Vector.replicate 13 .afterLoad })
      (by simp [restoreTables, storeDefaults]) (by decide) (State.depthLaw_of rfl rfl rfl ht)
  have hdepth : ∀ t : State, t.depthLaw → (restoreDepth t).depthLaw := fun t ht =>
    ⟨le_refl 0, Int.natCast_nonneg _, ht.2.2⟩
  unfold completeChecks
  split
  · refine checkStarting_depthLaw (s := (restoreAreas (lostAreas failed s) s).onMgmt _) ?_
    exact hif _ restoreJob (fun _ ht => ht) _ (hif _ restoreDepth hdepth _ (hif _ restoreString
      (fun _ ht => handMove_depthLaw _ _ ht) _ (hif _ restoreTables htables _ h)))
  · exact h

theorem secondTickWork_depthLaw {s : State} (h : s.depthLaw) : (secondTickWork s).depthLaw := by
  have hdepth : (secondTickWork s).depth = s.depth := secondTickWork_keeps s .depth (by decide)
  obtain ⟨hlow, hhigh, hlength⟩ := h
  unfold State.depthLaw
  rw [hdepth]
  refine ⟨hlow, hhigh, hlength.trans ?_⟩
  unfold secondTickWork
  dsimp only
  generalize hs1 : (eachPump rampPump ((s.reach s.mgmt.secondDue).onMgmt fun m =>
    { m with siteTime := m.siteTime + 1, secondDue := m.secondDue + 1000 })) = s1
  have htracker : s1.tracker = s.tracker := hs1 ▸ eachPump_keeps rampPump_keeps _ .tracker (by decide)
  have hrest : (meterSecond (drillingSecond (rotatingSecond s1))).tracker = (rotatingSecond s1).tracker :=
    (meterSecond_keeps _ .tracker (by decide)).trans (drillingSecond_keeps _ .tracker (by decide))
  rw [hrest, ← htracker]
  unfold rotatingSecond
  split
  · simp [Tracker.length, Function.comp_def]
  · rfl

theorem Works.depthLaw {c : Instr} {s w : State} (h : Works s c w) (hs : s.depthLaw) : w.depthLaw := by
  have hreset : ∀ cause, (s.afterReset cause).depthLaw := fun cause => ⟨hs.1, hs.2.1, rfl⟩
  cases h with
  | fieldFrame _ f =>
    unfold fieldArrival
    refine checkStarting_depthLaw ?_
    have hcond := condition_depthLaw f (State.depthLaw_of_keeps (offerCab_keeps f s) (by decide) hs)
    split
    · exact handlerReport_depthLaw _ hcond
    · exact hcond
  | cabFrame _ f => exact cabArrival_depthLaw f hs
  | cabSent =>
    unfold endCabSend
    split
    · exact hreset _
    · exact hs
  | secondTick => exact secondTickWork_depthLaw hs
  | staleExpiry _ i due =>
    exact react_depthLaw (State.depthLaw_of_keeps (l := [.inputs, .trunk, .mgmt])
      (by split <;> simp) (by decide) hs)
  | runningExpiry _ p due => exact react_depthLaw hs
  | periodExpiry _ due hdue =>
    refine react_depthLaw (onDepth_depthLaw rfl rfl (State.depthLaw_of_keeps
      (l := [.circ, .pumpCtl, .recorder, .billing, .trunk, .mgmt]) ?_ (by decide) hs))
    simp
  | handlerExpiry _ due =>
    unfold expireHandler
    split
    · exact State.depthLaw_of rfl rfl rfl hs
    · exact hs
  | settleExpiry _ due => exact takeActivity_depthLaw _ hs
  | holdExpiry _ due => exact checkStarting_depthLaw hs
  | checks failed => exact completeChecks_depthLaw failed hs
  | endOfStarting => exact checkStarting_depthLaw hs
  | reset _ cause => exact hreset cause
  | fieldSent => exact hs
  | _ => exact State.depthLaw_of_keeps (l := [.banks, .billing, .trunk]) (by simp) (by decide) hs

theorem step_depthLaw {s t : State} (h : step s = .next t) (hs : s.depthLaw) : t.depthLaw :=
  step_keeps (P := State.depthLaw) (fun _ _ h => h) (fun _ h => h)
    (fun _ h => State.depthLaw_of_keeps (transmit_keeps _) (by decide) h) (fun _ _ _ hw => hw.depthLaw) h hs

end Sys2Proof.Machine
end

section
/-! Every step keeps the law of the tables (R3, R38, R39, R131, R167): each load stores a row in range that
fits beside the others. -/

namespace Sys2Proof.Machine

/-! ### Rows in range -/

theorem clampN_clampN {lo hi : Nat} (h : lo ≤ hi) (x : Nat) : clampN lo hi (clampN lo hi x) = clampN lo hi x := by
  unfold clampN
  omega

theorem Settings.inRange_inRange (r : Settings) : r.inRange.inRange = r.inRange := by
  simp [Settings.inRange, clampN_clampN]

theorem Limits.inRange_inRange (r : Limits) : r.inRange.inRange = r.inRange := by
  simp only [Limits.inRange, clampN, Limits.mk.injEq, true_and]
  and_intros <;> omega

theorem PumpRow.inRange_inRange (r : PumpRow) : r.inRange.inRange = r.inRange := by
  simp [PumpRow.inRange, clampN_clampN]

theorem Thresholds.inRange_inRange (r : Thresholds) : r.inRange.inRange = r.inRange := by
  simp only [Thresholds.inRange, clampN, Thresholds.mk.injEq]
  and_intros <;> omega

/-! ### One load each, on the tables alone -/

section Loads

variable {t : Tables} (h : t.law)
include h

theorem Tables.law_setSettings {r : Settings} (hr : r.law) : Tables.law { t with settings := r } := by
  obtain ⟨-, hrest⟩ := h
  exact ⟨hr, hrest⟩

theorem Tables.law_setLimits {r : Limits} (hr : r.inRange = r) (hnode : r.handler ≤ 62)
    (hfree : r.handler ≠ 0 → ∀ p : PumpId, r.handler ≠ t.pumps[p].node) :
    Tables.law { t with limits := r } := by
  obtain ⟨hset, -, hpumps, -, hpair, -, hrest⟩ := h
  exact ⟨hset, hr, hpumps, hnode, hpair, hfree, hrest⟩

theorem Tables.law_setThresholds (row : Nat) {r : Thresholds} (hr : r.inRange = r) :
    Tables.law { t with thresholds := t.thresholds.setIfInBounds row r } := by
  obtain ⟨hset, hlimits, hpumps, hhandler, hpair, hfree, hthresholds, hrest⟩ := h
  refine ⟨hset, hlimits, hpumps, hhandler, hpair, hfree, fun i => ?_, hrest⟩
  by_cases hi : row = i.val
  · simp [hi, hr]
  · simpa [hi] using hthresholds i

theorem Tables.law_setPump (p : PumpId) {r : PumpRow} (hr : r.inRange = r) (hnode : r.node ≤ 62)
    (hother : r.node ≠ 0 → r.node ≠ t.pumps[otherPump p].node)
    (hhandler' : r.node ≠ 0 → r.node ≠ t.limits.handler) :
    Tables.law { t with pumps := t.pumps.set p r } := by
  obtain ⟨hset, hlimits, hpumps, hhandler, hpair, hfree, hrest⟩ := h
  have hget : ∀ q : PumpId, (t.pumps.set p r)[q] = if q = p then r else t.pumps[q] := by
    intro q
    by_cases hq : q = p
    · subst hq; simp
    · have : (p : Nat) ≠ q := fun e => hq (Fin.ext e.symm)
      simp [hq, this]
  refine ⟨hset, hlimits, fun q => ?_, hhandler, fun hne => ?_, fun hne q => ?_, hrest⟩
  · dsimp only
    rw [hget]
    split
    · exact ⟨hr, hnode⟩
    · exact hpumps q
  · have h0 := hget 0
    have h1 := hget 1
    dsimp only at hne ⊢
    rw [show (t.pumps.set p r)[(0 : Nat)] = _ from h0] at hne ⊢
    rw [show (t.pumps.set p r)[(1 : Nat)] = _ from h1]
    fin_cases p
    · exact hother hne
    · by_cases hr0 : r.node = 0
      · exact fun he => hne (he.trans hr0)
      · exact fun he => hother hr0 he.symm
  · dsimp only
    rw [hget]
    split
    · intro he
      by_cases hr0 : r.node = 0
      · exact hne (he.trans hr0)
      · exact hhandler' hr0 he.symm
    · exact hfree hne q

/-- No enabled row names the stream of an enabled row. -/
theorem Tables.law_setChannel (i : InputId) {r : ChannelRow}
    (hfree : r.enabled = true → ∀ j : InputId, j ≠ i → t.channels[j].enabled = true →
      t.channels[j].sameStream r = false) :
    Tables.law { t with channels := t.channels.set i r } := by
  obtain ⟨hset, hlimits, hpumps, hhandler, hpair, hnode, hthresholds, hstreams, hrest⟩ := h
  have hget : ∀ q : InputId, (t.channels.set i r)[q] = if q = i then r else t.channels[q] := by
    intro q
    by_cases hq : q = i
    · subst hq; simp
    · have : (i : Nat) ≠ q := fun e => hq (Fin.ext e.symm)
      simp [hq, this]
  have hsymm : ∀ a b : ChannelRow, a.sameStream b = b.sameStream a := fun a b => by
    simp [ChannelRow.sameStream, Bool.beq_comm]
  refine ⟨hset, hlimits, hpumps, hhandler, hpair, hnode, hthresholds, fun j k hjk hj hk => ?_, hrest⟩
  dsimp only at hj hk ⊢
  rw [hget] at hj hk ⊢
  rw [hget]
  by_cases hji : j = i
  · have hki : k ≠ i := fun hki => hjk (hji.trans hki.symm)
    rw [if_pos hji] at hj ⊢
    rw [if_neg hki] at hk ⊢
    rw [hsymm]
    exact hfree hj k hki hk
  · rw [if_neg hji] at hj ⊢
    by_cases hki : k = i
    · rw [if_pos hki] at hk ⊢
      exact hfree hk j hji hj
    · rw [if_neg hki] at hk ⊢
      exact hstreams j k hjk hj hk

end Loads

/-! ### The Tariff Table (R131, R132) -/

theorem Tariff.conflicts_comm (a b : Tariff) : a.conflicts b = b.conflicts a := by
  cases a <;> cases b <;> simp [Tariff.conflicts, Bool.beq_comm, and_comm]

/-- A row brought into range that is no empty band keeps the row's law. -/
theorem tariffStored_law {f : TariffForm} {r : Tariff} {changed : Bool}
    (hstored : tariffStored f = some (r, changed)) (hspan : r.isEmptyBand = false) : r.law := by
  unfold tariffStored at hstored
  dsimp only at hstored
  have hrate : ∀ n top : Nat, min n top ≤ top := fun n top => Nat.min_le_right n top
  split at hstored
  case h_1 => cases hstored; trivial
  case h_2 =>
    split at hstored
    · next hkey => cases hstored; exact ⟨hkey, hrate _ _⟩
    · cases hstored
  case h_3 =>
    cases hstored
    have hlt : min f.key.toNat 2000 < min f.bandTo.toNat 2000 := by
      have hnot : ¬min f.bandTo.toNat 2000 ≤ min f.key.toNat 2000 := of_decide_eq_false hspan
      omega
    exact ⟨hlt, hrate _ _, hrate _ _⟩
  case h_4 =>
    split at hstored
    · next hkey => cases hstored; exact ⟨hkey, hrate _ _⟩
    · cases hstored
  case h_5 => cases hstored; exact hrate _ _
  case h_6 =>
    split at hstored
    · next hkey => cases hstored; exact ⟨hkey.1, hkey.2, hrate _ _⟩
    · cases hstored
  case h_7 => cases hstored

theorem finRange_perm_otherPlaces (row : Fin 24) : (List.finRange 24).Perm (row :: otherPlaces row) := by
  have hfilter : otherPlaces row = (List.finRange 24).erase row := by
    rw [(List.nodup_finRange 24).erase_eq_filter]
    refine List.filter_congr fun i _ => ?_
    simp [Fin.ext_iff, bne, beq_eq_decide]
  rw [hfilter]
  exact List.perm_cons_erase (List.mem_finRange row)

/-- The BAND rows are those of the other places and the row's own. -/
theorem countP_tariff (v : Vector Tariff 24) (row : Fin 24) (q : Tariff → Bool) :
    v.toList.countP q = (otherPlaces row).countP (fun j => q v[j]) + if q v[row] then 1 else 0 := by
  have hlist : v.toList = (List.finRange 24).map (v[·]) := List.ext_getElem (by simp) (by simp)
  rw [hlist, List.countP_map, (finRange_perm_otherPlaces row).countP_eq, List.countP_cons]
  rfl

theorem Tables.law_setTariff {s : State} (row : Nat) {r : Tariff} (h : s.tables.law) (hlaw : r.law)
    (hfree : s.tariffConflict row r = false) :
    Tables.law { s.tables with tariff := s.tables.tariff.setIfInBounds row r } := by
  by_cases hrow : row < 24
  swap
  · have hsame : s.tables.tariff.setIfInBounds row r = s.tables.tariff :=
      Vector.setIfInBounds_eq_of_size_le (by omega)
    rw [hsame]
    exact h
  have hconflict : ¬s.tariffConflict row r = true := by simp [hfree]
  rw [State.tariffConflict_iff, not_or, not_and] at hconflict
  obtain ⟨hnone, hbands⟩ := hconflict
  obtain ⟨hset, hlimits, hpumps, hhandler, hpair, hnode, hthresholds, hstreams, hlaws, hpairs, hcount⟩ := h
  have hget : ∀ i : Fin 24, (s.tables.tariff.setIfInBounds row r)[i] =
      if i.val = row then r else s.tables.tariff[i] := by
    intro i
    by_cases hi : row = i.val
    · simp [hi]
    · simp [hi, Ne.symm hi]
  have hother : ∀ i : Fin 24, i.val ≠ row → r.conflicts s.tables.tariff[i] = false := fun i hi => by
    by_contra hc
    exact hnone ⟨i, by simp [otherPlaces, hi], by simpa using hc⟩
  refine ⟨hset, hlimits, hpumps, hhandler, hpair, hnode, hthresholds, hstreams, fun i => ?_,
    fun i j hij => ?_, ?_⟩
  · dsimp only
    rw [hget]
    split
    · exact hlaw
    · exact hlaws i
  · dsimp only
    rw [hget, hget]
    split
    · next hi =>
      rw [if_neg fun hj => hij (Fin.ext (hi.trans hj.symm))]
      exact hother j fun hj => hij (Fin.ext (hi.trans hj.symm))
    · next hi =>
      split
      · rw [Tariff.conflicts_comm]
        exact hother i hi
      · exact hpairs i j hij
  · have hsplit := countP_tariff s.tables.tariff ⟨row, hrow⟩ (·.band?.isSome)
    have hsplit' := countP_tariff (s.tables.tariff.setIfInBounds row r) ⟨row, hrow⟩ (·.band?.isSome)
    have hsame : (otherPlaces row).countP
        (fun j => ((s.tables.tariff.setIfInBounds row r)[j]).band?.isSome) =
        (otherPlaces row).countP (fun j => (s.tables.tariff[j]).band?.isSome) := by
      refine List.countP_congr fun j hj => ?_
      have hj' : j.val ≠ row := by simpa [otherPlaces] using hj
      rw [hget, if_neg hj']
    rw [hsame, hget, if_pos rfl] at hsplit'
    dsimp only at hsplit hsplit' ⊢
    rw [hsplit']
    split
    · next hband =>
      have := hbands hband
      omega
    · have hle : (otherPlaces row).countP (fun j => (s.tables.tariff[j]).band?.isSome) ≤ 8 := by
        rw [hsplit] at hcount
        omega
      simpa using hle

/-! ### All events -/

theorem Tables.default_law : Tables.default.law := by
  refine ⟨⟨by decide, .inl rfl⟩, by decide, by decide, by decide, by decide, by decide, by decide, ?_, ?_, ?_,
    by decide⟩
  · decide
  · intro i; fin_cases i <;> trivial
  · decide

/-- A row in range names the stream of its loaded form. -/
theorem sameStream_inRange (a r : ChannelRow) (i : InputId) : a.sameStream (r.inRange i) = a.sameStream r := rfl

/-- An event that leaves the tables keeps their law. -/
theorem Tables.law_of_keeps {l : List Block} {s t : State} (h : keepsAllBut l s t) (hl : Block.tables ∉ l)
    (hs : s.tables.law) : t.tables.law := (h .tables hl : t.tables = s.tables) ▸ hs

theorem RequestEffect.tables_law {s w : State} {code : Nat} (h : RequestEffect s code w)
    (hs : s.tables.law) : w.tables.law := by
  cases h with
  | loadSettings f mode hmode =>
    have hrow : (settingsLoaded f mode).inRange.law := by
      refine ⟨Settings.inRange_inRange _, ?_⟩
      unfold startModeOf at hmode
      split at hmode
      · exact .inl (Option.some.inj hmode).symm
      · exact .inr (Option.some.inj hmode).symm
      · cases hmode
    refine Tables.law_of_keeps (l := [.circ, .depth, .recorder, .banks, .billing, .trunk])
      (s := s.onTables fun t => { t with settings := (settingsLoaded f mode).inRange }) ?_ (by decide)
      (Tables.law_setSettings hs hrow)
    unfold storeSettings
    dsimp only
    split <;> simp
  | loadChannel i f hfits =>
    refine Tables.law_of_keeps (l := [.inputs, .circ, .depth, .recorder, .banks, .billing, .trunk])
      (s := s.onTables fun t => { t with channels := t.channels.set i ((channelLoaded f).inRange i) })
      ?_ (by decide) (Tables.law_setChannel hs i fun hen j hj hjen => ?_)
    · unfold storeChannel
      dsimp only
      split <;> simp
    · rw [sameStream_inRange]
      simp only [State.channelFits, Bool.and_eq_true, Bool.not_eq_true', Bool.and_eq_false_iff,
        List.any_eq_false, List.mem_finRange, true_implies] at hfits
      rcases hfits.2 with hoff | hfree
      · exact absurd (show (channelLoaded f).enabled = true from hen) (by simp [hoff])
      · by_contra hsame
        exact hfree j (by simpa [hj, State.channel, show s.tables.channels[(j : Nat)].enabled = true from hjen] using hsame)
  | loadPump p f hfits =>
    refine Tables.law_of_keeps (l := [.pumpCtl, .circ, .depth, .recorder, .banks, .billing, .trunk])
      (s := s.onTables fun t => { t with pumps := t.pumps.set p (pumpLoaded f).inRange }) ?_ (by decide) ?_
    · simp [storePump]
    · simp only [State.pumpNodeFits, Bool.and_eq_true, decide_eq_true_eq, Bool.or_eq_true, beq_iff_eq,
        bne_iff_ne] at hfits
      obtain ⟨hle, hnode⟩ := hfits
      exact Tables.law_setPump hs p (PumpRow.inRange_inRange _) hle
        (fun hne => (hnode.resolve_left hne).1) (fun hne => (hnode.resolve_left hne).2)
  | loadLimits f hfits =>
    refine Tables.law_of_keeps (l := [.tracker, .depth, .recorder, .banks, .billing, .trunk])
      (s := s.onTables fun t => { t with limits := (limitsLoaded f).inRange }) ?_ (by decide) ?_
    · unfold storeLimits
      dsimp only
      split <;> simp
    · simp only [State.handlerFits, Bool.and_eq_true, decide_eq_true_eq, Bool.or_eq_true, beq_iff_eq,
        bne_iff_ne] at hfits
      obtain ⟨hle, hnode⟩ := hfits
      refine Tables.law_setLimits hs (Limits.inRange_inRange _) hle fun hne p => ?_
      obtain ⟨h0, h1⟩ := hnode.resolve_left hne
      fin_cases p
      · exact h0
      · exact h1
  | loadThresholds row f => exact Tables.law_setThresholds hs row (Thresholds.inRange_inRange _)
  | loadClass row f => exact hs
  | loadTariff row f r changed hjob hstored hspan hfree =>
    exact Tables.law_setTariff row hs (tariffStored_law hstored hspan) hfree
  | clearTables hjob =>
    exact Tables.law_of_keeps (l := [.pumpCtl, .circ, .depth, .recorder, .banks, .billing, .trunk])
      (s := clearCommand { s with tables := .default, inputs := Vector.replicate 13 .afterLoad })
      (by simp [storeDefaults]) (by decide) Tables.default_law
  | _ =>
    exact Tables.law_of_keeps (l := [.pumpCtl, .tracker, .depth, .recorder, .banks, .billing, .trunk, .mgmt])
      (by simp [openJob]) (by decide) hs

theorem completeChecks_tables_law (failed : FailedAreas) {s : State} (h : s.tables.law) :
    (completeChecks failed s).tables.law := by
  have htables : (restoreTables s).tables.law := by
    have hdefault : (restoreTables s).tables = .default :=
      (onPumpRow_keeps 1 _ _ .tables (by decide)).trans (onPumpRow_keeps 0 _ _ .tables (by decide))
    rw [hdefault]
    exact Tables.default_law
  have hstring : ∀ t : State, (restoreString t).tables = t.tables := fun t =>
    (handMove_keeps _ _ .tables (by decide)).trans rfl
  have hareas : ∀ lost : FailedAreas, (restoreAreas lost s).tables =
      (if lost.tables = true then restoreTables s else s).tables := by
    intro lost
    have hrest : (restoreAreas lost s).tables = (if lost.string = true then
        restoreString (if lost.tables = true then restoreTables s else s)
          else if lost.tables = true then restoreTables s else s).tables := by
      unfold restoreAreas
      cases lost.depth <;> cases lost.job <;> rfl
    rw [hrest]
    cases lost.string
    · rfl
    · exact hstring _
  unfold completeChecks
  split
  · have hend : (checkStarting ((restoreAreas (lostAreas failed s) s).onMgmt fun m =>
        { m with checksDone := true, lost := lostAreas failed s })).tables =
        (restoreAreas (lostAreas failed s) s).tables := checkStarting_keeps _ .tables (by decide)
    dsimp only
    rw [hend, hareas]
    split
    · exact htables
    · exact h
  · exact h

theorem Works.tables_law {c : Instr} {s w : State} (h : Works s c w) (hs : s.tables.law) :
    w.tables.law := by
  cases h with
  | cabFrame _ f =>
    unfold cabArrival setpointArrival
    split
    · split
      · rcases serveFrame_cases f s with he | ⟨w, r, he, rfl | rfl | ⟨-, heffect⟩⟩ <;> rw [he]
        · exact hs
        · exact hs
        · exact hs
        · exact heffect.tables_law hs
      · exact hs
    · split
      · split
        · exact (pumpSetpointFrame_keeps _ f s .tables (by decide) : _ = _) ▸ hs
        · split
          · exact (handlerFrame_keeps f s .tables (by decide) : _ = _) ▸ hs
          · exact hs
      · exact hs
  | cabSent =>
    unfold endCabSend
    split <;> exact hs
  | checks failed => exact completeChecks_tables_law failed hs
  | fieldFrame _ f =>
    unfold fieldArrival
    refine Tables.law_of_keeps (checkStarting_keeps _) (by decide) ?_
    have hcond := Tables.law_of_keeps (condition_keeps f (s.offerCab f)) (by decide) hs
    split
    · exact Tables.law_of_keeps (handlerReport_keeps _ _) (by decide) hcond
    · exact hcond
  | fieldSent => exact hs
  | reset => exact hs
  | _ =>
    exact Tables.law_of_keeps
      (l := [.inputs, .circ, .pumpCtl, .tracker, .depth, .recorder, .banks, .billing, .trunk, .mgmt])
      (by simp) (by decide) hs

theorem step_tables_law {s t : State} (h : step s = .next t) (hs : s.tables.law) : t.tables.law :=
  step_keeps (P := fun s => s.tables.law) (fun _ _ h => h) (fun _ h => h) (fun _ h => h)
    (fun _ _ _ hw => hw.tables_law) h hs

end Sys2Proof.Machine
end

section
/-! What an event can do to the Billing Meter: each event's work at the meter is a chain of a few changes
(R127 to R150), and each change keeps the laws of the meter and of the tickets. -/

namespace Sys2Proof.Machine

/-- One change of the meter. The conditions are the tests that every event makes before it. -/
inductive Billing.Change : Billing → Billing → Prop
  | footage (s : State) (lo hi mark : Int) (cls : Nat) (b : Billing) : Change b { b with
      acc := addFootage s lo hi cls b.acc, job := { b.job with billedMark := mark } }
  | mud (volume : Nat) (b : Billing) : Change b { b with
      acc := { b.acc with lostMud := satAdd Config.moneyMax b.acc.lostMud volume } }
  | addition (price : Nat) (b : Billing) : Change b { b with acc := { b.acc with
      products := satAdd Config.moneyMax b.acc.products price
      additions := satAdd Config.count16Max b.acc.additions 1 } }
  | second (a : Fin 7) (fired : Bool) (b : Billing) : Change b { b with
      job := { b.job with metered := satAdd Config.count32Max b.job.metered 1 }
      acc := { b.acc with seconds := b.acc.seconds.set a (satAdd Config.count32Max b.acc.seconds[a] 1) }
      cadencePending := fired }
  | cadence (b : Billing) : Change b { b with cadencePending := false }
  | closing (b : Billing) : Change b { b with job := { b.job with closingInterval := true } }
  | jobState (st : JobState) (b : Billing) (h : b.job.state = .opened ∨ b.job.state = .suspended)
      (hst : st = .opened ∨ st = .suspended ∨ st = .closing) :
      Change b { b with job := { b.job with state := st } }
  | jobOpen (j : Job) (b : Billing) (hstore : b.tickets = []) (hmetered : j.metered = 0)
      (htotal : j.billedTotal = 0) (hcounter : j.ticketCounter = 0) :
      Change b { b with job := j, acc := .zero, deferred := false, cadencePending := false }
  | issue (final : Bool) (s : State) (hroom : s.billing.tickets.length < Config.ticketStoreSize)
      (hfinal : final = true → s.job.state = .closing)
      (hordinary : final = false → (s.job.state = .opened ∨ s.job.state = .suspended) ∧
        s.job.ticketCounter < Config.ticketCounterStop) :
      Change s.billing (issueTicket final s).billing
  | defer (b : Billing) (h : b.job.state = .closing ∨ b.job.ticketCounter < Config.ticketCounterStop) :
      Change b { b with deferred := true }
  | release (t : Ticket) (rest : List Ticket) (b : Billing) (h : b.tickets = t :: rest) :
      Change b { b with tickets := rest }
  | releaseIssue (final : Bool) (t : Ticket) (rest : List Ticket) (b : Billing) (s : State)
      (h : b.tickets = t :: rest) (hs : s.billing = { b with tickets := rest })
      (hfinal : final = true → b.job.state = .closing)
      (hordinary : final = false → (b.job.state = .opened ∨ b.job.state = .suspended) ∧ b.deferred = true) :
      Change b (issueTicket final s).billing
  | lost (b : Billing) : Change b .default

/-- The changes an event makes, one after the other. -/
def Billing.Changes : Billing → Billing → Prop := Relation.ReflTransGen Billing.Change

theorem Billing.Changes.refl {b : Billing} : Billing.Changes b b := Relation.ReflTransGen.refl

theorem Billing.Changes.trans {b c d : Billing} (h : Billing.Changes b c) (h' : Billing.Changes c d) :
    Billing.Changes b d := Relation.ReflTransGen.trans h h'

theorem Billing.Changes.one {b c : Billing} (h : Billing.Change b c) : Billing.Changes b c :=
  Relation.ReflTransGen.single h

/-- What every change keeps, a chain of changes keeps. -/
theorem Billing.Changes.keeps {P : Billing → Prop} (hP : ∀ b c, Billing.Change b c → P b → P c)
    {b c : Billing} (h : Billing.Changes b c) (hb : P b) : P c := by
  induction h with
  | refl => exact hb
  | tail _ hlast ih => exact hP _ _ hlast ih

/-- An event that leaves the meter. -/
theorem Billing.Changes.of_keeps {l : List Block} {s t : State} (h : keepsAllBut l s t)
    (hl : Block.billing ∉ l) : Billing.Changes s.billing t.billing := by
  have hsame : t.billing = s.billing := h .billing hl
  exact hsame ▸ .refl

/-! ### The hand-off of closed intervals and of periods (R106, R139) -/

theorem billFootage_changes (top bottom : Int) (cls : Nat) (s : State) :
    Billing.Changes s.billing (billFootage top bottom cls s).billing := by
  unfold billFootage
  split
  · exact .refl
  · exact .one (.footage s _ _ bottom cls s.billing)

theorem handOnRecord_changes (r : ClosedRecord) (s : State) :
    Billing.Changes s.billing (handOnRecord r s).billing := by
  have happend := Billing.Changes.of_keeps (appendRecord_keeps r s) (by decide)
  unfold handOnRecord
  dsimp only [State.onRecorder_billing]
  split
  · exact happend.trans (billFootage_changes _ _ _ _)
  · exact happend

theorem closeInterval_changes (bottom : Int) (added : FlagSet) (s : State) :
    Billing.Changes s.billing (closeInterval bottom added s).billing := by
  unfold closeInterval
  split
  · exact handOnRecord_changes _ s
  · exact .refl

theorem reopen_changes (top : Int) (corrected : Bool) (s : State) :
    Billing.Changes s.billing (reopen top corrected s).billing :=
  .of_keeps (reopen_keeps top corrected s) (by decide)

theorem boundaryLoop_changes (n : Nat) (s : State) :
    Billing.Changes s.billing (boundaryLoop n s).billing := by
  induction n generalizing s with
  | zero => exact .refl
  | succ n ih =>
    unfold boundaryLoop
    split
    · exact (closeInterval_changes _ _ s).trans ((reopen_changes _ _ _).trans (ih _))
    · exact .refl

theorem boundaryCheck_changes (s : State) : Billing.Changes s.billing (boundaryCheck s).billing :=
  boundaryLoop_changes _ s

theorem onHoleAdvance_changes (s : State) : Billing.Changes s.billing (onHoleAdvance s).billing :=
  (Billing.Changes.of_keeps (testOverdue_keeps s) (by decide)).trans (boundaryCheck_changes _)

theorem react_changes (s : State) : Billing.Changes s.billing (react s).billing := by
  have hadvance : Billing.Changes s.billing (advanceHole s).billing := by
    unfold advanceHole
    split
    · exact onHoleAdvance_changes (s.onDepth fun d => { d with hole := d.bit })
    · exact .refl
  exact hadvance.trans (.of_keeps (reindicate_keeps _) (by decide))

/-- An event that leaves the meter and ends in the depth unit's tests. -/
theorem react_changes_of_keeps {l : List Block} {s t : State} (h : keepsAllBut l s t)
    (hl : Block.billing ∉ l) : Billing.Changes s.billing (react t).billing :=
  (Billing.Changes.of_keeps h hl).trans (react_changes t)

theorem handLength_changes (s : State) : Billing.Changes s.billing (handLength s).billing := by
  unfold handLength
  split
  · exact .refl
  · refine react_changes_of_keeps (l := [.depth, .recorder]) ?_ (by decide)
    split <;> simp

theorem onCorrection_changes (oldD newD : Int) (s : State) :
    Billing.Changes s.billing (onCorrection oldD newD s).billing := by
  unfold onCorrection
  split
  · split
    · exact .refl
    · refine Billing.Changes.trans ?_ ((reopen_changes _ _ _).trans (boundaryCheck_changes _))
      split
      · exact closeInterval_changes _ _ s
      · exact .refl
  · exact .refl

theorem workPeriod_changes (s : State) : Billing.Changes s.billing (workPeriod s).billing := by
  have hwork : ∀ t : State, keepsAllBut [.circ, .trunk] s t → ∀ pumped r mark,
      Billing.Changes s.billing (handPeriodResult pumped r mark t).billing := by
    intro t ht pumped r mark
    refine (Billing.Changes.of_keeps ht (by decide)).trans ?_
    have hresult : ∀ loss gain held state, Billing.Changes t.billing
        (onPeriodResult loss gain held state t).billing := fun _ _ _ _ => .refl
    unfold handPeriodResult
    split
    · dsimp only
      split
      · refine (hresult r.balance.toNat (-r.balance).toNat r.held t.circ.state).trans ?_
        unfold addLostMud
        split
        · exact .one (.mud _ _)
        · exact .refl
      · exact hresult _ _ _ _
    · exact hresult _ _ _ _
  unfold workPeriod
  refine hwork _ ?_ _ _ _
  split <;> simp

theorem endPeriod_changes (s : State) : Billing.Changes s.billing (endPeriod s).billing := by
  unfold endPeriod
  dsimp only
  have hjudge : keepsAllBut [.pumpCtl, .trunk] s
      (judgePeriod 1 s.circ.strokes2 (judgePeriod 0 s.circ.strokes1 s)) := by simp
  generalize judgePeriod 1 s.circ.strokes2 (judgePeriod 0 s.circ.strokes1 s) = s1 at hjudge ⊢
  refine (Billing.Changes.of_keeps hjudge (by decide)).trans ((workPeriod_changes s1).trans ?_)
  exact react_changes_of_keeps (l := [.circ, .depth]) (by simp) (by decide)

/-! ### Tickets (R143 to R150) -/

theorem ticketDue_changes {final : Bool} {s : State} (hfinal : final = true → s.job.state = .closing)
    (hordinary : final = false → (s.job.state = .opened ∨ s.job.state = .suspended) ∧
      s.job.ticketCounter < Config.ticketCounterStop) :
    Billing.Changes s.billing (ticketDue final s).billing := by
  unfold ticketDue
  split
  · next hroom => exact .one (.issue final s hroom hfinal hordinary)
  · refine .one (.defer s.billing ?_)
    cases final with
    | true => exact .inl (hfinal rfl)
    | false => exact .inr (hordinary rfl).2

theorem finalTicketIfDue_changes (s : State) : Billing.Changes s.billing (finalTicketIfDue s).billing := by
  unfold finalTicketIfDue
  split
  · next h => exact ticketDue_changes (fun _ => h.1) nofun
  · exact .refl

theorem takeCadence_changes (s : State) : Billing.Changes s.billing (takeCadence s).billing := by
  have hcleared : Billing.Changes s.billing (s.onBilling fun b => { b with cadencePending := false }).billing :=
    .one (.cadence s.billing)
  unfold takeCadence
  split
  · dsimp only
    split
    · next h =>
      obtain ⟨hopen, -, hcounter⟩ := h
      exact hcleared.trans (ticketDue_changes nofun fun _ => ⟨.inl hopen, hcounter⟩)
    · exact hcleared
  · exact .refl

theorem meterSecond_changes (s : State) : Billing.Changes s.billing (meterSecond s).billing := by
  unfold meterSecond
  split
  · refine Billing.Changes.trans ?_ (takeCadence_changes _)
    exact .one (.second s.depth.taken.code _ s.billing)
  · exact .refl

/-! ### Banks and the ends of a job (R109, R111, R122) -/

theorem closeForJob_changes (added : FlagSet) (s : State) :
    Billing.Changes s.billing (closeForJob added s).billing := by
  unfold closeForJob
  refine Billing.Changes.trans ?_ (.one (.closing _))
  split
  · split
    · exact closeInterval_changes _ _ s
    · exact .refl
  · exact .refl

theorem recorderJobClose_changes (s : State) : Billing.Changes s.billing (recorderJobClose s).billing := by
  unfold recorderJobClose
  split
  · exact .refl
  · exact closeForJob_changes 0 s

@[simp] theorem State.onJob_job (f : Job → Job) (s : State) : (s.onJob f).job = f s.job := rfl

@[simp] theorem State.onRecorder_job (f : Recorder → Recorder) (s : State) :
    (s.onRecorder f).job = s.job := rfl

/-- A closed interval moves the billed depth mark of its job, and nothing else of the job (R137). -/
theorem handOnRecord_job (r : ClosedRecord) (s : State) :
    ∃ mark, (handOnRecord r s).job = { s.job with billedMark := mark } := by
  have hjob : (appendRecord r s).job = s.job := by
    unfold State.job
    rw [appendRecord_keeps r s .billing (by decide)]
  unfold handOnRecord billFootage
  dsimp only [State.onRecorder_job]
  rw [hjob]
  split
  · split
    · exact ⟨s.job.billedMark, hjob⟩
    · refine ⟨r.bottom, ?_⟩
      rw [← hjob]
      rfl
  · exact ⟨s.job.billedMark, hjob⟩

theorem closeInterval_job (bottom : Int) (added : FlagSet) (s : State) :
    ∃ mark, (closeInterval bottom added s).job = { s.job with billedMark := mark } := by
  unfold closeInterval
  split
  · exact handOnRecord_job _ s
  · exact ⟨s.job.billedMark, rfl⟩

/-- The close at the end of a job marks the job, and leaves its state (R111). -/
theorem closeForJob_job (added : FlagSet) (s : State) : ∃ mark,
    (closeForJob added s).job = { s.job with billedMark := mark, closingInterval := true } := by
  unfold closeForJob
  split
  · split
    · obtain ⟨mark, h⟩ := closeInterval_job s.depth.hole (flagPartial ||| added) s
      refine ⟨mark, ?_⟩
      rw [State.onJob_job, State.onRecorder_job, h]
    · exact ⟨s.job.billedMark, rfl⟩
  · exact ⟨s.job.billedMark, rfl⟩

theorem recorderJobClose_jobState (s : State) : (recorderJobClose s).job.state = s.job.state := by
  unfold recorderJobClose
  split
  · rfl
  · obtain ⟨mark, h⟩ := closeForJob_job 0 s
    rw [h]

theorem endExtension_changes (s : State) : Billing.Changes s.billing (endExtension s).billing := by
  generalize hs1 : (s.onRecorder fun r => { r with extending := false, overdue := false }) = s1
  have hbilling : s1.billing = s.billing := by rw [← hs1]; rfl
  unfold endExtension
  dsimp only
  rw [hs1, ← hbilling]
  split
  · exact (closeForJob_changes _ s1).trans (finalTicketIfDue_changes _)
  · split
    · split
      · exact (closeInterval_changes _ _ s1).trans ((reopen_changes _ _ _).trans (boundaryCheck_changes _))
      · exact .refl
    · exact boundaryCheck_changes s1

theorem releaseFullBank_changes (b : Fin 2) (s : State) :
    Billing.Changes s.billing (releaseFullBank b s).billing := by
  unfold releaseFullBank
  dsimp only
  split
  · split
    · exact Billing.Changes.trans (.of_keeps (l := [.banks]) (by simp) (by decide)) (endExtension_changes _)
    · exact .of_keeps (l := [.banks]) (by simp) (by decide)
  · exact .of_keeps (l := [.banks]) (by simp) (by decide)

theorem afterRelease_changes {s : State} {t : Ticket} {rest : List Ticket} (h : s.billing.tickets = t :: rest) :
    Billing.Changes s.billing (afterRelease (s.onBilling fun b => { b with tickets := rest })).billing := by
  have hremoved : Billing.Changes s.billing (s.onBilling fun b => { b with tickets := rest }).billing :=
    .one (.release t rest s.billing h)
  unfold afterRelease
  split
  · next hdeferred =>
    split
    · next hjob =>
      exact .one (.releaseIssue false t rest s.billing _ h rfl nofun fun _ => ⟨.inl hjob, hdeferred⟩)
    · next hjob =>
      exact .one (.releaseIssue false t rest s.billing _ h rfl nofun fun _ => ⟨.inr hjob, hdeferred⟩)
    · next hjob =>
      split
      · exact .one (.releaseIssue true t rest s.billing _ h rfl (fun _ => hjob) nofun)
      · exact hremoved
    · exact hremoved
  · exact hremoved

/-! ### Requests, frames and all events -/

theorem RequestEffect.billing_changes {s w : State} {code : Nat} (h : RequestEffect s code w) :
    Billing.Changes s.billing w.billing := by
  cases h with
  | loadSettings f mode hmode =>
    unfold storeSettings
    dsimp only
    split
    · exact .refl
    · exact react_changes_of_keeps (l := [.tables, .circ, .depth, .trunk]) (by simp) (by decide)
  | loadChannel i f hfits =>
    refine react_changes_of_keeps (l := [.tables, .inputs, .circ, .depth, .trunk]) ?_ (by decide)
    split <;> simp
  | loadPump p f hfits =>
    exact react_changes_of_keeps (l := [.tables, .pumpCtl, .circ, .depth, .trunk]) (by simp) (by decide)
  | loadLimits f hfits =>
    unfold storeLimits
    refine react_changes_of_keeps (l := [.tables, .tracker]) ?_ (by decide)
    split <;> simp
  | clearTables hjob =>
    exact react_changes_of_keeps (l := [.tables, .inputs, .pumpCtl, .tracker, .circ, .depth, .trunk])
      (by simp) (by decide)
  | standby hmode => exact react_changes_of_keeps (goStandby_keeps s) (by decide)
  | setMode m hm hmode =>
    exact react_changes_of_keeps (l := [.pumpCtl, .trunk, .mgmt]) (by simp) (by decide)
  | bhaAdd serial length hfits hrod hroom hserial => exact handLength_changes (s.onTracker _)
  | bhaRemove => exact handLength_changes (s.onTracker _)
  | depthCorrect new hbottom hext => exact onCorrection_changes _ _ (s.onDepth _)
  | releaseBank b hfull => exact releaseFullBank_changes b s
  | jobOpen number customer hjob hfree hstore =>
    have hopened : (recorderJobOpen ((openJob number customer s).onBank 0 fun _ => Bank.startFilling)).billing =
        (openJob number customer s).billing := recorderJobOpen_keeps _ .billing (by decide)
    rw [hopened]
    exact .one (.jobOpen _ s.billing hstore rfl rfl rfl)
  | jobSuspend hjob => exact .one (.jobState .suspended s.billing (.inl hjob) (.inr (.inl rfl)))
  | jobResume hjob => exact .one (.jobState .opened s.billing (.inr hjob) (.inl rfl))
  | jobClose hjob =>
    have hrecorder := recorderJobClose_changes s
    have hstate : (recorderJobClose s).job.state = s.job.state := recorderJobClose_jobState s
    generalize recorderJobClose s = s1 at hrecorder hstate ⊢
    have hclosing : Billing.Changes s1.billing (s1.onJob fun j => { j with state := .closing }).billing :=
      .one (.jobState .closing s1.billing (hstate ▸ hjob) (.inr (.inr rfl)))
    exact hrecorder.trans (hclosing.trans (finalTicketIfDue_changes _))
  | mudAddition quantity rate hjob => exact .one (.addition (quantity * rate) s.billing)
  | ticketNow hjob hcounter => exact ticketDue_changes nofun fun _ => ⟨hjob, hcounter⟩
  | releaseTicket t rest hstore => exact afterRelease_changes hstore
  | _ =>
    exact .of_keeps (l := [.tables, .inputs, .pumpCtl, .tracker, .trunk, .mgmt]) (by simp) (by decide)

end Sys2Proof.Machine
end

section
/-! The changes at the meter over all events, and that every step keeps the laws of the meter and of the
tickets (R142, R147, R149, section 8.4). -/

namespace Sys2Proof.Machine

theorem condition_changes (f : Frame) (s : State) : Billing.Changes s.billing (condition f s).billing := by
  have hquiet : ∀ {t : State}, keepsAllBut [.inputs, .circ, .pumpCtl, .depth, .recorder, .trunk, .mgmt] s t →
      Billing.Changes s.billing t.billing := fun hk => .of_keeps hk (by decide)
  have hreact : ∀ {t : State}, keepsAllBut [.inputs, .circ, .pumpCtl, .depth, .recorder, .trunk, .mgmt] s t →
      Billing.Changes s.billing (react t).billing := fun hk => react_changes_of_keeps hk (by decide)
  unfold condition
  split
  · exact .refl
  · split
    · unfold accept
      split
      · unfold acceptStrokes
        dsimp only
        split
        · exact hquiet (by simp)
        · refine hreact ?_
          split <;> simp
      · split
        · refine hreact ?_
          split <;> simp
        · unfold acceptValue deliver
          repeat' split
          · exact hreact (by simp)
          · exact hreact (by simp)
          · exact hquiet (by simp)
          · exact hquiet (by simp)
          · exact hreact (by simp)
          · exact hquiet (by simp)
    · exact hquiet (by simp)

theorem handlerReport_changes (payload : List Byte) (s : State) :
    Billing.Changes s.billing (handlerReport payload s).billing := by
  have hquiet : ∀ {t : State}, keepsAllBut [.tracker, .pumpCtl, .recorder, .trunk] s t →
      Billing.Changes s.billing t.billing := fun hk => .of_keeps hk (by decide)
  have hmove : ∀ f : Tracker → Tracker, Billing.Changes s.billing
      (handMove s.tracker.conn ((clearCommand s).onTracker f)).billing := fun f =>
    (handLength_changes ((clearCommand s).onTracker f)).trans (.of_keeps (handConn_keeps _ _) (by decide))
  unfold handlerReport
  split
  · exact hquiet (by simp)
  · split
    · split
      · exact hquiet (by simp)
      · exact .refl
    · split
      · unfold okReport completeCommand
        split
        · dsimp only
          split
          · exact hmove _
          · exact hquiet (by simp)
        · exact hquiet (by simp)
      · exact hquiet (by simp)

theorem checkStarting_changes (s : State) : Billing.Changes s.billing (checkStarting s).billing := by
  unfold checkStarting
  split
  · unfold endStarting
    dsimp only
    refine Billing.Changes.trans ?_ (.of_keeps (raise_keeps _ _ _ _) (by decide))
    generalize hs2 : ((beginPeriod (s.onMgmt fun m =>
      { m with mode := s.settings.startMode, holdDue := none, holdExpired := false })).onCirc fun c =>
        { c with pumpsOffAt := some s.mgmt.clock }) = s2
    have hkeeps : keepsAllBut [.circ, .mgmt] s s2 := by rw [← hs2]; simp
    refine react_changes_of_keeps (keepsAllBut_trans (l := [.circ, .mgmt, .pumpCtl, .depth, .recorder, .trunk])
      (keepsAllBut_mono hkeeps (by simp)) ?_) (by decide)
    repeat' split
    all_goals simp
  · exact .refl

theorem completeChecks_changes (failed : FailedAreas) (s : State) :
    Billing.Changes s.billing (completeChecks failed s).billing := by
  have hif : ∀ (b : Bool) (f : State → State), (∀ t : State, Billing.Changes t.billing (f t).billing) →
      ∀ t : State, Billing.Changes t.billing (if b then f t else t).billing := by
    intro b f hf t
    cases b
    · exact .refl
    · exact hf t
  have htables : ∀ t : State, Billing.Changes t.billing (restoreTables t).billing := fun t =>
    .of_keeps (storeDefaults_keeps t) (by decide)
  have hstring : ∀ t : State, Billing.Changes t.billing (restoreString t).billing := fun t =>
    (handLength_changes (t.onTracker _)).trans (.of_keeps (handConn_keeps _ _) (by decide))
  unfold completeChecks
  split
  · refine Billing.Changes.trans ?_ (checkStarting_changes _)
    exact (hif _ restoreTables htables s).trans ((hif _ restoreString hstring _).trans
      ((hif _ restoreDepth (fun _ => .refl) _).trans (hif _ restoreJob (fun t => .one (.lost t.billing)) _)))
  · exact .refl

theorem cabArrival_changes (f : Frame) (s : State) : Billing.Changes s.billing (cabArrival f s).billing := by
  unfold cabArrival setpointArrival
  split
  · split
    · rcases serveFrame_cases f s with he | ⟨w, r, he, rfl | rfl | ⟨-, heffect⟩⟩ <;> rw [he]
      · exact .refl
      · exact .refl
      · exact .refl
      · exact heffect.billing_changes
    · exact .refl
  · split
    · split
      · exact .of_keeps (pumpSetpointFrame_keeps _ f s) (by decide)
      · split
        · exact .of_keeps (handlerFrame_keeps f s) (by decide)
        · exact .refl
    · exact .refl

theorem secondTickWork_changes (s : State) : Billing.Changes s.billing (secondTickWork s).billing := by
  unfold secondTickWork
  dsimp only
  generalize ht : ((s.reach s.mgmt.secondDue).onMgmt fun m =>
    { m with siteTime := m.siteTime + 1, secondDue := m.secondDue + 1000 }) = t
  have hbilling : t.billing = s.billing := by rw [← ht]; rfl
  rw [← hbilling]
  refine Billing.Changes.trans (.of_keeps (keepsAllBut_trans (l := [.pumpCtl, .trunk, .tracker, .recorder])
    (keepsAllBut_mono (eachPump_keeps rampPump_keeps t) (by simp)) ?_) (by decide)) (meterSecond_changes _)
  simp

theorem Works.billing_changes {c : Instr} {s w : State} (h : Works s c w) :
    Billing.Changes s.billing w.billing := by
  cases h with
  | fieldFrame _ f =>
    unfold fieldArrival
    refine Billing.Changes.trans ?_ (checkStarting_changes _)
    have hcond := condition_changes f (s.offerCab f)
    split
    · exact hcond.trans (handlerReport_changes _ _)
    · exact hcond
  | cabFrame _ f => exact cabArrival_changes f s
  | cabSent =>
    unfold endCabSend
    split <;> exact .refl
  | secondTick => exact secondTickWork_changes s
  | cadence => exact takeCadence_changes s
  | staleExpiry _ i due =>
    refine react_changes_of_keeps (l := [.inputs, .trunk, .mgmt]) ?_ (by decide)
    split <;> simp
  | runningExpiry _ p due => exact react_changes_of_keeps (l := [.inputs, .mgmt]) (by simp) (by decide)
  | periodExpiry _ due hdue => exact endPeriod_changes (s.reach due)
  | holdExpiry _ due => exact checkStarting_changes ((s.reach due).onMgmt _)
  | checks failed => exact completeChecks_changes failed s
  | endOfStarting => exact checkStarting_changes s
  | fieldSent => exact .refl
  | reset => exact .refl
  | _ => exact .of_keeps (l := [.depth, .tracker, .trunk, .mgmt]) (by simp) (by decide)

/-- What a change of the meter keeps, a step keeps. -/
theorem step_keeps_billing {P : Billing → Prop} (hP : ∀ b c, Billing.Change b c → P b → P c) {s t : State}
    (h : step s = .next t) (hs : P s.billing) : P t.billing :=
  step_keeps (P := fun s => P s.billing) (fun _ _ h => h) (fun _ h => h) (fun _ h => h)
    (fun _ _ _ hw => hw.billing_changes.keeps hP) h hs

end Sys2Proof.Machine
end

section
/-! Each change of the meter keeps the law of the meter and the law of the tickets (section 8.4, R142, R147,
R149). -/

namespace Sys2Proof.Machine

/-! ### The amounts (section 8.4) -/

/-- The accumulators and carries in the ranges of section 8.4. -/
def Accumulators.inRange (a : Accumulators) : Prop :=
  (∀ i : Fin 7, a.seconds[i] ≤ Config.count32Max ∧ a.carries[i] < 3600) ∧
  (∀ j : Fin 8, a.bands[j] ≤ Config.count32Max) ∧ a.unbanded ≤ Config.count32Max ∧
  a.lostMud ≤ Config.moneyMax ∧ a.mudCarry < 1000000 ∧ a.products ≤ Config.moneyMax ∧
  a.additions ≤ Config.count16Max

/-- The law of the meter, as a law of its block alone. -/
def Billing.inRange (b : Billing) : Prop :=
  b.tickets.length ≤ Config.ticketStoreSize ∧ b.job.metered ≤ Config.count32Max ∧
  b.job.billedTotal ≤ Config.moneyMax ∧ b.acc.inRange

theorem State.meterLaw_iff (s : State) : s.meterLaw ↔ s.billing.inRange := Iff.rfl

theorem satAdd_le (top a b : Nat) : satAdd top a b ≤ top := Nat.min_le_left _ _

theorem Accumulators.zero_inRange : Accumulators.zero.inRange := by
  unfold Accumulators.inRange
  decide

theorem addPiece_inRange (bands : List Band) (percent : Nat) {a : Accumulators} (piece : Int × Int)
    (h : a.inRange) : (addPiece bands percent a piece).inRange := by
  obtain ⟨hseconds, hbands, hrest⟩ := h
  refine ⟨hseconds, fun j => ?_, hrest⟩
  unfold addPiece
  by_cases hj : bandIndex bands piece.1 = j.val
  · simp [hj, satAdd_le]
  · simpa [hj] using hbands j

theorem addFootage_inRange (s : State) (lo hi : Int) (cls : Nat) {a : Accumulators} (h : a.inRange) :
    (addFootage s lo hi cls a).inRange := by
  unfold addFootage
  split
  · obtain ⟨hseconds, hbands, -, hrest⟩ := h
    exact ⟨hseconds, hbands, satAdd_le _ _ _, hrest⟩
  · generalize cutPieces _ _ _ = pieces
    induction pieces generalizing a with
    | nil => exact h
    | cons piece pieces ih => exact ih (addPiece_inRange _ _ piece h)

theorem accAfterIssue_inRange (s : State) : (accAfterIssue s.charges).inRange := by
  refine ⟨fun i => ⟨?_, ?_⟩, fun j => ?_, Nat.zero_le _, Nat.zero_le _, Nat.mod_lt _ (by decide),
    Nat.zero_le _, Nat.zero_le _⟩
  · simp [accAfterIssue, Accumulators.zero]
  · simp [accAfterIssue, State.charges, Nat.mod_lt]
  · simp [accAfterIssue, Accumulators.zero]

/-- The meter after an issue (R149). -/
theorem issueTicket_billing (final : Bool) (s : State) : (issueTicket final s).billing = { s.billing with
    acc := accAfterIssue s.charges
    deferred := false
    tickets := s.billing.tickets ++ [buildTicket final s]
    job := { s.job with
      ticketCounter := s.nextTicketNumber final
      billedTotal := satAdd Config.moneyMax s.job.billedTotal s.charges.total
      lastTicketTo := s.now
      state := if final then .closed else s.job.state } } := by
  unfold issueTicket
  dsimp only
  split
  · rw [sealBanks_keeps _ .billing (by decide)]
    rfl
  · rfl

theorem Billing.Change.inRange {b c : Billing} (h : Billing.Change b c) (hb : b.inRange) : c.inRange := by
  obtain ⟨htickets, hmetered, htotal, hacc⟩ := id hb
  obtain ⟨hseconds, hbands, hunbanded, hmud, hcarry, hproducts, hadditions⟩ := id hacc
  cases h with
  | footage s lo hi mark cls => exact ⟨htickets, hmetered, htotal, addFootage_inRange s lo hi cls hacc⟩
  | mud volume =>
    exact ⟨htickets, hmetered, htotal, hseconds, hbands, hunbanded, satAdd_le _ _ _, hcarry, hproducts,
      hadditions⟩
  | addition price =>
    exact ⟨htickets, hmetered, htotal, hseconds, hbands, hunbanded, hmud, hcarry, satAdd_le _ _ _,
      satAdd_le _ _ _⟩
  | second a fired =>
    refine ⟨htickets, satAdd_le _ _ _, htotal, fun i => ⟨?_, (hseconds i).2⟩, hbands, hunbanded, hmud, hcarry,
      hproducts, hadditions⟩
    by_cases hi : (a : Nat) = i
    · simp [hi, satAdd_le]
    · simpa [hi] using (hseconds i).1
  | cadence => exact hb
  | closing => exact hb
  | jobState st => exact hb
  | jobOpen j _ hstore hmetered' htotal' hcounter =>
    exact ⟨htickets, by rw [hmetered']; exact Nat.zero_le _, by rw [htotal']; exact Nat.zero_le _,
      Accumulators.zero_inRange⟩
  | issue final s hroom hfinal hordinary =>
    rw [issueTicket_billing]
    exact ⟨by simpa using hroom, hmetered, satAdd_le _ _ _, accAfterIssue_inRange s⟩
  | defer => exact hb
  | release t rest _ hstore =>
    rw [hstore] at htickets
    exact ⟨(Nat.le_succ _).trans htickets, hmetered, htotal, hacc⟩
  | releaseIssue final t rest _ s hstore hs hfinal hordinary =>
    rw [hstore] at htickets
    have hmetered' : s.job.metered ≤ Config.count32Max := by
      unfold State.job
      rw [hs]
      exact hmetered
    rw [issueTicket_billing]
    exact ⟨by simpa [hs] using htickets, hmetered', satAdd_le _ _ _, accAfterIssue_inRange s⟩
  | lost => exact ⟨Nat.zero_le _, Nat.zero_le _, Nat.zero_le _, Accumulators.zero_inRange⟩

theorem step_meterLaw {s t : State} (h : step s = .next t) (hs : s.meterLaw) : t.meterLaw :=
  step_keeps_billing (P := Billing.inRange) (fun _ _ => Billing.Change.inRange) h hs

/-! ### The tickets (R142, R147, R149) -/

/-- The stored tickets in order: consecutive numbers and running totals, of one job, the newest carrying the
given counter and total. -/
def ticketsInOrder (jobNumber counter total : Nat) (l : List Ticket) : Prop :=
  (∀ (k : Nat) (a b : Ticket), l[k]? = some a → l[k + 1]? = some b →
    b.number = a.number + 1 ∧ b.runningTotal = min Config.moneyMax (a.runningTotal + b.total)) ∧
  (∀ k, l.getLast? = some k → k.number = counter ∧ k.runningTotal = total) ∧
  (∀ k ∈ l, k.jobNumber = jobNumber)

/-- The law of the tickets, as a law of the meter alone. -/
def Billing.booked (b : Billing) : Prop :=
  ticketsInOrder b.job.number b.job.ticketCounter b.job.billedTotal b.tickets ∧
  ((b.job.state = .opened ∨ b.job.state = .suspended) ∨ b.job.state = .closing →
    b.job.ticketCounter < Config.count16Max) ∧
  (b.job.state = .opened ∨ b.job.state = .suspended → b.deferred = true →
    b.job.ticketCounter < Config.ticketCounterStop)

theorem State.ticketLaw_iff (s : State) : s.ticketLaw ↔ s.billing.booked := by
  unfold State.ticketLaw Billing.booked ticketsInOrder State.jobInProgress State.job
  simp only [Bool.or_eq_true, beq_iff_eq]
  tauto

/-- The oldest ticket leaves (R150). -/
theorem ticketsInOrder_tail {n c m : Nat} {t : Ticket} {l : List Ticket}
    (h : ticketsInOrder n c m (t :: l)) : ticketsInOrder n c m l := by
  obtain ⟨hpair, hlast, hjob⟩ := h
  refine ⟨fun k a b ha hb => hpair (k + 1) a b (by simpa using ha) (by simpa using hb), fun k hk => hlast k ?_,
    fun k hk => hjob k (List.mem_cons_of_mem t hk)⟩
  cases l with
  | nil => cases hk
  | cons q l => rwa [List.getLast?_cons_cons]

/-- A ticket joins that carries the next number and the total it brings (R147, R149). -/
theorem ticketsInOrder_append {n c m : Nat} {t : Ticket} {l : List Ticket} (h : ticketsInOrder n c m l)
    (hjob : t.jobNumber = n) (hnumber : t.number = c + 1)
    (htotal : t.runningTotal = min Config.moneyMax (m + t.total)) :
    ticketsInOrder n t.number t.runningTotal (l ++ [t]) := by
  obtain ⟨hpair, hlast, hjobs⟩ := h
  refine ⟨fun k a b ha hb => ?_, fun k hk => ?_, fun k hk => ?_⟩
  · have hklt : k + 1 < (l ++ [t]).length := (List.getElem?_eq_some_iff.mp hb).1
    rw [List.length_append, List.length_singleton] at hklt
    by_cases hnew : k + 1 = l.length
    · have hb' : b = t := by
        rw [List.getElem?_append_right (by omega), hnew] at hb
        simpa using hb.symm
      have ha' : l.getLast? = some a := by
        rw [List.getElem?_append_left (by omega)] at ha
        rw [List.getLast?_eq_getElem?, ← ha]
        congr 1
        omega
      obtain ⟨hnum, htot⟩ := hlast a ha'
      rw [hb', hnumber, htotal, hnum, htot]
      exact ⟨rfl, rfl⟩
    · rw [List.getElem?_append_left (by omega)] at ha hb
      exact hpair k a b ha hb
  · obtain rfl : t = k := by simpa using hk
    exact ⟨rfl, rfl⟩
  · rcases List.mem_append.mp hk with hk | hk
    · exact hjobs k hk
    · rw [List.mem_singleton.mp hk, hjob]

/-- An issue keeps the law where the counter has room for the number. -/
theorem issueTicket_booked {final : Bool} {s : State}
    (h : ticketsInOrder s.job.number s.job.ticketCounter s.job.billedTotal s.billing.tickets)
    (hfinal : final = true → s.job.ticketCounter < Config.count16Max)
    (hordinary : final = false → s.job.ticketCounter < Config.ticketCounterStop) :
    (issueTicket final s).billing.booked := by
  have hnumber : s.nextTicketNumber final = s.job.ticketCounter + 1 := by
    unfold State.nextTicketNumber
    cases final with
    | false => rfl
    | true => exact min_eq_right (hfinal rfl)
  rw [issueTicket_billing]
  refine ⟨ticketsInOrder_append h rfl hnumber rfl, fun hst => ?_, fun _ => nofun⟩
  dsimp only at hst ⊢
  cases final with
  | false =>
    have hstop : s.job.ticketCounter < 65534 := hordinary rfl
    rw [hnumber]
    exact Nat.succ_lt_succ hstop
  | true => simp at hst

theorem Billing.Change.booked {b c : Billing} (h : Billing.Change b c) (hb : b.booked) : c.booked := by
  obtain ⟨horder, hcounter, hstop⟩ := id hb
  have hless : ∀ n, n < Config.ticketCounterStop → n < Config.count16Max := fun n hn => Nat.lt_succ_of_lt hn
  cases h with
  | footage => exact hb
  | mud => exact hb
  | addition => exact hb
  | second => exact hb
  | cadence => exact hb
  | closing => exact hb
  | jobState st _ hopen hst =>
    refine ⟨horder, fun _ => hcounter (.inl hopen), fun hst' hdeferred => hstop hopen hdeferred⟩
  | jobOpen j _ hstore hmetered htotal hzero =>
    refine ⟨?_, fun _ => ?_, fun _ => nofun⟩
    · dsimp only
      rw [hstore]
      exact ⟨nofun, nofun, nofun⟩
    · rw [hzero]
      decide
  | issue final s hroom hfinal hordinary =>
    exact issueTicket_booked horder (fun hf => hcounter (.inr (hfinal hf))) fun hf => (hordinary hf).2
  | defer _ hcond =>
    refine ⟨horder, hcounter, fun hopen _ => ?_⟩
    rcases hcond with hclosing | hlt
    · rcases hopen with he | he <;> rw [hclosing] at he <;> cases he
    · exact hlt
  | release t rest _ hstore =>
    rw [hstore] at horder
    exact ⟨ticketsInOrder_tail horder, hcounter, hstop⟩
  | releaseIssue final t rest _ s hstore hs hfinal hordinary =>
    rw [hstore] at horder
    have hjob : s.job = b.job := by
      unfold State.job
      rw [hs]
    refine issueTicket_booked ?_ (fun hf => ?_) fun hf => ?_
    · rw [hjob, hs]
      exact ticketsInOrder_tail horder
    · rw [hjob]
      exact hcounter (.inr (hfinal hf))
    · rw [hjob]
      exact hstop (hordinary hf).1 (hordinary hf).2
  | lost => exact ⟨⟨nofun, nofun, nofun⟩, fun _ => by decide, fun _ => nofun⟩

theorem step_ticketLaw {s t : State} (h : step s = .next t) (hs : s.ticketLaw) : t.ticketLaw := by
  rw [State.ticketLaw_iff] at hs ⊢
  exact step_keeps_billing (P := Billing.booked) (fun _ _ => Billing.Change.booked) h hs

end Sys2Proof.Machine
end

section
/-! The record banks: which bank fills, what an append and a seal leave in both, and the law of the banks
(R114, R117 to R119, R123). -/

namespace Sys2Proof.Machine

/-! ### The bank that fills (R114) -/

theorem otherBank_ne (b : Fin 2) : otherBank b ≠ b := by
  fin_cases b <;> decide

theorem eq_otherBank {b c : Fin 2} (h : c ≠ b) : c = otherBank b := by
  fin_cases b <;> fin_cases c <;> simp_all [otherBank]

theorem forall_banks (b : Fin 2) {P : Fin 2 → Prop} : (∀ c, P c) ↔ P b ∧ P (otherBank b) := by
  refine ⟨fun h => ⟨h _, h _⟩, fun ⟨hb, ho⟩ c => ?_⟩
  by_cases h : c = b
  · exact h ▸ hb
  · exact eq_otherBank h ▸ ho

theorem State.filling_of_fillingBank {s : State} {b : Fin 2} (h : s.fillingBank = some b) :
    s.banks[b].state = .filling := by
  unfold State.fillingBank at h
  split at h
  · next h0 => obtain rfl := Option.some.inj h; exact h0
  · split at h
    · next h1 => obtain rfl := Option.some.inj h; exact h1
    · cases h

theorem State.fillingBank_eq_none_iff (s : State) :
    s.fillingBank = none ↔ ∀ b : Fin 2, s.banks[b].state ≠ .filling := by
  rw [forall_banks 0]
  unfold State.fillingBank
  split
  · next h0 => exact ⟨nofun, fun h => absurd h0 h.1⟩
  · next h0 =>
    split
    · next h1 => exact ⟨nofun, fun h => absurd h1 h.2⟩
    · next h1 => exact ⟨fun _ => ⟨h0, h1⟩, fun _ => rfl⟩

theorem State.fillingBank_eq_some {s : State} {b : Fin 2} (h : s.banks[b].state = .filling)
    (hother : ∀ c, c ≠ b → s.banks[c].state ≠ .filling) : s.fillingBank = some b := by
  cases hf : s.fillingBank with
  | none => exact absurd h ((s.fillingBank_eq_none_iff.mp hf) b)
  | some c =>
    by_contra hne
    have hc : c ≠ b := fun e => hne (by rw [e])
    exact hother c hc (State.filling_of_fillingBank hf)

/-- The law of the banks, with the two banks named by the one of interest. -/
theorem State.bankLaw_iff (s : State) (b : Fin 2) : s.bankLaw ↔
    s.banks[b].law ∧ s.banks[otherBank b].law ∧
      ¬(s.banks[b].state = .filling ∧ s.banks[otherBank b].state = .filling) := by
  fin_cases b
  · exact Iff.rfl
  · show (_ ∧ _ ∧ _) ↔ (_ ∧ _ ∧ _)
    constructor
    · rintro ⟨h0, h1, hboth⟩
      exact ⟨h1, h0, fun h => hboth ⟨h.2, h.1⟩⟩
    · rintro ⟨h1, h0, hboth⟩
      exact ⟨h0, h1, fun h => hboth ⟨h.2, h.1⟩⟩

theorem State.other_not_filling {s : State} {b : Fin 2} (h : s.bankLaw) (hb : s.banks[b].state = .filling) :
    s.banks[otherBank b].state ≠ .filling := fun ho => ((s.bankLaw_iff b).mp h).2.2 ⟨hb, ho⟩

/-! ### The records of the bank that fills (R117) -/

/-- The number of records in the bank that fills, 0 with none. -/
def State.fillCount (s : State) : Nat := (s.fillingBank.map fun b => (s.banks[b]).records.length).getD 0

theorem State.fillCount_eq {s : State} {b : Fin 2} (h : s.fillingBank = some b) :
    s.fillCount = s.banks[b].records.length := by
  simp [State.fillCount, h]

theorem State.fillCount_of_none {s : State} (h : s.fillingBank = none) : s.fillCount = 0 := by
  simp [State.fillCount, h]

theorem State.raise_bank (s : State) (k : NoticeKind) (n : Nat) (v : Int) (c : Fin 2) :
    (s.raise k n v).banks[c] = s.banks[c] := rfl

theorem testFillMark_bank (b : Fin 2) (s : State) : ∃ mark, ∀ c : Fin 2, (testFillMark b s).banks[c] =
    if b = c then { s.banks[b] with fillMarked := mark } else s.banks[c] := by
  unfold testFillMark
  split
  · refine ⟨true, fun c => ?_⟩
    exact (State.raise_bank _ _ _ _ c).trans (State.onBank_banks_get s b c _)
  · refine ⟨s.banks[b].fillMarked, fun c => ?_⟩
    split
    · next h => rw [← h]
    · rfl

theorem testBankFull_bank (b : Fin 2) (s : State) :
    (testBankFull b s).banks[b] = (if Config.bankSize ≤ s.banks[b].records.length then
      { s.banks[b] with state := .full } else s.banks[b]) ∧
    (testBankFull b s).banks[otherBank b] =
      if Config.bankSize ≤ s.banks[b].records.length ∧ s.banks[otherBank b].state = .free then
        Bank.startFilling else s.banks[otherBank b] := by
  have hne : b ≠ otherBank b := (otherBank_ne b).symm
  unfold testBankFull
  by_cases hfull : Config.bankSize ≤ s.banks[b].records.length
  · by_cases hfree : s.banks[otherBank b].state = .free <;>
      simp only [hfull, hfree, hne, hne.symm, State.raise_banks, State.onBank_banks_get, if_true, if_false,
        true_and, and_self]
  · simp only [hfull, if_false, false_and, and_self]

/-- What an append leaves in the bank that fills and in the other one (R117 to R119). -/
theorem appendRecord_bank {s : State} {b : Fin 2} (r : ClosedRecord) (h : s.fillingBank = some b) :
    ∃ mark, (appendRecord r s).banks[b] = { s.banks[b] with
        records := s.banks[b].records ++ [r]
        fillMarked := mark
        state := if Config.bankSize ≤ s.banks[b].records.length + 1 then .full else .filling } ∧
      (appendRecord r s).banks[otherBank b] =
        if Config.bankSize ≤ s.banks[b].records.length + 1 ∧ s.banks[otherBank b].state = .free then
          Bank.startFilling else s.banks[otherBank b] := by
  have hne : b ≠ otherBank b := (otherBank_ne b).symm
  have hfilling := State.filling_of_fillingBank h
  obtain ⟨mark, hmark⟩ := testFillMark_bank b (s.onBank b fun k => { k with records := k.records ++ [r] })
  have hb := hmark b
  have ho := hmark (otherBank b)
  rw [if_pos rfl, State.onBank_banks_get, if_pos rfl] at hb
  rw [if_neg hne, State.onBank_banks_get, if_neg hne] at ho
  refine ⟨mark, ?_⟩
  unfold appendRecord
  rw [h]
  dsimp only
  generalize testFillMark b _ = t at hb ho
  have hlength : t.banks[b].records.length = s.banks[b].records.length + 1 := by rw [hb]; simp
  obtain ⟨hfull, hother⟩ := testBankFull_bank b t
  rw [hlength] at hfull hother
  rw [ho] at hother
  refine ⟨hfull.trans ?_, hother⟩
  rw [hb]
  split
  · rfl
  · rw [← hfilling]

theorem appendRecord_of_none {s : State} (r : ClosedRecord) (h : s.fillingBank = none) :
    appendRecord r s = s := by
  unfold appendRecord
  rw [h]

theorem appendRecord_bankLaw (r : ClosedRecord) {s : State} (h : s.bankLaw) : (appendRecord r s).bankLaw := by
  cases hf : s.fillingBank with
  | none => rwa [appendRecord_of_none r hf]
  | some b =>
    obtain ⟨⟨-, hroom, -⟩, hother, -⟩ := (s.bankLaw_iff b).mp h
    have hfilling := State.filling_of_fillingBank hf
    have hnot := State.other_not_filling h hfilling
    have hlt : s.banks[b].records.length < 32 := hroom hfilling
    obtain ⟨mark, hb, ho⟩ := appendRecord_bank r hf
    rw [State.bankLaw_iff _ b, hb, ho]
    by_cases hfull : Config.bankSize ≤ s.banks[b].records.length + 1
    · simp only [hfull, if_true, true_and]
      refine ⟨⟨nofun, nofun, fun _ => ⟨by simp, by rw [List.length_append]; exact hlt⟩⟩, ?_, fun hn => nomatch hn.1⟩
      split
      · exact ⟨fun _ => rfl, fun _ => by decide, nofun⟩
      · exact hother
    · simp only [hfull, if_false, false_and]
      refine ⟨⟨nofun, fun _ => ?_, nofun⟩, hother, fun hn => hnot hn.2⟩
      simpa using hfull

/-- An append raises the count of the bank that fills, modulo 32 (R117, R119). -/
theorem appendRecord_fillCount {s : State} {b : Fin 2} (r : ClosedRecord) (h : s.bankLaw)
    (hf : s.fillingBank = some b) : (appendRecord r s).fillCount = (s.fillCount + 1) % Config.bankSize := by
  have hfilling := State.filling_of_fillingBank hf
  have hnot := State.other_not_filling h hfilling
  obtain ⟨⟨-, hroom, -⟩, -, -⟩ := (s.bankLaw_iff b).mp h
  have hlt : s.banks[b].records.length < 32 := hroom hfilling
  obtain ⟨mark, hb, ho⟩ := appendRecord_bank r hf
  rw [State.fillCount_eq hf]
  by_cases hfull : Config.bankSize ≤ s.banks[b].records.length + 1
  · have hlast : s.banks[b].records.length + 1 = 32 := by
      have : 32 ≤ s.banks[b].records.length + 1 := hfull
      omega
    simp only [hfull, if_true, true_and] at hb ho
    rw [hlast, show 32 % Config.bankSize = 0 from rfl]
    have hbfull : (appendRecord r s).banks[b].state ≠ .filling := by rw [hb]; nofun
    by_cases hfree : s.banks[otherBank b].state = .free
    · rw [if_pos hfree] at ho
      have hother : (appendRecord r s).banks[otherBank b].state = .filling := by rw [ho]; rfl
      have hfill : (appendRecord r s).fillingBank = some (otherBank b) := by
        refine State.fillingBank_eq_some hother fun c hc => ?_
        have hcb : c = b := by
          by_contra hn
          exact hc (eq_otherBank hn)
        exact hcb ▸ hbfull
      rw [State.fillCount_eq hfill, ho]
      rfl
    · rw [if_neg hfree] at ho
      refine State.fillCount_of_none ((State.fillingBank_eq_none_iff _).mpr ((forall_banks b).mpr ⟨hbfull, ?_⟩))
      rw [ho]
      exact hnot
  · simp only [hfull, if_false, false_and] at hb ho
    have hbfilling : (appendRecord r s).banks[b].state = .filling := by rw [hb]
    have hother : (appendRecord r s).banks[otherBank b].state ≠ .filling := by rw [ho]; exact hnot
    rw [State.fillCount_eq (State.fillingBank_eq_some hbfilling fun c hc => eq_otherBank hc ▸ hother), hb]
    have hsmall : s.banks[b].records.length + 1 < 32 := by
      have : ¬32 ≤ s.banks[b].records.length + 1 := hfull
      omega
    exact (List.length_append).trans (Nat.mod_eq_of_lt hsmall).symm

/-! ### The end of a job (R123) -/

theorem sealBanks_bank {s : State} {b : Fin 2} (h : s.fillingBank = some b) :
    (sealBanks s).banks[otherBank b] = s.banks[otherBank b] ∧
    (sealBanks s).banks[b] = if s.banks[b].records.length = 0 then Bank.free
      else { s.banks[b] with state := .full } := by
  have hne : b ≠ otherBank b := (otherBank_ne b).symm
  unfold sealBanks
  rw [h]
  dsimp only
  split
  · rw [State.onBank_banks_get, if_neg hne, State.onBank_banks_get, if_pos rfl]
    exact ⟨rfl, rfl⟩
  · rw [State.raise_bank, State.raise_bank, State.onBank_banks_get, if_neg hne, State.onBank_banks_get,
      if_pos rfl]
    exact ⟨rfl, rfl⟩

theorem sealBanks_of_none {s : State} (h : s.fillingBank = none) : sealBanks s = s := by
  unfold sealBanks
  rw [h]

theorem sealBanks_bankLaw {s : State} (h : s.bankLaw) : (sealBanks s).bankLaw := by
  cases hf : s.fillingBank with
  | none => rwa [sealBanks_of_none hf]
  | some b =>
    obtain ⟨⟨-, hroom, -⟩, hother, -⟩ := (s.bankLaw_iff b).mp h
    have hlt := hroom (State.filling_of_fillingBank hf)
    obtain ⟨ho, hb⟩ := sealBanks_bank hf
    rw [State.bankLaw_iff _ b, hb, ho]
    split
    · exact ⟨⟨fun _ => rfl, nofun, nofun⟩, hother, fun hn => nomatch hn.1⟩
    · next hne => exact ⟨⟨nofun, nofun, fun _ => ⟨Nat.pos_of_ne_zero hne, hlt.le⟩⟩, hother, fun hn => nomatch hn.1⟩

/-- With the job closed no bank fills (R123). -/
theorem sealBanks_fillingBank {s : State} (h : s.bankLaw) : (sealBanks s).fillingBank = none := by
  cases hf : s.fillingBank with
  | none => rw [sealBanks_of_none hf, hf]
  | some b =>
    obtain ⟨ho, hb⟩ := sealBanks_bank hf
    refine (State.fillingBank_eq_none_iff _).mpr ((forall_banks b).mpr ⟨?_, ?_⟩)
    · rw [hb]
      split <;> nofun
    · rw [ho]
      exact State.other_not_filling h (State.filling_of_fillingBank hf)

/-! ### A bank put in its place (R116, R122) -/

/-- A bank that becomes FREE, or FILLING where no other fills, keeps the law. -/
theorem onBank_bankLaw {b : Fin 2} {k : Bank} {s : State} (hk : k.law)
    (hfill : k.state = .filling → s.banks[otherBank b].state ≠ .filling) (h : s.bankLaw) :
    (s.onBank b fun _ => k).bankLaw := by
  have hne : b ≠ otherBank b := (otherBank_ne b).symm
  obtain ⟨-, hother, -⟩ := (s.bankLaw_iff b).mp h
  rw [State.bankLaw_iff _ b, State.onBank_banks_get, if_pos rfl, State.onBank_banks_get, if_neg hne]
  exact ⟨hk, hother, fun hn => hfill hn.1 hn.2⟩

theorem Bank.free_law : Bank.free.law := ⟨fun _ => rfl, nofun, nofun⟩

theorem Bank.startFilling_law : Bank.startFilling.law := ⟨nofun, fun _ => by decide, nofun⟩

end Sys2Proof.Machine
end

section
/-! Every step keeps the law of the banks and of the recorder over them (R98, R108, R114), and with them all
laws of the stores. -/

namespace Sys2Proof.Machine

/-! ### What the laws read -/

/-- What the laws of the banks and of the recorder read of a state. -/
structure Records where
  extending : Bool
  number : Option Nat
  closed : Nat
  banks : Vector Bank 2
  job : JobState
  closingInterval : Bool

def State.records (s : State) : Records where
  extending := s.recorder.extending
  number := s.recorder.interval.map Interval.number
  closed := s.recorder.closedCount
  banks := s.banks
  job := s.job.state
  closingInterval := s.job.closingInterval

theorem State.bankLaw_of_banks {s t : State} (h : t.banks = s.banks) (hs : s.bankLaw) : t.bankLaw := by
  unfold State.bankLaw
  rwa [h]

theorem State.fillingBank_congr {s t : State} (h : t.banks = s.banks) : t.fillingBank = s.fillingBank := by
  unfold State.fillingBank
  rw [h]

theorem State.fillCount_congr {s t : State} (h : t.banks = s.banks) : t.fillCount = s.fillCount := by
  unfold State.fillCount
  rw [State.fillingBank_congr h, h]

theorem State.jobInProgress_congr {s t : State} (h : t.job.state = s.job.state) :
    t.jobInProgress = s.jobInProgress := by
  unfold State.jobInProgress
  rw [h]

/-- The law of the recorder, in the named count of the bank that fills. -/
theorem State.recorderLaw_iff (s : State) : s.recorderLaw ↔
    (s.recorder.extending = true ↔ s.recorder.interval.isSome = true ∧ s.fillingBank = none) ∧
    (s.job.state = .opened ∨ s.job.state = .suspended → s.recorder.extending = false →
      s.fillingBank.isSome = true) ∧
    (∀ n, s.recorder.interval.map Interval.number = some n →
      n = s.recorder.closedCount + 1 ∧ s.recorder.closedCount < Config.maxIntervals) ∧
    (s.jobInProgress = false → s.recorder.interval = none ∧ s.fillingBank = none) ∧
    (s.job.closingInterval = true → s.recorder.interval = none) ∧
    (s.jobInProgress = true → s.recorder.closedCount % Config.bankSize = s.fillCount) := by
  unfold State.recorderLaw
  have hnumber : (∀ i, s.recorder.interval = some i →
      i.number = s.recorder.closedCount + 1 ∧ s.recorder.closedCount < Config.maxIntervals) ↔
      ∀ n, s.recorder.interval.map Interval.number = some n →
        n = s.recorder.closedCount + 1 ∧ s.recorder.closedCount < Config.maxIntervals := by
    cases s.recorder.interval <;> simp
  rw [hnumber]
  rfl

theorem State.recorderLaw_of_records {s t : State} (h : t.records = s.records) (hs : s.recorderLaw) :
    t.recorderLaw := by
  obtain ⟨hext, hnumber, hclosed, hbanks, hjob, hclosing⟩ := Records.mk.inj h
  have hfill := State.fillingBank_congr hbanks
  have hcount := State.fillCount_congr hbanks
  have hprogress := State.jobInProgress_congr hjob
  have hsome : t.recorder.interval.isSome = s.recorder.interval.isSome := by
    simpa using congrArg Option.isSome hnumber
  have hnone : t.recorder.interval = none ↔ s.recorder.interval = none := by
    rw [← Option.map_eq_none_iff (f := Interval.number), hnumber, Option.map_eq_none_iff]
  rw [State.recorderLaw_iff] at hs ⊢
  rwa [hext, hnumber, hclosed, hjob, hclosing, hfill, hcount, hprogress, hsome, hnone]

/-- The laws of the banks and of the recorder pass from one state to another. -/
def State.keepsRecords (s t : State) : Prop :=
  (s.bankLaw → t.bankLaw) ∧ (s.bankLaw → s.recorderLaw → t.recorderLaw)

theorem State.keepsRecords.refl {s : State} : s.keepsRecords s := ⟨id, fun _ => id⟩

theorem State.keepsRecords.trans {s t u : State} (h : s.keepsRecords t) (h' : t.keepsRecords u) :
    s.keepsRecords u :=
  ⟨fun hb => h'.1 (h.1 hb), fun hb hr => h'.2 (h.1 hb) (h.2 hb hr)⟩

theorem State.keepsRecords.of_records {s t : State} (h : t.records = s.records) : s.keepsRecords t :=
  ⟨State.bankLaw_of_banks (congrArg Records.banks h), fun _ => State.recorderLaw_of_records h⟩

/-- An event that leaves recorder, banks and meter. -/
theorem State.keepsRecords.of_keeps {l : List Block} {s t : State} (h : keepsAllBut l s t)
    (hl : .recorder ∉ l ∧ .banks ∉ l ∧ .billing ∉ l) : s.keepsRecords t := by
  obtain ⟨hrecorder, hbanks, hbilling⟩ := hl
  have hr : t.recorder = s.recorder := h .recorder hrecorder
  have hb : t.banks = s.banks := h .banks hbanks
  have hj : t.billing = s.billing := h .billing hbilling
  refine .of_records ?_
  unfold State.records State.job
  rw [hr, hb, hj]

/-- A change of an open interval that keeps its number. -/
theorem onInterval_keepsRecords (f : Interval → Interval) (s : State) (hf : ∀ i, (f i).number = i.number) :
    s.keepsRecords (s.onInterval f) := by
  refine .of_records ?_
  unfold State.records State.onInterval
  simp only [State.onRecorder_recorder, State.onRecorder_banks, State.onRecorder_job, Option.map_map]
  have hnumber : (Interval.number ∘ f) = Interval.number := funext hf
  rw [hnumber]

theorem handUncertain_keepsRecords (changed : Bool) (s : State) :
    s.keepsRecords (handUncertain changed s) := by
  unfold handUncertain markDepthUncertain
  split
  · exact onInterval_keepsRecords _ s fun _ => rfl
  · exact .refl

/-! ### Closing and opening (R98, R106 to R108) -/

/-- The recorder between the close of an interval and the opening of the next. -/
structure State.BetweenIntervals (s : State) : Prop where
  banks : s.bankLaw
  interval : s.recorder.interval = none
  extending : s.recorder.extending = false
  closed : s.recorder.closedCount ≤ Config.maxIntervals
  job : s.jobInProgress = true
  goesOn : s.job.closingInterval = false
  count : s.recorder.closedCount % Config.bankSize = s.fillCount

/-- What the laws say of an open interval that can close. -/
theorem State.recorderLaw_open {s : State} {i : Interval} (h : s.recorderLaw)
    (hi : s.recorder.interval = some i) : s.jobInProgress = true ∧ s.job.closingInterval = false ∧
      s.recorder.closedCount < Config.maxIntervals ∧
      s.recorder.closedCount % Config.bankSize = s.fillCount := by
  obtain ⟨-, -, hnumber, hidle, hclosing, hcount⟩ := s.recorderLaw_iff.mp h
  have hjob : s.jobInProgress = true := by
    by_contra hn
    rw [(hidle (by simpa using hn)).1] at hi
    cases hi
  refine ⟨hjob, ?_, (hnumber i.number (by rw [hi]; rfl)).2, hcount hjob⟩
  by_contra hn
  rw [hclosing (by simpa using hn)] at hi
  cases hi

theorem State.filling_of_not_extending {s : State} {i : Interval} (h : s.recorderLaw)
    (hi : s.recorder.interval = some i) (hext : s.recorder.extending = false) :
    ∃ b, s.fillingBank = some b := by
  obtain ⟨hextending, -⟩ := s.recorderLaw_iff.mp h
  rw [hext, hi] at hextending
  rw [← Option.ne_none_iff_exists']
  intro hnone
  exact absurd (hextending.mpr ⟨rfl, hnone⟩) nofun

theorem handOnRecord_recorder (r : ClosedRecord) (s : State) : (handOnRecord r s).recorder =
    { s.recorder with interval := none, currentClass := r.cls, closedCount := s.recorder.closedCount + 1 } := by
  have happend : (appendRecord r s).recorder = s.recorder := appendRecord_keeps r s .recorder (by decide)
  unfold handOnRecord
  dsimp only [State.onRecorder_recorder]
  split
  · rw [billFootage_keeps _ _ _ _ .recorder (by decide), happend]
  · rw [happend]

theorem handOnRecord_banks (r : ClosedRecord) (s : State) :
    (handOnRecord r s).banks = (appendRecord r s).banks := by
  unfold handOnRecord
  dsimp only [State.onRecorder_banks]
  split
  · exact billFootage_keeps _ _ _ _ .banks (by decide)
  · rfl

theorem handOnRecord_bankLaw (r : ClosedRecord) {s : State} (h : s.bankLaw) : (handOnRecord r s).bankLaw :=
  State.bankLaw_of_banks (handOnRecord_banks r s) (appendRecord_bankLaw r h)

theorem closeInterval_bankLaw (bottom : Int) (added : FlagSet) {s : State} (h : s.bankLaw) :
    (closeInterval bottom added s).bankLaw := by
  unfold closeInterval
  split
  · exact handOnRecord_bankLaw _ h
  · exact h

/-- An open interval closes into the bank that fills (R106). -/
theorem closeInterval_between (bottom : Int) (added : FlagSet) {s : State} {i : Interval} (hb : s.bankLaw)
    (hr : s.recorderLaw) (hi : s.recorder.interval = some i) (hext : s.recorder.extending = false) :
    (closeInterval bottom added s).BetweenIntervals := by
  obtain ⟨hjob, hgoes, hclosed, hcount⟩ := State.recorderLaw_open hr hi
  obtain ⟨b, hfill⟩ := State.filling_of_not_extending hr hi hext
  unfold closeInterval
  rw [hi]
  dsimp only
  generalize closedRecord _ bottom s = r
  have hrecorder := handOnRecord_recorder r s
  obtain ⟨mark, hjob'⟩ := handOnRecord_job r s
  refine ⟨handOnRecord_bankLaw r hb, by rw [hrecorder], by rw [hrecorder]; exact hext,
    by rw [hrecorder]; exact hclosed, ?_, by rw [hjob']; exact hgoes, ?_⟩
  · exact (State.jobInProgress_congr (by rw [hjob'])).trans hjob
  · rw [hrecorder, State.fillCount_congr (handOnRecord_banks r s), appendRecord_fillCount r hb hfill, ← hcount]
    exact (Nat.mod_add_mod _ _ _).symm

theorem discardInterval_between {s : State} {i : Interval} (hb : s.bankLaw) (hr : s.recorderLaw)
    (hi : s.recorder.interval = some i) (hext : s.recorder.extending = false) :
    (discardInterval s).BetweenIntervals := by
  obtain ⟨hjob, hgoes, hclosed, hcount⟩ := State.recorderLaw_open hr hi
  exact ⟨hb, rfl, hext, hclosed.le, hjob, hgoes, hcount⟩

theorem testOverdue_records (s : State) : (testOverdue s).records = s.records := by
  unfold testOverdue
  split
  · split <;> rfl
  · rfl

/-- The extension test completes the law after an opening: the recorder extends where no bank is FILLING
(R106 step 4, R108). -/
theorem testExtension_recorderLaw {s : State} (hext : s.recorder.extending = false)
    (hnumber : ∀ n, s.recorder.interval.map Interval.number = some n →
      n = s.recorder.closedCount + 1 ∧ s.recorder.closedCount < Config.maxIntervals)
    (hjob : s.jobInProgress = true) (hgoes : s.job.closingInterval = false)
    (hcount : s.recorder.closedCount % Config.bankSize = s.fillCount)
    (hlast : s.recorder.interval = none → s.fillingBank.isSome = true) : (testExtension s).recorderLaw := by
  have hidle : ∀ {P : Prop}, s.jobInProgress = false → P := fun h => absurd (h.symm.trans hjob) nofun
  have hclosing : ∀ {P : Prop}, s.job.closingInterval = true → P := fun h => absurd (h.symm.trans hgoes) nofun
  unfold testExtension
  split
  · next i hi =>
    split
    · next h =>
      refine State.recorderLaw_of_records (testOverdue_records _) ((State.recorderLaw_iff _).mpr ?_)
      exact ⟨iff_of_true rfl ⟨congrArg Option.isSome hi, h.1⟩, fun _ => nofun, hnumber, fun h => hidle h,
        fun h => hclosing h, fun _ => hcount⟩
    · next h =>
      have hfill : s.fillingBank ≠ none := fun hnone => h ⟨hnone, hext⟩
      exact (State.recorderLaw_iff _).mpr ⟨iff_of_false (by rw [hext]; nofun) fun h => hfill h.2,
        fun _ _ => Option.isSome_iff_ne_none.mpr hfill, hnumber, fun h => hidle h, fun h => hclosing h,
        fun _ => hcount⟩
  · next hi =>
    have hopen : ¬s.recorder.interval.isSome = true := by rw [hi]; nofun
    exact (State.recorderLaw_iff _).mpr ⟨iff_of_false (by rw [hext]; nofun) fun h => hopen h.1,
      fun _ _ => hlast hi, hnumber, fun h => hidle h, fun h => hclosing h, fun _ => hcount⟩

/-- After the 65535th close no interval opens, and the bank that fills then holds 31 records (R98). -/
theorem State.BetweenIntervals.filling {s : State} (h : s.BetweenIntervals)
    (hmax : ¬s.recorder.closedCount < Config.maxIntervals) : s.fillingBank.isSome = true := by
  have hlast : s.recorder.closedCount = 65535 := le_antisymm h.closed (not_lt.mp hmax)
  have hcount := h.count
  by_contra hfill
  rw [hlast, State.fillCount_of_none (by simpa using hfill)] at hcount
  exact absurd hcount (by decide)

theorem openInterval_interval (top : Int) (corrected : Bool) (s : State) :
    (openInterval top corrected s).recorder.interval =
      if s.recorder.closedCount < Config.maxIntervals then some (newInterval top corrected s) else none := rfl

/-- An interval opens where another has closed (R106 step 4). -/
theorem reopen_recorderLaw (top : Int) (corrected : Bool) {s : State} (h : s.BetweenIntervals) :
    (reopen top corrected s).recorderLaw := by
  have hinterval := openInterval_interval top corrected s
  refine testExtension_recorderLaw h.extending (fun n hn => ?_) h.job h.goesOn h.count fun hnone => ?_
  · rw [hinterval] at hn
    split at hn
    · next hmax =>
      cases hn
      exact ⟨rfl, hmax⟩
    · cases hn
  · rw [hinterval] at hnone
    split at hnone
    · cases hnone
    · next hmax => exact h.filling hmax

theorem reopen_bankLaw (top : Int) (corrected : Bool) {s : State} (h : s.bankLaw) :
    (reopen top corrected s).bankLaw :=
  State.bankLaw_of_banks (reopen_keeps top corrected s .banks (by decide)) h

theorem boundaryLoop_keepsRecords (n : Nat) (s : State) : s.keepsRecords (boundaryLoop n s) := by
  induction n generalizing s with
  | zero => exact .refl
  | succ n ih =>
    unfold boundaryLoop
    split
    · next i hat =>
      refine State.keepsRecords.trans ⟨fun hb => ?_, fun hb hr => ?_⟩ (ih _)
      · exact reopen_bankLaw _ _ (closeInterval_bankLaw _ _ hb)
      · unfold atBoundary at hat
        split at hat
        · next j hj =>
          split at hat
          · next hopen => exact reopen_recorderLaw _ _ (closeInterval_between _ _ hb hr hj hopen.1)
          · cases hat
        · cases hat
    · exact .refl

theorem boundaryCheck_keepsRecords (s : State) : s.keepsRecords (boundaryCheck s) :=
  boundaryLoop_keepsRecords _ s

theorem react_keepsRecords (s : State) : s.keepsRecords (react s) := by
  have hadvance : s.keepsRecords (advanceHole s) := by
    unfold advanceHole onHoleAdvance
    split
    · refine State.keepsRecords.trans ?_ (boundaryCheck_keepsRecords _)
      exact .of_records (testOverdue_records _)
    · exact .refl
  exact hadvance.trans (.of_keeps (reindicate_keeps _) (by decide))

/-- An event that leaves recorder, banks and meter and ends in the depth unit's tests. -/
theorem react_keepsRecords_of {l : List Block} {s t : State} (h : keepsAllBut l s t)
    (hl : .recorder ∉ l ∧ .banks ∉ l ∧ .billing ∉ l) : s.keepsRecords (react t) :=
  (State.keepsRecords.of_keeps h hl).trans (react_keepsRecords t)

theorem onCorrection_keepsRecords (oldD newD : Int) {s : State} (hext : s.recorder.extending = false) :
    s.keepsRecords (onCorrection oldD newD s) := by
  unfold onCorrection
  split
  · next i hi =>
    split
    · exact .refl
    · refine State.keepsRecords.trans ?_ (boundaryCheck_keepsRecords _)
      split
      · exact ⟨fun hb => reopen_bankLaw _ _ (closeInterval_bankLaw _ _ hb),
          fun hb hr => reopen_recorderLaw _ _ (closeInterval_between _ _ hb hr hi hext)⟩
      · exact ⟨fun hb => reopen_bankLaw _ _ hb,
          fun hb hr => reopen_recorderLaw _ _ (discardInterval_between hb hr hi hext)⟩
  · exact .refl

end Sys2Proof.Machine
end

section
/-! The banks and the recorder at the ends of a job and of an extension (R109 to R111, R122, R123). -/

namespace Sys2Proof.Machine

/-- The law with no interval open: between jobs, and once the closing interval is closed. -/
theorem State.recorderLaw_of_closed {s : State} (hinterval : s.recorder.interval = none)
    (hext : s.recorder.extending = false)
    (hfilling : s.job.state = .opened ∨ s.job.state = .suspended → s.fillingBank.isSome = true)
    (hidle : s.jobInProgress = false → s.fillingBank = none)
    (hcount : s.jobInProgress = true → s.recorder.closedCount % Config.bankSize = s.fillCount) :
    s.recorderLaw := by
  have hopen : ¬s.recorder.interval.isSome = true := by rw [hinterval]; nofun
  refine (State.recorderLaw_iff _).mpr ⟨iff_of_false (by rw [hext]; nofun) fun h => hopen h.1,
    fun h _ => hfilling h, fun n hn => ?_, fun h => ⟨hinterval, hidle h⟩, fun _ => hinterval, hcount⟩
  rw [hinterval] at hn
  cases hn

theorem State.not_extending_of_closed {s : State} (h : s.recorderLaw) (hi : s.recorder.interval = none) :
    s.recorder.extending = false := by
  obtain ⟨hext, -⟩ := s.recorderLaw_iff.mp h
  by_contra hn
  have hsome := (hext.mp (by simpa using hn)).1
  rw [hi] at hsome
  cases hsome

theorem State.jobInProgress_of {s : State} {st : JobState} (h : s.job.state = st)
    (hst : st = .opened ∨ st = .suspended ∨ st = .closing) : s.jobInProgress = true := by
  unfold State.jobInProgress
  rw [h]
  rcases hst with rfl | rfl | rfl <;> rfl

/-! ### Tickets (R145 to R149) -/

theorem issueTicket_ordinary_keepsRecords (s : State) : s.keepsRecords (issueTicket false s) :=
  .of_records rfl

/-- The final ticket closes the job and seals the bank that fills (R123, R149). -/
theorem issueTicket_final_keepsRecords {s : State} (hclosing : s.job.closingInterval = true) :
    s.keepsRecords (issueTicket true s) := by
  have hseal : ∃ u : State, issueTicket true s = sealBanks u ∧ u.banks = s.banks ∧ u.recorder = s.recorder ∧
      u.job.state = .closed := ⟨_, rfl, rfl, rfl, rfl⟩
  obtain ⟨u, hu, hbanks, hrecorder, hclosed⟩ := hseal
  rw [hu]
  have hr : (sealBanks u).recorder = s.recorder := (sealBanks_keeps u .recorder (by decide)).trans hrecorder
  have hj : (sealBanks u).job.state = .closed := by
    unfold State.job
    rw [sealBanks_keeps u .billing (by decide)]
    exact hclosed
  have hidle : (sealBanks u).jobInProgress = false := by
    unfold State.jobInProgress
    rw [hj]
    rfl
  refine ⟨fun hb => sealBanks_bankLaw (State.bankLaw_of_banks hbanks hb), fun hb hlaw => ?_⟩
  obtain ⟨-, -, -, -, hnone, -⟩ := s.recorderLaw_iff.mp hlaw
  have hinterval := hnone hclosing
  refine State.recorderLaw_of_closed (by rw [hr]; exact hinterval)
    (by rw [hr]; exact State.not_extending_of_closed hlaw hinterval) (by rw [hj]; nofun)
    (fun _ => sealBanks_fillingBank (State.bankLaw_of_banks hbanks hb)) (by rw [hidle]; nofun)

theorem ticketDue_ordinary_keepsRecords (s : State) : s.keepsRecords (ticketDue false s) := by
  unfold ticketDue
  split
  · exact issueTicket_ordinary_keepsRecords s
  · exact .of_records rfl

theorem finalTicketIfDue_keepsRecords (s : State) : s.keepsRecords (finalTicketIfDue s) := by
  unfold finalTicketIfDue
  split
  · next h =>
    unfold ticketDue
    split
    · exact issueTicket_final_keepsRecords h.2
    · exact .of_records rfl
  · exact .refl

theorem takeCadence_keepsRecords (s : State) : s.keepsRecords (takeCadence s) := by
  have hcleared : s.keepsRecords (s.onBilling fun b => { b with cadencePending := false }) := .of_records rfl
  unfold takeCadence
  split
  · dsimp only
    split
    · exact hcleared.trans (ticketDue_ordinary_keepsRecords _)
    · exact hcleared
  · exact .refl

theorem meterSecond_keepsRecords (s : State) : s.keepsRecords (meterSecond s) := by
  unfold meterSecond
  split
  · refine State.keepsRecords.trans ?_ (takeCadence_keepsRecords _)
    exact .of_records rfl
  · exact .refl

theorem afterRelease_keepsRecords (s : State) : s.keepsRecords (afterRelease s) := by
  unfold afterRelease
  split
  · split
    · exact issueTicket_ordinary_keepsRecords s
    · exact issueTicket_ordinary_keepsRecords s
    · split
      · next hclosing => exact issueTicket_final_keepsRecords hclosing
      · exact .refl
    · exact .refl
  · exact .refl

/-! ### The close at the end of a job (R111) -/

theorem closeForJob_bankLaw (added : FlagSet) {s : State} (h : s.bankLaw) : (closeForJob added s).bankLaw := by
  unfold closeForJob
  split
  · split
    · exact State.bankLaw_of_banks rfl (closeInterval_bankLaw _ _ h)
    · exact State.bankLaw_of_banks rfl h
  · exact State.bankLaw_of_banks rfl h

theorem closeInterval_closedCount (bottom : Int) (added : FlagSet) {s : State} {i : Interval}
    (hi : s.recorder.interval = some i) :
    (closeInterval bottom added s).recorder.closedCount = s.recorder.closedCount + 1 := by
  unfold closeInterval
  rw [hi]
  dsimp only
  rw [handOnRecord_recorder]

/-- What the close at the end of a job leaves of a job in progress that does not extend. -/
theorem closeForJob_closed (added : FlagSet) {s : State} (hb : s.bankLaw) (hr : s.recorderLaw)
    (hjob : s.jobInProgress = true) (hext : s.recorder.extending = false) :
    (closeForJob added s).recorder.interval = none ∧ (closeForJob added s).recorder.extending = false ∧
    (closeForJob added s).recorder.closedCount % Config.bankSize = (closeForJob added s).fillCount := by
  obtain ⟨-, -, -, -, -, hcount⟩ := s.recorderLaw_iff.mp hr
  unfold closeForJob
  split
  · next i hi =>
    split
    · have h := closeInterval_between s.depth.hole (flagPartial ||| added) hb hr hi hext
      exact ⟨h.interval, h.extending, h.count⟩
    · have h := discardInterval_between hb hr hi hext
      exact ⟨h.interval, h.extending, h.count⟩
  · next hi => exact ⟨hi, hext, hcount hjob⟩

/-- A close with a new bank leaves that bank FILLING. -/
theorem closeForJob_filling (added : FlagSet) {s : State} {i : Interval} (hb : s.bankLaw) (hr : s.recorderLaw)
    (hi : s.recorder.interval = some i) (hext : s.recorder.extending = false) (hnew : s.fillCount = 0) :
    (closeForJob added s).fillingBank.isSome = true := by
  obtain ⟨-, -, -, hcount⟩ := State.recorderLaw_open hr hi
  obtain ⟨b, hfill⟩ := State.filling_of_not_extending hr hi hext
  unfold closeForJob
  rw [hi]
  dsimp only
  split
  · have h := (closeInterval_between s.depth.hole (flagPartial ||| added) hb hr hi hext).count
    rw [closeInterval_closedCount _ _ hi] at h
    change (closeInterval s.depth.hole (flagPartial ||| added) s).fillingBank.isSome = true
    by_contra hn
    rw [State.fillCount_of_none (by simpa using hn), Nat.add_mod, hcount, hnew] at h
    exact absurd h (by decide)
  · exact Option.isSome_iff_exists.mpr ⟨b, hfill⟩

/-- JOB CLOSE at the recorder and at the job state (R111, R130). -/
theorem jobClose_keepsRecords {s : State} (hjob : s.job.state = .opened ∨ s.job.state = .suspended) :
    s.keepsRecords ((recorderJobClose s).onJob fun j => { j with state := .closing }) := by
  have hprogress : s.jobInProgress = true := by
    rcases hjob with h | h <;> exact State.jobInProgress_of h (by simp)
  have hclosing : ∀ u : State, (u.onJob fun j => { j with state := .closing }).jobInProgress = true :=
    fun u => State.jobInProgress_of (st := .closing) rfl (by simp)
  unfold recorderJobClose
  split
  · refine ⟨State.bankLaw_of_banks rfl, fun hb hr => ?_⟩
    obtain ⟨hext, -, hnumber, -, hlast, hcount⟩ := s.recorderLaw_iff.mp hr
    exact (State.recorderLaw_iff _).mpr ⟨hext, nofun, hnumber,
      fun h => absurd (h.symm.trans (hclosing _)) nofun, hlast, fun _ => hcount hprogress⟩
  · next hext =>
    refine ⟨fun hb => State.bankLaw_of_banks rfl (closeForJob_bankLaw 0 hb), fun hb hr => ?_⟩
    obtain ⟨hinterval, hext', hcount⟩ := closeForJob_closed 0 hb hr hprogress (by simpa using hext)
    exact State.recorderLaw_of_closed hinterval hext' nofun
      (fun h => absurd (h.symm.trans (hclosing _)) nofun) fun _ => hcount

/-! ### The end of an extension and the release of a bank (R109, R122) -/

theorem endExtension_bankLaw {s : State} (h : s.bankLaw) : (endExtension s).bankLaw := by
  unfold endExtension
  dsimp only
  split
  · exact (finalTicketIfDue_keepsRecords _).1 (closeForJob_bankLaw _ (State.bankLaw_of_banks rfl h))
  · split
    · split
      · refine (boundaryCheck_keepsRecords _).1 (reopen_bankLaw _ _ (closeInterval_bankLaw _ _ ?_))
        exact State.bankLaw_of_banks rfl h
      · exact State.bankLaw_of_banks rfl h
    · exact (boundaryCheck_keepsRecords _).1 (State.bankLaw_of_banks rfl h)

/-- A bank to fill ends the extension: the recorder that no longer extends is lawful, and each arm of R109
keeps that. -/
theorem endExtension_recorderLaw {s u : State} {i : Interval} (hi : s.recorder.interval = some i)
    (hu : u = s.onRecorder fun r => { r with extending := false, overdue := false })
    (hb : u.bankLaw) (hr : u.recorderLaw) (hnew : u.fillCount = 0) : (endExtension s).recorderLaw := by
  have hui : u.recorder.interval = some i := by rw [hu]; exact hi
  have hext : u.recorder.extending = false := by rw [hu]; rfl
  unfold endExtension
  dsimp only
  rw [← hu]
  split
  · generalize flagIf s.recorder.overdue flagExtended = added
    obtain ⟨hprogress, -⟩ := State.recorderLaw_open hr hui
    obtain ⟨hinterval, hext', hcount⟩ := closeForJob_closed added hb hr hprogress hext
    obtain ⟨mark, hjob⟩ := closeForJob_job added u
    have hsame : (closeForJob added u).jobInProgress = true :=
      (State.jobInProgress_congr (by rw [hjob])).trans hprogress
    refine (finalTicketIfDue_keepsRecords (closeForJob added u)).2 (closeForJob_bankLaw added hb) ?_
    exact State.recorderLaw_of_closed hinterval hext'
      (fun _ => closeForJob_filling added hb hr hui hext hnew)
      (fun h => absurd (h.symm.trans hsame) nofun) fun _ => hcount
  · split
    · rw [hi]
      dsimp only
      have hbetween := closeInterval_between (extensionBottom i s) flagExtended hb hr hui hext
      exact (boundaryCheck_keepsRecords _).2 (reopen_bankLaw _ false hbetween.banks)
        (reopen_recorderLaw _ false hbetween)
    · exact (boundaryCheck_keepsRecords u).2 hb hr

/-- With one bank set apart, the other one decides which bank fills. -/
theorem State.fillingBank_of_not {s : State} {b : Fin 2} (h : s.banks[b].state ≠ .filling) :
    s.fillingBank = if s.banks[otherBank b].state = .filling then some (otherBank b) else none := by
  split
  · next ho =>
    refine State.fillingBank_eq_some ho fun c hc => ?_
    have hcb : c = b := by_contra fun hn => hc (eq_otherBank hn)
    exact hcb ▸ h
  · next ho => exact s.fillingBank_eq_none_iff.mpr ((forall_banks b).mpr ⟨h, ho⟩)

theorem State.recorderLaw_of_filling {s t : State} (hrecorder : t.recorder = s.recorder)
    (hbilling : t.billing = s.billing) (hfill : t.fillingBank = s.fillingBank) (hcount : t.fillCount = s.fillCount)
    (h : s.recorderLaw) : t.recorderLaw := by
  have hjob : t.job = s.job := congrArg Billing.job hbilling
  have hprogress := State.jobInProgress_congr (congrArg Job.state hjob)
  rw [State.recorderLaw_iff] at h ⊢
  rwa [hrecorder, hjob, hfill, hcount, hprogress]

/-- A FULL bank that becomes FREE leaves the bank that fills (R122). -/
theorem freeBank_keepsRecords {b : Fin 2} {s : State} (hfull : s.banks[b].state = .full) :
    s.keepsRecords (s.onBank b fun _ => Bank.free) := by
  have hfree : (s.onBank b fun _ => Bank.free).banks[b].state ≠ .filling := by
    rw [State.onBank_banks_get, if_pos rfl]
    nofun
  have hother : (s.onBank b fun _ => Bank.free).banks[otherBank b] = s.banks[otherBank b] := by
    rw [State.onBank_banks_get, if_neg (otherBank_ne b).symm]
  have hfill : (s.onBank b fun _ => Bank.free).fillingBank = s.fillingBank := by
    rw [State.fillingBank_of_not hfree, State.fillingBank_of_not (b := b) (by rw [hfull]; nofun), hother]
  refine ⟨onBank_bankLaw Bank.free_law nofun, fun _ => State.recorderLaw_of_filling rfl rfl hfill ?_⟩
  cases hs : s.fillingBank with
  | none => rw [State.fillCount_of_none (hfill.trans hs), State.fillCount_of_none hs]
  | some c =>
    have hc : c = otherBank b := eq_otherBank fun hcb => by
      have := State.filling_of_fillingBank hs
      rw [hcb, hfull] at this
      cases this
    rw [State.fillCount_eq (hfill.trans hs), State.fillCount_eq hs, hc, hother]

/-- With no bank FILLING a bank becomes the one that fills, with no records (R116, R122). -/
theorem startFilling_bankLaw {b : Fin 2} {s : State} (hb : s.bankLaw) (hnone : s.fillingBank = none) :
    (s.onBank b fun _ => Bank.startFilling).bankLaw :=
  onBank_bankLaw Bank.startFilling_law (fun _ => s.fillingBank_eq_none_iff.mp hnone _) hb

theorem startFilling_fillingBank {b : Fin 2} {s : State} (hnone : s.fillingBank = none) :
    (s.onBank b fun _ => Bank.startFilling).fillingBank = some b := by
  refine State.fillingBank_eq_some (by rw [State.onBank_banks_get, if_pos rfl]; rfl) fun c hc => ?_
  rw [State.onBank_banks_get, if_neg (Ne.symm hc)]
  exact s.fillingBank_eq_none_iff.mp hnone c

theorem startFilling_fillCount {b : Fin 2} {s : State} (hnone : s.fillingBank = none) :
    (s.onBank b fun _ => Bank.startFilling).fillCount = 0 := by
  rw [State.fillCount_eq (startFilling_fillingBank hnone), State.onBank_banks_get, if_pos rfl]
  rfl

/-- A job in progress takes a bank to fill (R122), and an extension ends with it (R109). -/
theorem refill_recorderLaw {b : Fin 2} {s : State} {extending : Bool} (hb : s.bankLaw) (hr : s.recorderLaw)
    (hnone : s.fillingBank = none) (hjob : s.jobInProgress = true) (he : s.recorder.extending = extending) :
    (if extending then endExtension (s.onBank b fun _ => Bank.startFilling)
      else s.onBank b fun _ => Bank.startFilling).recorderLaw := by
  have hfill := startFilling_fillingBank (b := b) hnone
  have hnew := startFilling_fillCount (b := b) hnone
  have hbank := startFilling_bankLaw (b := b) hb hnone
  obtain ⟨hext, -, hnumber, -, hlast, hcount⟩ := s.recorderLaw_iff.mp hr
  have hzero : s.recorder.closedCount % Config.bankSize = 0 :=
    (hcount hjob).trans (State.fillCount_of_none hnone)
  have hbusy : ∀ {P : Prop}, s.jobInProgress = false → P := fun h => absurd (h.symm.trans hjob) nofun
  subst he
  split
  · next hextending =>
    obtain ⟨i, hi⟩ := Option.isSome_iff_exists.mp (hext.mp hextending).1
    refine endExtension_recorderLaw (i := i) hi rfl (State.bankLaw_of_banks rfl hbank)
      ((State.recorderLaw_iff _).mpr ⟨?_, ?_, hnumber, fun h => hbusy h, hlast, fun _ => hzero.trans hnew.symm⟩)
      hnew
    · exact iff_of_false nofun fun h => by cases h.2.symm.trans hfill
    · exact fun _ _ => congrArg Option.isSome hfill
  · next hextending =>
    have hinterval : s.recorder.interval = none := by
      by_contra hn
      exact hextending (hext.mpr ⟨Option.isSome_iff_ne_none.mpr hn, hnone⟩)
    exact State.recorderLaw_of_closed hinterval (by simpa using hextending)
      (fun _ => congrArg Option.isSome hfill) (fun h => hbusy h) fun _ => hzero.trans hnew.symm

/-- A released bank takes its place as FREE or FILLING (R122). -/
theorem releaseFullBank_keepsRecords {b : Fin 2} {s : State} (hfull : s.banks[b].state = .full) :
    s.keepsRecords (releaseFullBank b s) := by
  refine (freeBank_keepsRecords hfull).trans ?_
  unfold releaseFullBank
  dsimp only
  split
  · next h =>
    refine ⟨fun hb => ?_, fun hb hr => refill_recorderLaw hb hr h.1 h.2 rfl⟩
    split
    · exact endExtension_bankLaw (startFilling_bankLaw hb h.1)
    · exact startFilling_bankLaw hb h.1
  · exact .refl

/-! ### JOB OPEN (R110, R116) -/

theorem jobOpen_keepsRecords (number customer : Nat) {s : State} (hfree : ∀ c : Fin 2, s.banks[c].state = .free) :
    s.keepsRecords (recorderJobOpen ((openJob number customer s).onBank 0 fun _ => Bank.startFilling)) := by
  have hnone : (openJob number customer s).fillingBank = none :=
    (State.fillingBank_eq_none_iff _).mpr fun c hc => by
      have h : s.banks[c].state = .filling := hc
      rw [hfree c] at h
      cases h
  have hfill := startFilling_fillingBank (b := 0) hnone
  have hnew := startFilling_fillCount (b := 0) hnone
  refine ⟨fun hb => ?_, fun _ _ => (State.recorderLaw_iff _).mpr ⟨?_, ?_, ?_, nofun, nofun, fun _ => hnew.symm⟩⟩
  · exact State.bankLaw_of_banks rfl (startFilling_bankLaw (State.bankLaw_of_banks rfl hb) hnone)
  · exact iff_of_false nofun fun h => by cases h.2.symm.trans hfill
  · exact fun _ _ => congrArg Option.isSome hfill
  · intro n hn
    cases hn
    exact ⟨rfl, (by decide : 0 < Config.maxIntervals)⟩

end Sys2Proof.Machine
end

section
/-! The laws of the banks and of the recorder over all events, and that every step keeps the laws of the
stores. -/

namespace Sys2Proof.Machine

/-! ### Events that reach the recorder outside its own requests (R76, R83, R89, R101) -/

theorem setEncoderUncertain_keepsRecords (s : State) : s.keepsRecords (setEncoderUncertain s) :=
  handUncertain_keepsRecords _ (s.onDepth _)

theorem setAnchorUncertain_keepsRecords (s : State) : s.keepsRecords (setAnchorUncertain s) :=
  handUncertain_keepsRecords _ (s.onDepth _)

theorem setTallyUncertain_keepsRecords (s : State) : s.keepsRecords (setTallyUncertain s) :=
  handUncertain_keepsRecords _ (s.onTracker _)

theorem handLength_keepsRecords (s : State) : s.keepsRecords (handLength s) := by
  unfold handLength
  split
  · exact .refl
  · refine State.keepsRecords.trans ?_ (react_keepsRecords _)
    split
    · exact setAnchorUncertain_keepsRecords (s.onDepth _)
    · exact .of_records rfl

theorem onSlips_keepsRecords (readsOne : Bool) (s : State) : s.keepsRecords (onSlips readsOne s) := by
  unfold onSlips
  split
  · dsimp only
    split
    · exact setAnchorUncertain_keepsRecords ((s.onDepth _).onDepth _)
    · exact .of_records rfl
  · split <;> exact .of_records rfl

theorem onHeadReport_keepsRecords (n : Int) (s : State) : s.keepsRecords (onHeadReport n s) := by
  unfold onHeadReport
  dsimp only
  split
  · exact .of_records rfl
  · exact (setEncoderUncertain_keepsRecords (s.onDepth _)).trans (.of_records rfl)

theorem acceptValue_keepsRecords (i : InputId) (x : Int) (s : State) : s.keepsRecords (acceptValue i x s) := by
  have htaken : s.keepsRecords (freshen i (takeValue i x s)) := .of_records rfl
  have hquiet : ∀ {t : State}, keepsAllBut [.inputs, .circ, .pumpCtl, .depth, .trunk, .mgmt] s t →
      s.keepsRecords t := fun hk => .of_keeps hk (by decide)
  have hreact : ∀ {t : State}, keepsAllBut [.inputs, .circ, .pumpCtl, .depth, .trunk, .mgmt] s t →
      s.keepsRecords (react t) := fun hk => react_keepsRecords_of hk (by decide)
  unfold acceptValue deliver
  repeat' split
  · exact hreact (by simp)
  · exact hreact (by simp)
  · exact hquiet (by simp)
  · exact hquiet (by simp)
  · exact htaken.trans ((onSlips_keepsRecords _ _).trans (react_keepsRecords _))
  · exact htaken

theorem acceptStrokes_keepsRecords (p : PumpId) (c : Nat) (s : State) : s.keepsRecords (acceptStrokes p c s) := by
  unfold acceptStrokes
  dsimp only
  split
  · exact .of_records rfl
  · refine react_keepsRecords_of (l := [.inputs, .circ, .pumpCtl, .depth, .trunk, .mgmt]) ?_ (by decide)
    split <;> simp

theorem acceptHead_keepsRecords (n : Int) (s : State) : s.keepsRecords (acceptHead n s) := by
  have htaken : s.keepsRecords (freshen inHeadPos (s.onInput inHeadPos fun u =>
    { u with lastRaw := some n, historyDropped := false })) := .of_records rfl
  unfold acceptHead
  dsimp only
  refine htaken.trans (State.keepsRecords.trans ?_ (react_keepsRecords _))
  split
  · exact .of_records rfl
  · exact onHeadReport_keepsRecords n _

theorem condition_keepsRecords (f : Frame) (s : State) : s.keepsRecords (condition f s) := by
  unfold condition accept
  split
  · exact .refl
  · split
    · split
      · exact acceptStrokes_keepsRecords _ _ s
      · split
        · exact acceptHead_keepsRecords _ s
        · exact acceptValue_keepsRecords _ _ s
    · exact .of_records rfl

theorem mismatch_keepsRecords (code : HandlerCode) (cause : Nat) (s : State) :
    s.keepsRecords (mismatch code cause s) := by
  refine (setTallyUncertain_keepsRecords s).trans ?_
  exact .of_keeps (l := [.tracker, .pumpCtl, .trunk]) (by unfold mismatch; simp) (by decide)

theorem handlerReport_keepsRecords (payload : List Byte) (s : State) :
    s.keepsRecords (handlerReport payload s) := by
  have hquiet : ∀ {t : State}, keepsAllBut [.tracker, .trunk] s t → s.keepsRecords t :=
    fun hk => .of_keeps hk (by decide)
  have hmove : ∀ f : Tracker → Tracker, s.keepsRecords
      (handMove s.tracker.conn ((clearCommand s).onTracker f)) := fun f =>
    State.keepsRecords.trans (.of_records rfl)
      ((handLength_keepsRecords ((clearCommand s).onTracker f)).trans (.of_keeps (handConn_keeps _ _) (by decide)))
  unfold handlerReport
  split
  · exact hquiet (by simp)
  · split
    · split
      · exact setTallyUncertain_keepsRecords s
      · exact .refl
    · split
      · unfold okReport completeCommand
        split
        · dsimp only
          split
          · exact hmove _
          · exact State.keepsRecords.trans (.of_records rfl) (mismatch_keepsRecords _ _ (clearCommand s))
        · exact mismatch_keepsRecords _ _ s
      · exact hquiet (by simp)

/-! ### Start-up, periods and seconds (R99, R100, R173, R174) -/

theorem checkStarting_keepsRecords (s : State) : s.keepsRecords (checkStarting s) := by
  have hmark : ∀ u : State, u.keepsRecords (if u.depthUncertain then markDepthUncertain u else u) := by
    intro u
    split
    · exact onInterval_keepsRecords _ u fun _ => rfl
    · exact .refl
  unfold checkStarting
  split
  · unfold endStarting
    dsimp only
    refine State.keepsRecords.trans ?_ (.of_records rfl)
    refine State.keepsRecords.trans ?_ ((hmark _).trans (react_keepsRecords _))
    refine .of_keeps (l := [.circ, .mgmt, .pumpCtl, .depth, .trunk]) ?_ (by decide)
    split <;> simp
  · exact .refl

theorem restoreJob_keepsRecords (s : State) : s.keepsRecords (restoreJob s) := by
  have hfree : ∀ c : Fin 2, (restoreJob s).banks[c] = Bank.free := fun c => by
    fin_cases c <;> rfl
  refine ⟨fun _ => ((restoreJob s).bankLaw_iff 0).mpr ?_, fun _ _ => ?_⟩
  · rw [hfree, hfree]
    exact ⟨Bank.free_law, Bank.free_law, nofun⟩
  · exact State.recorderLaw_of_closed rfl rfl nofun
      (fun _ => (State.fillingBank_eq_none_iff _).mpr fun c => by rw [hfree]; nofun) nofun

theorem restoreAreas_keepsRecords (lost : FailedAreas) (s : State) : s.keepsRecords (restoreAreas lost s) := by
  have hif : ∀ (b : Bool) (f : State → State), (∀ t : State, t.keepsRecords (f t)) →
      ∀ t : State, t.keepsRecords (if b then f t else t) := by
    intro b f hf t
    cases b
    · exact .refl
    · exact hf t
  have htables : ∀ t : State, t.keepsRecords (restoreTables t) := fun t =>
    .of_keeps (storeDefaults_keeps t) (by decide)
  have hstring : ∀ t : State, t.keepsRecords (restoreString t) := fun t =>
    (State.keepsRecords.of_records rfl).trans
      ((handLength_keepsRecords (t.onTracker _)).trans (.of_keeps (handConn_keeps _ _) (by decide)))
  exact (hif _ restoreTables htables s).trans ((hif _ restoreString hstring _).trans
    ((hif _ restoreDepth (fun t => .of_records rfl) _).trans (hif _ restoreJob restoreJob_keepsRecords _)))

theorem completeChecks_keepsRecords (failed : FailedAreas) (s : State) :
    s.keepsRecords (completeChecks failed s) := by
  unfold completeChecks
  split
  · refine State.keepsRecords.trans ?_ (checkStarting_keepsRecords _)
    exact (restoreAreas_keepsRecords _ s).trans (.of_records rfl)
  · exact .refl

theorem addLostMud_keepsRecords (volume : Nat) (s : State) : s.keepsRecords (addLostMud volume s) := by
  unfold addLostMud
  split <;> exact .of_records rfl

theorem handPeriodResult_keepsRecords (pumped : Bool) (r : PeriodRecord) (mark : Bool) (s : State) :
    s.keepsRecords (handPeriodResult pumped r mark s) := by
  have hresult : ∀ loss gain held state, s.keepsRecords (onPeriodResult loss gain held state s) :=
    fun _ _ _ _ => onInterval_keepsRecords _ s fun _ => rfl
  unfold handPeriodResult
  split
  · dsimp only
    split
    · exact State.keepsRecords.trans (hresult _ _ _ _) (addLostMud_keepsRecords _ _)
    · exact hresult _ _ _ _
  · exact hresult _ _ _ _

theorem workPeriod_keepsRecords (s : State) : s.keepsRecords (workPeriod s) := by
  unfold workPeriod
  refine State.keepsRecords.trans ?_ (handPeriodResult_keepsRecords _ _ _ _)
  refine .of_keeps (l := [.circ, .trunk]) ?_ (by decide)
  split <;> simp

theorem endPeriod_keepsRecords (s : State) : s.keepsRecords (endPeriod s) := by
  have hjudge : keepsAllBut [.pumpCtl, .trunk] s
      (judgePeriod 1 s.circ.strokes2 (judgePeriod 0 s.circ.strokes1 s)) := by simp
  unfold endPeriod
  dsimp only
  generalize judgePeriod 1 s.circ.strokes2 (judgePeriod 0 s.circ.strokes1 s) = s1 at hjudge ⊢
  refine (State.keepsRecords.of_keeps hjudge (by decide)).trans ((workPeriod_keepsRecords s1).trans ?_)
  exact react_keepsRecords_of (l := [.circ, .depth]) (by simp) (by decide)

theorem secondTickWork_keepsRecords (s : State) : s.keepsRecords (secondTickWork s) := by
  have hdrilling : ∀ u : State, u.keepsRecords (drillingSecond u) := by
    intro u
    unfold drillingSecond
    split
    · exact onInterval_keepsRecords _ u fun _ => rfl
    · exact .refl
  unfold secondTickWork
  dsimp only
  refine State.keepsRecords.trans ?_ ((hdrilling _).trans (meterSecond_keepsRecords _))
  generalize ht : ((s.reach s.mgmt.secondDue).onMgmt fun m =>
    { m with siteTime := m.siteTime + 1, secondDue := m.secondDue + 1000 }) = t
  have hticked : s.keepsRecords t := .of_records (by rw [← ht]; rfl)
  refine hticked.trans (.of_keeps (keepsAllBut_trans (l := [.pumpCtl, .trunk, .tracker])
    (keepsAllBut_mono (eachPump_keeps rampPump_keeps t) (by simp)) ?_) (by decide))
  simp

/-! ### Requests and all events -/

theorem RequestEffect.keepsRecords {s w : State} {code : Nat} (h : RequestEffect s code w) :
    s.keepsRecords w := by
  cases h with
  | loadSettings f mode hmode =>
    unfold storeSettings
    dsimp only
    split
    · exact .of_records rfl
    · exact react_keepsRecords_of (l := [.tables, .circ, .depth, .trunk]) (by simp) (by decide)
  | loadChannel i f hfits =>
    refine react_keepsRecords_of (l := [.tables, .inputs, .circ, .depth, .trunk]) ?_ (by decide)
    split <;> simp
  | loadPump p f hfits =>
    exact react_keepsRecords_of (l := [.tables, .pumpCtl, .circ, .depth, .trunk]) (by simp) (by decide)
  | loadLimits f hfits =>
    refine react_keepsRecords_of (l := [.tables, .tracker]) ?_ (by decide)
    split <;> simp
  | clearTables hjob =>
    exact react_keepsRecords_of (l := [.tables, .inputs, .pumpCtl, .tracker, .circ, .depth, .trunk])
      (by simp) (by decide)
  | standby hmode => exact react_keepsRecords_of (goStandby_keeps s) (by decide)
  | setMode m hm hmode =>
    exact react_keepsRecords_of (l := [.pumpCtl, .trunk, .mgmt]) (by simp) (by decide)
  | bhaAdd serial length hfits hrod hroom hserial =>
    exact State.keepsRecords.trans (.of_records rfl) (handLength_keepsRecords (s.onTracker _))
  | bhaRemove => exact State.keepsRecords.trans (.of_records rfl) (handLength_keepsRecords (s.onTracker _))
  | depthCorrect new hbottom hext =>
    exact State.keepsRecords.trans (.of_records rfl) (onCorrection_keepsRecords _ _ (s := s.onDepth _) hext)
  | releaseBank b hfull => exact releaseFullBank_keepsRecords hfull
  | jobOpen number customer hjob hfree hstore =>
    exact jobOpen_keepsRecords number customer ((forall_banks 0).mpr hfree)
  | jobSuspend hjob =>
    refine ⟨State.bankLaw_of_banks rfl, fun _ hr => ?_⟩
    obtain ⟨hext, hfilling, hnumber, -, hlast, hcount⟩ := s.recorderLaw_iff.mp hr
    exact (State.recorderLaw_iff _).mpr ⟨hext, fun _ => hfilling (.inl hjob), hnumber, nofun, hlast,
      fun _ => hcount (State.jobInProgress_of hjob (by simp))⟩
  | jobResume hjob =>
    refine ⟨State.bankLaw_of_banks rfl, fun _ hr => ?_⟩
    obtain ⟨hext, hfilling, hnumber, -, hlast, hcount⟩ := s.recorderLaw_iff.mp hr
    exact (State.recorderLaw_iff _).mpr ⟨hext, fun _ => hfilling (.inr hjob), hnumber, nofun, hlast,
      fun _ => hcount (State.jobInProgress_of hjob (by simp))⟩
  | jobClose hjob => exact (jobClose_keepsRecords hjob).trans (finalTicketIfDue_keepsRecords _)
  | mudAddition quantity rate hjob => exact .of_records rfl
  | ticketNow hjob hcounter => exact ticketDue_ordinary_keepsRecords s
  | releaseTicket t rest hstore =>
    exact State.keepsRecords.trans (.of_records rfl) (afterRelease_keepsRecords (s.onBilling _))
  | _ => exact .of_keeps (l := [.tables, .inputs, .pumpCtl, .tracker, .trunk, .mgmt]) (by simp) (by decide)

theorem cabArrival_keepsRecords (f : Frame) (s : State) : s.keepsRecords (cabArrival f s) := by
  unfold cabArrival setpointArrival
  split
  · split
    · rcases serveFrame_cases f s with he | ⟨w, r, he, rfl | rfl | ⟨-, heffect⟩⟩ <;> rw [he]
      · exact .of_records rfl
      · exact .of_records rfl
      · exact .of_records rfl
      · exact heffect.keepsRecords.trans (.of_records rfl)
    · exact .of_records rfl
  · split
    · split
      · exact .of_keeps (pumpSetpointFrame_keeps _ f s) (by decide)
      · split
        · exact .of_keeps (handlerFrame_keeps f s) (by decide)
        · exact .of_keeps (l := [.trunk]) (by simp) (by decide)
    · exact .of_keeps (l := [.trunk]) (by simp) (by decide)

theorem Works.keepsRecords {c : Instr} {s w : State} (h : Works s c w) : s.keepsRecords w := by
  cases h with
  | fieldFrame _ f =>
    unfold fieldArrival
    refine State.keepsRecords.trans ?_ (checkStarting_keepsRecords _)
    have hoffer : s.keepsRecords (s.offerCab f) := .of_keeps (l := [.trunk]) (by simp) (by decide)
    have hcond := hoffer.trans (condition_keepsRecords f (s.offerCab f))
    split
    · exact hcond.trans (handlerReport_keepsRecords _ _)
    · exact hcond
  | cabFrame _ f => exact cabArrival_keepsRecords f s
  | cabSent =>
    unfold endCabSend
    split <;> exact .of_records rfl
  | secondTick => exact secondTickWork_keepsRecords s
  | cadence => exact takeCadence_keepsRecords s
  | staleExpiry _ i due =>
    refine react_keepsRecords_of (l := [.inputs, .trunk, .mgmt]) ?_ (by decide)
    split <;> simp
  | runningExpiry _ p due => exact react_keepsRecords_of (l := [.inputs, .mgmt]) (by simp) (by decide)
  | periodExpiry _ due hdue =>
    exact State.keepsRecords.trans (.of_records rfl) (endPeriod_keepsRecords (s.reach due))
  | holdExpiry _ due =>
    exact State.keepsRecords.trans (.of_records rfl) (checkStarting_keepsRecords ((s.reach due).onMgmt _))
  | checks failed => exact completeChecks_keepsRecords failed s
  | endOfStarting => exact checkStarting_keepsRecords s
  | fieldSent => exact .of_records rfl
  | reset => exact .of_records rfl
  | _ => exact .of_keeps (l := [.depth, .tracker, .trunk, .mgmt]) (by simp) (by decide)

theorem step_keepsRecords {s t : State} (h : step s = .next t) : s.keepsRecords t :=
  step_keeps (P := s.keepsRecords) (fun _ _ h => h.trans (.of_records rfl))
    (fun _ h => h.trans (.of_records rfl))
    (fun _ h => h.trans (.of_keeps (l := [.trunk]) (by simp) (by decide)))
    (fun _ _ _ hw h => h.trans hw.keepsRecords) h .refl

/-- Settles O58: the store laws are kept together, each by the case split over every event's work. -/
theorem everyStepKeepsTheStoreLaws : Obligations.EveryStepKeepsTheStoreLaws := fun _ _ h =>
  ⟨(step_keepsRecords h).1, (step_keepsRecords h).2, step_meterLaw h, step_ticketLaw h, step_tables_law h,
    step_depthLaw h⟩

end Sys2Proof.Machine
end

section
/-! The state after a reset meets every law, and hole depth falls only by a correction or by the loss of the
DEPTH area (R87, R90, R96, R174). -/

namespace Sys2Proof.Machine

theorem bankLaw_reset : State.reset.bankLaw := ⟨Bank.free_law, Bank.free_law, nofun⟩

theorem recorderLaw_reset : State.reset.recorderLaw :=
  State.recorderLaw_of_closed rfl rfl nofun (fun _ => by decide) nofun

theorem pumpLaw_reset : State.reset.pumpLaw := by
  have hunused : ∀ p : PumpId, State.reset.used p = false := by decide
  exact ⟨.inl rfl, by decide, by decide, by decide, fun p h => absurd (h.symm.trans (hunused p)) nofun⟩

theorem windowLaw_reset : State.reset.windowLaw :=
  ⟨by decide, .inl rfl, nofun, Nat.zero_le _, rfl, rfl, rfl, nofun, fun _ => rfl, fun _ => ⟨rfl, rfl, rfl⟩⟩

/-- Settles O60: the defaults of each area meet its laws. -/
theorem resetMeetsEveryLaw : Obligations.ResetMeetsEveryLaw := by
  refine ⟨⟨fun _ => ⟨rfl, rfl, rfl, rfl⟩, fun _ => ⟨rfl, rfl⟩⟩, ?_, ⟨List.nodup_nil, Nat.zero_le _, nofun⟩,
    pumpLaw_reset, Tracker.default_law, bankLaw_reset, recorderLaw_reset, ?_, ?_, Tables.default_law,
    windowLaw_reset, ⟨le_refl 0, by decide, rfl⟩, rfl⟩
  · exact ⟨Nat.zero_le _, Nat.zero_le _, Nat.zero_le _, Nat.zero_le _, List.nodup_nil, .nil⟩
  · exact ⟨Nat.zero_le _, Nat.zero_le _, Nat.zero_le _, Accumulators.zero_inRange⟩
  · exact ⟨nofun, nofun, nofun, nofun, nofun⟩

/-! ### Hole depth (R87, R90, R96) -/

/-- Hole depth does not fall from one state to another. -/
def State.holeRises (s t : State) : Prop := s.depth.hole ≤ t.depth.hole

theorem State.holeRises.refl {s : State} : s.holeRises s := le_refl s.depth.hole

theorem State.holeRises.trans {s t u : State} (h : s.holeRises t) (h' : t.holeRises u) : s.holeRises u :=
  le_trans (b := t.depth.hole) h h'

theorem State.holeRises.of_depth {s t : State} (h : t.depth.hole = s.depth.hole) : s.holeRises t := h.ge

theorem State.holeRises.of_keeps {l : List Block} {s t : State} (h : keepsAllBut l s t)
    (hl : Block.depth ∉ l) : s.holeRises t := by
  have hdepth : t.depth = s.depth := h .depth hl
  exact .of_depth (by rw [hdepth])

theorem react_holeRises (s : State) : s.holeRises (react s) := by
  obtain ⟨i, a, due, h⟩ := react_depth s
  unfold State.holeRises
  rw [h, advanceHole_depth]
  dsimp only
  split
  · next hadvance => exact hadvance.2.2.le
  · exact le_refl _

/-- The depth unit's tests after an event that leaves the unit. -/
theorem react_holeRises_of {l : List Block} {s t : State} (h : keepsAllBut l s t) (hl : Block.depth ∉ l) :
    s.holeRises (react t) := State.holeRises.trans (.of_keeps h hl) (react_holeRises t)

theorem setAnchorUncertain_hole (s : State) : (setAnchorUncertain s).depth.hole = s.depth.hole := by
  rw [setAnchorUncertain_depth]

theorem handLength_holeRises (s : State) : s.holeRises (handLength s) := by
  unfold handLength
  split
  · exact .refl
  · refine State.holeRises.trans ?_ (react_holeRises _)
    split
    · exact .of_depth (setAnchorUncertain_hole (s.onDepth _))
    · exact .of_depth rfl

theorem onSlips_holeRises (readsOne : Bool) (s : State) : s.holeRises (onSlips readsOne s) := by
  unfold onSlips
  split
  · dsimp only
    split
    · exact .of_depth (setAnchorUncertain_hole ((s.onDepth _).onDepth _))
    · exact .of_depth rfl
  · split <;> exact .of_depth rfl

theorem onHeadReport_holeRises (n : Int) (s : State) : s.holeRises (onHeadReport n s) := by
  unfold onHeadReport
  dsimp only
  split
  · exact .of_depth rfl
  · refine State.holeRises.trans (t := (s.onDepth fun d => { d with lastCount := n, firstReport := false }).onDepth
      fun d => { d with encoderUncertain := true }) (.of_depth rfl) (.of_keeps (l := [.recorder, .trunk]) ?_ (by decide))
    unfold rejectReport setEncoderUncertain
    simp

theorem onHookload_holeRises (s : State) : s.holeRises (onHookload s) := by
  unfold onHookload
  split <;> exact .of_depth rfl

theorem condition_holeRises (f : Frame) (s : State) : s.holeRises (condition f s) := by
  have hquiet : ∀ {t : State}, keepsAllBut [.inputs, .circ, .pumpCtl, .trunk, .mgmt] s t → s.holeRises t :=
    fun hk => .of_keeps hk (by decide)
  have hreact : ∀ {t : State}, keepsAllBut [.inputs, .circ, .pumpCtl, .trunk, .mgmt] s t →
      s.holeRises (react t) := fun hk => react_holeRises_of hk (by decide)
  unfold condition
  split
  · exact .refl
  · next i _ =>
    split
    · next x _ =>
      unfold accept
      split
      · unfold acceptStrokes
        dsimp only
        split
        · exact hquiet (by simp)
        · refine hreact ?_
          split <;> simp
      · split
        · unfold acceptHead
          refine State.holeRises.trans ?_ (react_holeRises _)
          split
          · exact .of_depth rfl
          · exact State.holeRises.trans (.of_depth rfl) (onHeadReport_holeRises x (freshen inHeadPos (s.onInput _ _)))
        · have htaken : s.holeRises (freshen i (takeValue i x s)) := hquiet (by simp)
          unfold acceptValue deliver
          repeat' split
          · exact htaken.trans ((onHookload_holeRises _).trans (react_holeRises _))
          · exact hreact (by simp)
          · exact hquiet (by simp)
          · exact hquiet (by simp)
          · exact htaken.trans ((onSlips_holeRises _ _).trans (react_holeRises _))
          · exact htaken
    · exact hquiet (by simp)

theorem handlerReport_holeRises (payload : List Byte) (s : State) : s.holeRises (handlerReport payload s) := by
  have hquiet : ∀ {t : State}, keepsAllBut [.tracker, .pumpCtl, .recorder, .trunk] s t → s.holeRises t :=
    fun hk => .of_keeps hk (by decide)
  unfold handlerReport
  split
  · exact hquiet (by simp)
  · split
    · split
      · exact hquiet (by simp)
      · exact .refl
    · split
      · unfold okReport completeCommand
        split
        · dsimp only
          split
          · exact State.holeRises.trans (.of_depth rfl) ((handLength_holeRises ((clearCommand s).onTracker _)).trans
              (.of_keeps (handConn_keeps _ _) (by decide)))
          · exact hquiet (by simp)
        · exact hquiet (by simp)
      · exact hquiet (by simp)

theorem clearByLoad_holeRises (dropMean : Bool) (s : State) : s.holeRises (clearByLoad dropMean s) := by
  have hbegun : s.holeRises (beginPeriod (s.onCirc fun c =>
      { c.cleared with heldMean := if dropMean then none else c.heldMean })) := .of_depth rfl
  unfold clearByLoad
  dsimp only
  generalize beginPeriod _ = s1 at hbegun ⊢
  have hmoved : s1.holeRises (restartMovementPeriod s1) := .of_depth rfl
  exact hbegun.trans (hmoved.trans (.of_keeps (l := [.circ, .trunk]) (by simp) (by decide)))

theorem checkStarting_holeRises (s : State) : s.holeRises (checkStarting s) := by
  unfold checkStarting
  split
  · unfold endStarting
    dsimp only
    refine State.holeRises.trans ?_ (.of_keeps (raise_keeps _ _ _ _) (by decide))
    refine State.holeRises.trans ?_ (react_holeRises _)
    generalize hs2 : ((beginPeriod (s.onMgmt fun m =>
      { m with mode := s.settings.startMode, holdDue := none, holdExpired := false })).onCirc fun c =>
        { c with pumpsOffAt := some s.mgmt.clock }) = s2
    have hkept : s.holeRises s2 := hs2 ▸ .of_depth rfl
    have hentered : s2.holeRises (if s.settings.startMode = .supervised then enterSupervised s2 else s2) := by
      split
      · exact .of_keeps (enterSupervised_keeps _) (by decide)
      · exact .refl
    generalize (if s.settings.startMode = .supervised then enterSupervised s2 else s2) = s3 at hentered
    have hstart : s3.holeRises (startMovementPeriod s3) := .of_depth rfl
    refine hkept.trans (hentered.trans (hstart.trans ?_))
    split
    · exact .of_keeps (markDepthUncertain_keeps _) (by decide)
    · exact .refl
  · exact .refl

theorem RequestEffect.holeRises {s w : State} {code : Nat} (h : RequestEffect s code w) (hcode : code ≠ 48) :
    s.holeRises w := by
  cases h with
  | loadSettings f mode hmode =>
    unfold storeSettings
    dsimp only
    split
    · exact .of_depth rfl
    · exact State.holeRises.trans (.of_depth rfl) ((clearByLoad_holeRises _ (s.onTables _)).trans (react_holeRises _))
  | loadChannel i f hfits =>
    unfold storeChannel
    refine State.holeRises.trans ?_ (react_holeRises _)
    split
    · exact State.holeRises.trans (.of_depth rfl) (clearByLoad_holeRises _ ((s.onTables _).onInput _ _))
    · exact .of_depth rfl
  | loadPump p f hfits =>
    unfold storePump
    refine State.holeRises.trans ?_ ((clearByLoad_holeRises _ _).trans (react_holeRises _))
    exact .of_keeps (l := [.tables, .pumpCtl, .trunk]) (by simp) (by decide)
  | loadLimits f hfits =>
    refine react_holeRises_of (l := [.tables, .tracker]) ?_ (by decide)
    split <;> simp
  | clearTables hjob =>
    exact State.holeRises.trans (.of_keeps (storeDefaults_keeps s) (by decide))
      ((clearByLoad_holeRises _ _).trans (react_holeRises _))
  | standby hmode => exact react_holeRises_of (goStandby_keeps s) (by decide)
  | setMode m hm hmode => exact react_holeRises_of (l := [.pumpCtl, .trunk, .mgmt]) (by simp) (by decide)
  | bhaAdd serial length hfits hrod hroom hserial =>
    exact State.holeRises.trans (.of_depth rfl) (handLength_holeRises (s.onTracker _))
  | bhaRemove => exact State.holeRises.trans (.of_depth rfl) (handLength_holeRises (s.onTracker _))
  | depthCorrect new hbottom hext => exact absurd rfl hcode
  | _ =>
    exact .of_keeps (l := [.tables, .pumpCtl, .tracker, .recorder, .banks, .billing, .trunk, .mgmt])
      (by simp [openJob]) (by decide)

/-- A REQUEST frame of another code than DEPTH CORRECT's, or any frame of another kind. -/
theorem cabArrival_holeRises {f : Frame} (s : State) (hf : f.kind = .request → f.tag ≠ 48) :
    s.holeRises (cabArrival f s) := by
  unfold cabArrival setpointArrival
  split
  · split
    · next hkind =>
      have hcode : f.tag.toNat ≠ 48 := fun h => hf hkind (BitVec.eq_of_toNat_eq h)
      rcases serveFrame_cases f s with he | ⟨w, r, he, rfl | rfl | ⟨-, heffect⟩⟩ <;> rw [he]
      · exact .refl
      · exact .refl
      · exact .refl
      · exact heffect.holeRises hcode
    · exact .refl
  · split
    · split
      · exact .of_keeps (pumpSetpointFrame_keeps _ f s) (by decide)
      · split
        · exact .of_keeps (handlerFrame_keeps f s) (by decide)
        · exact .of_keeps (offerField_keeps f s) (by decide)
    · exact .of_keeps (offerField_keeps f s) (by decide)

theorem completeChecks_holeRises {failed : FailedAreas} (s : State) (hf : failed.depth = false) :
    s.holeRises (completeChecks failed s) := by
  have hif : ∀ (b : Bool) (f : State → State), (∀ t : State, t.holeRises (f t)) →
      ∀ t : State, t.holeRises (if b then f t else t) := by
    intro b f hf t
    cases b
    · exact .refl
    · exact hf t
  have hstring : ∀ t : State, t.holeRises (restoreString t) := fun t => State.holeRises.trans (.of_depth rfl)
    ((handLength_holeRises (t.onTracker _)).trans (.of_keeps (handConn_keeps _ _) (by decide)))
  have hlost : (lostAreas failed s).depth = false := hf
  unfold completeChecks
  split
  · refine State.holeRises.trans (t := (restoreAreas (lostAreas failed s) s).onMgmt fun m =>
      { m with checksDone := true, lost := lostAreas failed s }) ?_ (checkStarting_holeRises _)
    refine State.holeRises.trans (t := restoreAreas (lostAreas failed s) s) ?_ (.of_depth rfl)
    unfold restoreAreas
    rw [hlost]
    exact (hif _ restoreTables (fun t => .of_keeps (storeDefaults_keeps t) (by decide)) s).trans
      ((hif _ restoreString hstring _).trans (hif _ restoreJob (fun t => .of_depth rfl) _))
  · exact .refl

/-- The commands by which hole depth can fall: a DEPTH CORRECT, as its row or as its frame, and the loss of
the DEPTH area. -/
def Instr.lowersHole (c : Instr) : Prop :=
  (∃ h d, c = .depthCorrect h d) ∨
  (∃ bytes f, c = .cabFrame bytes ∧ parseFrame bytes = some f ∧ f.kind = .request ∧ f.tag = 48) ∨
  (∃ failed, c = .checksComplete failed ∧ failed.depth = true)

theorem Instr.depthCorrect_of_request {c : Instr} {h : ReqHeader} {p : List Byte}
    (hc : c.request = some (h, 48, p)) : ∃ h d, c = .depthCorrect h d := by
  cases c <;> cases hc
  exact ⟨_, _, rfl⟩

theorem Instr.lowersHole_of_bringsCab {c : Instr} {f : Frame} (hc : Instr.bringsCab c f) (hkind : f.kind = .request)
    (htag : f.tag = 48) : Instr.lowersHole c := by
  rcases hc with ⟨bytes, rfl, hparse⟩ | ⟨h, p, hreq⟩ | hset
  · exact .inr (.inl ⟨bytes, f, rfl, hparse, hkind, htag⟩)
  · exact .inl (Instr.depthCorrect_of_request (htag ▸ hreq))
  · exact absurd (hkind.symm.trans hset) nofun

theorem Works.holeRises {c : Instr} {s w : State} (h : Works s c w) : s.holeRises w ∨ Instr.lowersHole c := by
  cases h with
  | cabFrame _ f hc =>
    by_cases hf : f.kind = .request ∧ f.tag = 48
    · exact .inr (Instr.lowersHole_of_bringsCab hc hf.1 hf.2)
    · exact .inl (cabArrival_holeRises s fun hkind htag => hf ⟨hkind, htag⟩)
  | checks failed =>
    cases hf : failed.depth with
    | true => exact .inr (.inr (.inr ⟨failed, rfl, hf⟩))
    | false => exact .inl (completeChecks_holeRises s hf)
  | fieldFrame _ f =>
    refine .inl ?_
    unfold fieldArrival
    refine State.holeRises.trans ?_ (checkStarting_holeRises _)
    have hcond := State.holeRises.trans (.of_keeps (offerCab_keeps f s) (by decide))
      (condition_holeRises f (s.offerCab f))
    split
    · exact hcond.trans (handlerReport_holeRises _ _)
    · exact hcond
  | cabSent =>
    refine .inl ?_
    unfold endCabSend
    split <;> exact .of_depth rfl
  | staleExpiry _ i due =>
    refine .inl (react_holeRises_of (l := [.inputs, .trunk, .mgmt]) ?_ (by decide))
    split <;> simp
  | runningExpiry _ p due => exact .inl (react_holeRises_of (l := [.inputs, .mgmt]) (by simp) (by decide))
  | periodExpiry _ due hdue =>
    refine .inl ?_
    unfold endPeriod
    dsimp only
    refine State.holeRises.trans (t := beginPeriod (workPeriod (judgePeriod 1 (s.reach due).circ.strokes2
      (judgePeriod 0 (s.reach due).circ.strokes1 (s.reach due)))))
      (.of_keeps (l := [.circ, .pumpCtl, .recorder, .billing, .trunk, .mgmt]) (by simp) (by decide)) ?_
    exact State.holeRises.trans (.of_depth rfl) (react_holeRises (endMovementPeriod _))
  | settleExpiry _ due =>
    refine .inl (.of_depth ?_)
    rw [takeActivity_depth]
    rfl
  | holdExpiry _ due =>
    exact .inl (State.holeRises.trans (.of_depth rfl) (checkStarting_holeRises ((s.reach due).onMgmt _)))
  | endOfStarting => exact .inl (checkStarting_holeRises s)
  | fieldSent => exact .inl .refl
  | reset => exact .inl (.of_depth rfl)
  | _ =>
    exact .inl (.of_keeps (l := [.pumpCtl, .tracker, .recorder, .banks, .billing, .trunk, .mgmt])
      (by simp) (by decide))

/-- Settles O59: the tests of R87 raise the hole depth alone, and the two other writers are the named ones. -/
theorem holeDepthFallsOnlyByCorrectionOrLoss : Obligations.HoleDepthFallsOnlyByCorrectionOrLoss := by
  intro c s t h
  obtain ⟨w, hw, rfl⟩ := exec_next_works h
  rcases hw.holeRises with hrises | hlowers
  · exact .inl (hrises.trans (.of_keeps (transmit_keeps w) (by decide)))
  · exact .inr hlowers

end Sys2Proof.Machine
end

section
/-! Notices, the transmitters' choices, and the one answer of a request (R159 to R166). -/

namespace Sys2Proof.Machine

/-! ### Notices (R161) -/

theorem Trunk.join_urgent {t : Trunk} {n : Notice} (h : n.kind.isUrgent = true) :
    t.join n = t.joinUrgent n := if_pos h

theorem Trunk.join_general {t : Trunk} {n : Notice} (h : n.kind.isUrgent = false) :
    t.join n = t.joinGeneral n := if_neg (by rw [h]; nofun)

theorem Notice.any_sameAs_eq_false {n : Notice} {l : List Notice}
    (h : ∀ r ∈ l, ¬(r.kind = n.kind ∧ r.subject = n.subject)) : l.any n.sameAs = false := by
  rw [List.any_eq_false]
  intro r hr hsame
  exact h r hr ((Notice.sameAs_iff n r).mp hsame)

/-- The coalescing update leaves notices of other kinds and subjects. -/
theorem Notice.map_coalesce_other {n : Notice} {l : List Notice}
    (h : ∀ r ∈ l, ¬(r.kind = n.kind ∧ r.subject = n.subject)) :
    (l.map fun q => if n.sameAs q then { q with value := n.value, stamp := n.stamp } else q) = l := by
  conv_rhs => rw [← List.map_id l]
  refine List.map_congr_left fun r hr => ?_
  rw [(Notice.sameAs_eq_false_iff n r).mpr (h r hr)]
  rfl

theorem Trunk.joinGeneral_coalesces {t : Trunk} {n q : Notice} {before after : List Notice}
    (hqueue : t.general = before ++ q :: after) (hq : q.kind = n.kind ∧ q.subject = n.subject)
    (hother : ∀ r ∈ before ++ after, ¬(r.kind = n.kind ∧ r.subject = n.subject)) :
    t.joinGeneral n = { t with
      general := before ++ { q with value := n.value, stamp := n.stamp } :: after } := by
  have hsame : n.sameAs q = true := (Notice.sameAs_iff n q).mpr hq
  have hany : t.general.any n.sameAs = true := by
    rw [hqueue, List.any_append, List.any_cons, hsame]
    simp
  unfold Trunk.joinGeneral
  rw [if_pos hany, hqueue, List.map_append, List.map_cons, hsame,
    Notice.map_coalesce_other fun r hr => hother r (List.mem_append_left _ hr),
    Notice.map_coalesce_other fun r hr => hother r (List.mem_append_right _ hr)]
  rfl

/-- Settles O9: the branches of the two queues, each under its test. -/
theorem noticesJoinCoalesceOrAreDropped : Obligations.NoticesJoinCoalesceOrAreDropped := by
  intro t n
  refine ⟨fun hurgent => ⟨fun hroom => ?_, fun hfull => ?_⟩, fun hgeneral =>
    ⟨fun before q after hqueue hkind hsubject hother => ?_, fun hnone => ⟨fun hroom => ?_, fun hfull => ?_⟩⟩⟩
  · exact (Trunk.join_urgent hurgent).trans (if_pos hroom)
  · exact (Trunk.join_urgent hurgent).trans (if_neg hfull.not_gt)
  · exact (Trunk.join_general hgeneral).trans (Trunk.joinGeneral_coalesces hqueue ⟨hkind, hsubject⟩ hother)
  all_goals
    rw [Trunk.join_general hgeneral, Trunk.joinGeneral, if_neg (by rw [Notice.any_sameAs_eq_false hnone]; nofun)]
  · exact if_pos hroom
  · exact if_neg hfull.not_gt

/-! ### The ends of sends (R159, R163) -/

/-- The field transmitter's choice reads and changes the field port alone. -/
theorem Trunk.fieldArbiter_cab (t : Trunk) : t.fieldArbiter.cabSending = t.cabSending ∧
    t.fieldArbiter.replySlot = t.replySlot ∧ t.fieldArbiter.urgent = t.urgent ∧
    t.fieldArbiter.cabFifo = t.cabFifo ∧ t.fieldArbiter.general = t.general ∧
    t.fieldArbiter.noticeSeq = t.noticeSeq := by
  rw [Trunk.fieldArbiter_other]
  exact ⟨rfl, rfl, rfl, rfl, rfl, rfl⟩

/-- The cab transmitter's choice leaves the field port. -/
theorem Trunk.cabArbiter_field (t : Trunk) : t.cabArbiter.fieldSending = t.fieldSending ∧
    t.cabArbiter.setpoints = t.setpoints ∧ t.cabArbiter.fieldFifo = t.fieldFifo ∧
    t.cabArbiter.fieldSeq = t.fieldSeq := by
  unfold Trunk.cabArbiter
  split <;> exact ⟨rfl, rfl, rfl, rfl⟩

theorem State.restartReplySent_eq_false {s : State} (h : s.mgmt.restartDue = false ∨
    s.trunk.replySlot.isSome = true ∨ ∀ c, s.trunk.cabSending = some c → c.source ≠ .reply) :
    s.restartReplySent = false := by
  unfold State.restartReplySent
  rcases h with h | h | h
  · simp [h]
  · simp [Option.isNone_iff_eq_none, Option.isSome_iff_ne_none.mp h]
  · cases hc : s.trunk.cabSending with
    | none => simp
    | some c => simp [h c hc]

/-- The end of a cab send with no reset: the idle transmitter chooses. -/
theorem exec_cabSendComplete_of_noReset {s : State} (h : s.restartReplySent = false) :
    exec .cabSendComplete s = .next (transmit (s.onTrunk fun t => { t with cabSending := none })) := by
  show finish (endCabSend s) = _
  rw [endCabSend, if_neg (by rw [h]; nofun)]
  rfl

/-- The choice of an idle field transmitter (R157, R159). -/
theorem Trunk.fieldArbiter_idle {t : Trunk} (h : t.fieldSending = none) :
    (∀ e rest, t.setpoints = e :: rest →
      t.fieldArbiter.fieldSending = some (e.frame t.fieldSeq) ∧ t.fieldArbiter.setpoints = rest ∧
      t.fieldArbiter.fieldFifo = t.fieldFifo ∧ t.fieldArbiter.fieldSeq = t.fieldSeq + 1) ∧
    (∀ f rest, t.setpoints = [] → t.fieldFifo = f :: rest →
      t.fieldArbiter.fieldSending = some f ∧ t.fieldArbiter.setpoints = [] ∧
      t.fieldArbiter.fieldFifo = rest ∧ t.fieldArbiter.fieldSeq = t.fieldSeq) ∧
    (t.setpoints = [] → t.fieldFifo = [] →
      t.fieldArbiter.fieldSending = none ∧ t.fieldArbiter.setpoints = [] ∧ t.fieldArbiter.fieldFifo = [] ∧
      t.fieldArbiter.fieldSeq = t.fieldSeq) := by
  refine ⟨fun e rest he => ?_, fun f rest hnone hf => ?_, fun hnone hf => ?_⟩ <;> simp [Trunk.fieldArbiter, *]

/-- Settles O8: with its transmitter idle each arbiter's choice is the first source that waits. -/
theorem sendCompletionsTakeTheSourcesInOrder : Obligations.SendCompletionsTakeTheSourcesInOrder := by
  refine ⟨fun s hreset => ⟨_, exec_cabSendComplete_of_noReset (State.restartReplySent_eq_false hreset),
    by simp, ?_⟩, fun s => ⟨_, rfl, by simp [endFieldSend], ?_⟩⟩
  · simp only [transmit_trunk, State.onTrunk_trunk, Trunk.fieldArbiter_cab]
    refine ⟨fun f hf => ?_, fun n rest hslot hn => ?_, fun f rest hslot hurgent hf => ?_,
      fun n rest hslot hurgent hfifo hn => ?_, fun hslot hurgent hfifo hgeneral => ?_⟩
    all_goals simp [Trunk.cabArbiter, *]
  · simp only [transmit_trunk, endFieldSend, State.onTrunk_trunk]
    obtain ⟨hsending, hsetpoints, hfifo, hseq⟩ := Trunk.cabArbiter_field { s.trunk with fieldSending := none }
    have hidle := Trunk.fieldArbiter_idle hsending
    rwa [hsetpoints, hfifo, hseq] at hidle

end Sys2Proof.Machine
end

section
/-! The one answer of a request: lost, refused, or executed (R160, R165, R166). -/

namespace Sys2Proof.Machine

/-! ### Every service refuses without effect or answers DONE (R165) -/

/-- A service's outcome: DONE or DONE_CLAMPED, or a refusal that changes nothing. -/
def Answered (s : State) (q : State × Reply) : Prop :=
  q.2.code = .done ∨ q.2.code = .doneClamped ∨ ∃ c, q = refuse c s

def Service.answers (g : Service) : Prop := ∀ s, Answered s (g s)

@[simp] theorem answered_refuse (s : State) (c : ReplyCode) : Answered s (refuse c s) := .inr (.inr ⟨c, rfl⟩)

@[simp] theorem answered_done (s t : State) (data : List Byte) : Answered s (t, ⟨.done, data⟩) := .inl rfl

@[simp] theorem answered_plain_done (s t : State) : Answered s (t, .plain .done) := .inl rfl

@[simp] theorem answered_whole (s t : State) (fs : List Field) : Answered s (t, replyWhole fs) := .inl rfl

@[simp] theorem answered_removed (s t : State) (r : Rod) : Answered s (t, removedReply r) := .inl rfl

@[simp] theorem answered_load (s t : State) (changed : Bool) : Answered s (t, .plain (loadCode changed)) := by
  cases changed
  · exact .inl rfl
  · exact .inr (.inl rfl)

@[simp] theorem answered_part (s : State) (fs : List Field) (part : Nat) :
    Answered s (s, replyPart fs part) := by
  unfold replyPart
  split
  · exact .inl rfl
  · exact .inr (.inr ⟨_, rfl⟩)

theorem withForm_answers {g : Service} (h : g.answers) (p : List Byte) (n : Nat) :
    Service.answers (withForm p n g) := by
  unfold withForm
  split
  · exact h
  · exact fun s => answered_refuse s _

theorem doReadStatus_answers (part : Nat) : Service.answers (doReadStatus part) := by
  intro s
  unfold doReadStatus
  dsimp only
  split
  · next h => exact .inl h
  · exact answered_part s _ part

/-! The loads (chapter 11.2). -/

theorem doLoadSettings_answers (row : Nat) (f : SettingsForm) : Service.answers (doLoadSettings row f) := by
  intro s
  unfold doLoadSettings
  repeat' split
  all_goals simp

theorem doLoadChannel_answers (row : Nat) (f : ChannelForm) : Service.answers (doLoadChannel row f) := by
  intro s
  unfold doLoadChannel
  dsimp only
  repeat' split
  all_goals simp

theorem doLoadPump_answers (row : Nat) (f : PumpForm) : Service.answers (doLoadPump row f) := by
  intro s
  unfold doLoadPump
  dsimp only
  repeat' split
  all_goals simp

theorem doLoadLimits_answers (row : Nat) (f : LimitsForm) : Service.answers (doLoadLimits row f) := by
  intro s
  unfold doLoadLimits
  dsimp only
  repeat' split
  all_goals simp

theorem doLoadThresholds_answers (row : Nat) (f : ThresholdForm) :
    Service.answers (doLoadThresholds row f) := by
  intro s
  unfold doLoadThresholds
  dsimp only
  split <;> simp

theorem doLoadClass_answers (row : Nat) (f : ClassForm) : Service.answers (doLoadClass row f) := by
  intro s
  unfold doLoadClass
  split <;> simp

theorem doLoadTariff_answers (row : Nat) (f : TariffForm) : Service.answers (doLoadTariff row f) := by
  intro s
  unfold doLoadTariff
  repeat' split
  all_goals simp

theorem loadRowService_answers (p : List Byte) : Service.answers (loadRowService p) := by
  unfold loadRowService
  split
  · exact fun s => answered_refuse s _
  · dsimp only
    split
    · exact withForm_answers (doLoadSettings_answers _ _) _ _
    · exact withForm_answers (doLoadChannel_answers _ _) _ _
    · exact withForm_answers (doLoadPump_answers _ _) _ _
    · exact withForm_answers (doLoadLimits_answers _ _) _ _
    · exact withForm_answers (doLoadThresholds_answers _ _) _ _
    · exact withForm_answers (doLoadClass_answers _ _) _ _
    · exact withForm_answers (doLoadTariff_answers _ _) _ _
    · exact fun s => answered_refuse s _
    · exact fun s => answered_refuse s _

/-! The requests of the rods, the job and the meter. -/

theorem doSetMode_answers (mode : Nat) : Service.answers (doSetMode mode) := by
  intro s
  unfold doSetMode
  repeat' split
  all_goals simp

theorem doRackPut_answers (slot serial length : Nat) : Service.answers (doRackPut slot serial length) := by
  intro s
  unfold doRackPut
  repeat' split
  all_goals simp

theorem doRackTake_answers (slot : Nat) : Service.answers (doRackTake slot) := by
  intro s
  unfold doRackTake
  repeat' split
  all_goals simp

theorem doBhaAdd_answers (serial length : Nat) : Service.answers (doBhaAdd serial length) := by
  intro s
  unfold doBhaAdd
  repeat' split
  all_goals simp

theorem doBhaRemove_answers : Service.answers doBhaRemove := by
  intro s
  unfold doBhaRemove
  repeat' split
  all_goals simp

theorem doHoldToSlot_answers (slot : Nat) : Service.answers (doHoldToSlot slot) := by
  intro s
  unfold doHoldToSlot
  repeat' split
  all_goals simp

theorem doDepthCorrect_answers (new : Int) : Service.answers (doDepthCorrect new) := by
  intro s
  unfold doDepthCorrect
  repeat' split
  all_goals simp

theorem doReleaseBank_answers (bank : Nat) : Service.answers (doReleaseBank bank) := by
  intro s
  unfold doReleaseBank
  repeat' split
  all_goals simp

theorem doJobOpen_answers (number customer : Nat) : Service.answers (doJobOpen number customer) := by
  intro s
  unfold doJobOpen
  repeat' split
  all_goals simp

theorem doMudAddition_answers (code quantity : Nat) : Service.answers (doMudAddition code quantity) := by
  intro s
  unfold doMudAddition
  repeat' split
  all_goals simp

theorem doReleaseTicket_answers (number : Nat) : Service.answers (doReleaseTicket number) := by
  intro s
  unfold doReleaseTicket
  repeat' split
  all_goals simp

/-! The requests with one test. -/

theorem oneTest_answers {c : State → Prop} [DecidablePred c] {t : State → State} {r : State → Reply}
    {code : ReplyCode} (h : ∀ s, Answered s (t s, r s)) :
    Service.answers fun s => if c s then (t s, r s) else refuse code s := by
  intro s
  dsimp only
  split
  · exact h s
  · exact answered_refuse s code

theorem doClearTables_answers : Service.answers doClearTables := by
  intro s
  unfold doClearTables
  split <;> simp

theorem doTripReset_answers : Service.answers doTripReset := oneTest_answers fun _ => .inl rfl
theorem doJobSuspend_answers : Service.answers doJobSuspend := oneTest_answers fun _ => .inl rfl
theorem doJobResume_answers : Service.answers doJobResume := oneTest_answers fun _ => .inl rfl
theorem doJobClose_answers : Service.answers doJobClose := oneTest_answers fun _ => .inl rfl
theorem doTicketNow_answers : Service.answers doTicketNow := oneTest_answers fun _ => .inl rfl

/-! The READ requests. -/

theorem doReadRow_answers (table row part : Nat) : Service.answers (doReadRow table row part) := by
  intro s
  unfold doReadRow
  repeat' split
  all_goals simp

theorem doReadInput_answers (index part : Nat) : Service.answers (doReadInput index part) := by
  intro s
  unfold doReadInput
  split <;> simp

theorem doReadBalance_answers (index part : Nat) : Service.answers (doReadBalance index part) := by
  intro s
  unfold doReadBalance
  repeat' split
  all_goals simp

theorem doReadRack_answers (slot part : Nat) : Service.answers (doReadRack slot part) := by
  intro s
  unfold doReadRack
  split <;> simp

theorem doReadString_answers (index part : Nat) : Service.answers (doReadString index part) := by
  intro s
  unfold doReadString
  split <;> simp

theorem doReadRecord_answers (bank index part : Nat) : Service.answers (doReadRecord bank index part) := by
  intro s
  unfold doReadRecord
  repeat' split
  all_goals simp

theorem doReadTicket_answers (number part : Nat) : Service.answers (doReadTicket number part) := by
  intro s
  unfold doReadTicket
  repeat' split
  all_goals simp

/-- Every service of section 12.2 answers DONE or refuses without effect. -/
theorem serviceOf_answers {code : Nat} {p : List Byte} {g : Service} (h : serviceOf code p = some g) :
    g.answers := by
  unfold serviceOf at h
  split at h <;> cases h
  · exact withForm_answers (fun s => answered_whole s s _) _ _
  · exact withForm_answers (doReadStatus_answers _) _ _
  · exact loadRowService_answers p
  · exact withForm_answers (doReadRow_answers _ _ _) _ _
  · exact withForm_answers doClearTables_answers _ _
  · exact withForm_answers (doSetMode_answers _) _ _
  · exact withForm_answers (fun s => answered_plain_done s _) _ _
  · exact withForm_answers (fun s => answered_plain_done s _) _ _
  · exact withForm_answers (doReadInput_answers _ _) _ _
  · exact withForm_answers (doReadBalance_answers _ _) _ _
  · exact withForm_answers doTripReset_answers _ _
  · exact withForm_answers (fun s => answered_part s _ _) _ _
  · exact withForm_answers (doRackPut_answers _ _ _) _ _
  · exact withForm_answers (doRackTake_answers _) _ _
  · exact withForm_answers (doBhaAdd_answers _ _) _ _
  · exact withForm_answers doBhaRemove_answers _ _
  · exact withForm_answers (doHoldToSlot_answers _) _ _
  · exact withForm_answers (fun s => answered_plain_done s _) _ _
  · exact withForm_answers (doReadRack_answers _ _) _ _
  · exact withForm_answers (doReadString_answers _ _) _ _
  · exact withForm_answers (doDepthCorrect_answers _) _ _
  · exact withForm_answers (fun s => answered_part s _ _) _ _
  · exact withForm_answers (fun s => answered_part s _ _) _ _
  · exact withForm_answers (doReadRecord_answers _ _ _) _ _
  · exact withForm_answers (doReleaseBank_answers _) _ _
  · exact withForm_answers (doJobOpen_answers _ _) _ _
  · exact withForm_answers doJobSuspend_answers _ _
  · exact withForm_answers doJobResume_answers _ _
  · exact withForm_answers doJobClose_answers _ _
  · exact withForm_answers (fun s => answered_part s _ _) _ _
  · exact withForm_answers (doMudAddition_answers _ _) _ _
  · exact withForm_answers doTicketNow_answers _ _
  · exact withForm_answers (doReleaseTicket_answers _) _ _
  · exact withForm_answers (doReadTicket_answers _ _) _ _

/-! ### What a REQUEST frame for the part comes to (R160, R165) -/

section Frames

variable {f : Frame} {s : State}

theorem serveFrame_of_occupied (hslot : s.slotOccupied = true) : serveFrame f s = s := by
  unfold serveFrame serve
  split <;> exact if_pos hslot

variable (hslot : s.slotOccupied = false)
include hslot

theorem finish_serveFrame_unknown (hcode : serviceOf f.tag.toNat f.payload = none) :
    finish (serveFrame f s) = Machine.answers s ⟨f.src, f.seq⟩ f.tag (.plain .refusedUnknown) := by
  unfold serveFrame serve
  rw [hcode]
  simp [finish, Machine.answers, hslot, refuse]

theorem finish_serveFrame_starting {g : Service} (hcode : serviceOf f.tag.toNat f.payload = some g)
    (hmode : s.mode = .starting) (hearly : runsInStarting f.tag.toNat = false) :
    finish (serveFrame f s) = Machine.answers s ⟨f.src, f.seq⟩ f.tag (.plain .refusedState) := by
  unfold serveFrame
  rw [hcode, hearly]
  exact finish_serve_of_starting hslot hmode

theorem finish_serveFrame_executed {g : Service} (hcode : serviceOf f.tag.toNat f.payload = some g)
    (hruns : s.mode ≠ .starting ∨ runsInStarting f.tag.toNat = true) : finish (serveFrame f s) =
      Machine.answers (g s).1 ⟨f.src, f.seq⟩ f.tag (g s).2 := by
  unfold serveFrame serve
  rw [hcode]
  dsimp only
  rw [if_neg (by rw [hslot]; nofun), if_neg (by rintro ⟨hm, he⟩; simp_all)]
  rfl

end Frames

/-! ### Requests answer once or are lost (R160, R165) -/

theorem State.slotOccupied_eq_false {s : State} (hslot : s.trunk.replySlot = none)
    (hdue : s.mgmt.restartDue = false) : s.slotOccupied = false := by
  simp [State.slotOccupied, hslot, hdue]

/-- A request row's code is known. -/
theorem Instr.serviceOf_request {c : Instr} {h : ReqHeader} {code : Byte} {p : List Byte}
    (hc : c.request = some (h, code, p)) : ∃ g, serviceOf code.toNat p = some g := by
  cases c <;> cases hc <;> exact ⟨_, rfl⟩

/-- An executed request's changes leave the reply slot and the waiting commands. -/
theorem Served.slot_pending {s w : State} {code : Nat} (h : Served s code w) :
    w.trunk.replySlot = s.trunk.replySlot ∧ w.pending = s.pending := by
  cases h with
  | same => exact ⟨rfl, rfl⟩
  | statusRead => exact ⟨rfl, rfl⟩
  | effect _ heffect => exact ⟨heffect.moved.replySlot_eq, heffect.pending_eq⟩

/-- Settles O10: the three arms of a request's service, and each service's own answer. -/
theorem requestsAnswerOnceOrAreLost : Obligations.RequestsAnswerOnceOrAreLost := by
  refine ⟨fun c h code p s hc => ⟨fun hoccupied => ?_, fun hslot hdue hmode h1 h2 => ?_⟩,
    fun c h code p s hc hslot hdue => ?_⟩
  all_goals
    rw [← finish_serveFrame_request hc 63 s]
    obtain ⟨g, hg⟩ := Instr.serviceOf_request hc
  · have hocc : s.slotOccupied = true := by
      simpa [State.slotOccupied] using hoccupied
    rw [serveFrame_of_occupied hocc]
    rfl
  · have hearly : runsInStarting code.toNat = false := by
      simp only [runsInStarting, Bool.or_eq_false_iff, beq_eq_false_iff_ne]
      exact ⟨fun hn => h1 (BitVec.eq_of_toNat_eq hn), fun hn => h2 (BitVec.eq_of_toNat_eq hn)⟩
    exact finish_serveFrame_starting (State.slotOccupied_eq_false hslot hdue) hg hmode hearly
  · have hfree := State.slotOccupied_eq_false hslot hdue
    by_cases hruns : s.mode ≠ .starting ∨ runsInStarting code.toNat = true
    · refine ⟨(g s).1, (g s).2, finish_serveFrame_executed hfree hg hruns, ?_⟩
      obtain ⟨hkept, hpending⟩ := (serviceOf_served hg s).slot_pending
      refine ⟨hkept.trans hslot, hpending, fun hdone hclamped => ?_⟩
      rcases serviceOf_answers hg s with hcode | hcode | ⟨r, hrefused⟩
      · exact absurd hcode hdone
      · exact absurd hcode hclamped
      · rw [hrefused]
        exact ⟨rfl, rfl⟩
    · obtain ⟨hmode, hearly⟩ := not_or.mp hruns
      exact ⟨s, _, finish_serveFrame_starting hfree hg (not_not.mp hmode) (by simpa using hearly), hslot, rfl,
        fun _ _ => ⟨rfl, rfl⟩⟩

end Sys2Proof.Machine
end

section
/-! Replies of one part, IDENTIFY and READ STATUS, and the requests refused by their code, table or length
(R165, R166, R168, R175, R177). -/

namespace Sys2Proof.Machine

/-! ### A request that is served (R160, R165) -/

theorem finish_serve_of_free {early : Bool} {tag : Byte} {h : ReqHeader} {f : State → State × Reply} {s : State}
    (hslot : s.slotOccupied = false) (hruns : s.mode ≠ .starting ∨ early = true) :
    finish (serve early tag h f s) = answers (f s).1 h tag (f s).2 := by
  unfold serve
  rw [if_neg (by rw [hslot]; nofun), if_neg fun ⟨hm, he⟩ => hruns.elim (fun hn => hn hm) fun ht => by
    rw [ht] at he; cases he]
  rfl

/-! ### A reply of one part (R177) -/

theorem splitFrom_of_fits {used : Nat} {fs : List Field} (h : used + (fs.map Field.width).sum ≤ 43) :
    splitFrom used fs = [fs] := by
  induction fs generalizing used with
  | nil => rfl
  | cons f fs ih =>
    rw [List.map_cons, List.sum_cons] at h
    have hroom : used + f.width ≤ Config.partBytes := by
      have : used + f.width ≤ 43 := by omega
      exact this
    rw [splitFrom, if_pos hroom, ih (by omega)]

theorem parts_of_fits {fs : List Field} (h : (fs.map Field.width).sum ≤ 43) : parts fs = [fs] :=
  splitFrom_of_fits (by omega)

theorem replyPart_first {fs : List Field} (h : (fs.map Field.width).sum ≤ 43) :
    replyPart fs 0 = ⟨.done, partData 0 1 fs⟩ := by
  rw [replyPart, parts_of_fits h]
  rfl

theorem replyPart_beyond {fs : List Field} {part : Nat} (h : (parts fs).length ≤ part) :
    replyPart fs part = .plain .refusedValue := by
  rw [replyPart, List.getElem?_eq_none h]

/-- A number that fits its field is sent as it is (chapter 12). -/
theorem sendNumber_of_lt {w n : Nat} (h : n < 2 ^ (8 * w)) : sendNumber w false n = bytesOfNat w n := by
  have hcast : (n : Int) < (2 : Int) ^ (8 * w) := by exact_mod_cast h
  have hfits : fitsField w false n = true := by simp [fitsField, hcast]
  have hmod : ((n : Int) % (2 : Int) ^ (8 * w)).toNat = n := by
    rw [Int.emod_eq_of_lt (Int.natCast_nonneg n) hcast, Int.toNat_natCast]
  rw [sendNumber, if_pos hfits, hmod]

theorem serial_lt : Config.serial < 2 ^ 24 := by
  have h : Config.serialBelow.val < 16777215 := Config.serialBelow.isLt
  unfold Config.serial
  omega

@[simp] theorem fN_bytes (w v : Nat) : (fN w v).bytes = sendNumber w false v := rfl

theorem identity_reply : replyWhole [fN 1 Config.vendorCode, fN 4 Config.partCode, fN 4 Config.revision,
    fN 4 Config.serial] =
      ⟨.done, [0, 1, 0, 0, 90, 0, 0, 2, 48, 0, 0, 0, 1] ++ bytesOfNat 4 Config.serial⟩ := by
  have hserial : sendNumber 4 false Config.serial = bytesOfNat 4 Config.serial :=
    sendNumber_of_lt (serial_lt.trans (by decide))
  have hvendor : sendNumber 1 false Config.vendorCode = [90] := by decide
  have hpart : sendNumber 4 false Config.partCode = [0, 0, 2, 48] := by decide
  have hrevision : sendNumber 4 false Config.revision = [0, 0, 0, 1] := by decide
  rw [replyWhole, partData_of_presenceMask rfl]
  simp only [List.flatMap_cons, List.flatMap_nil, fN_bytes, hvendor, hpart, hrevision, hserial, List.append_nil]
  rfl

/-- Settles O12: each reply is its one part, and READ STATUS clears the flag its reply carries. -/
theorem identifyAndReadStatusAnswer : Obligations.IdentifyAndReadStatusAnswer := by
  intro h part s hslot hdue a b fields
  have hfree := State.slotOccupied_eq_false hslot hdue
  have hwidth : (fields.map Field.width).sum = 38 := by simp [fields, fN, fB, oN, oZ]
  have hserved : exec (.readStatus h part) s =
      answers (doReadStatus part.toNat s).1 h 2 (doReadStatus part.toNat s).2 :=
    finish_serve_of_free (early := true) (f := doReadStatus part.toNat) hfree (.inr rfl)
  have hreply : doReadStatus part.toNat s = if (replyPart fields part.toNat).code = .done then
      (s.onTrunk fun t => { t with overflow := false }, replyPart fields part.toNat)
      else (s, replyPart fields part.toNat) := rfl
  refine ⟨?_, hwidth, fun hpart => ?_, fun hpart => ?_⟩
  · rw [← identity_reply]
    exact finish_serve_of_free (early := true) (f := doIdentify) hfree (.inr rfl)
  · rw [hserved, hreply, hpart, show (0 : Byte).toNat = 0 from rfl, replyPart_first (by omega)]
    rfl
  · have hbeyond : replyPart fields part.toNat = .plain .refusedValue := by
      refine replyPart_beyond ?_
      rw [parts_of_fits (by omega)]
      have hne : part.toNat ≠ 0 := fun hz => hpart (BitVec.eq_of_toNat_eq hz)
      exact Nat.pos_of_ne_zero hne
    rw [hserved, hreply, hbeyond]
    rfl

/-! ### Unknown codes and misshapen requests (R165, R166) -/

theorem serviceOf_eq_none {code : Nat} (p : List Byte) (hcode : code ≠ 3) (h : requestLength code = none) :
    serviceOf code p = none := by
  unfold serviceOf
  split <;> first | rfl | exact absurd rfl hcode | cases h

/-- A known request but LOAD ROW asks for the length of its argument form. -/
theorem serviceOf_eq_withForm {code n : Nat} (p : List Byte) (h : requestLength code = some n) :
    ∃ g, serviceOf code p = some (withForm p n g) := by
  unfold requestLength at h
  split at h <;> cases h <;> exact ⟨_, rfl⟩

theorem withForm_of_badLength {p : List Byte} {n : Nat} (h : p.length ≠ n) (g : Service) :
    withForm p n g = refuse .refusedValue := if_neg h

theorem loadRowService_unknown {table : Byte} {rest : List Byte} (h : table = 0 ∨ 8 < table.toNat) :
    loadRowService (table :: rest) = refuse .refusedUnknown := by
  have hrange : table.toNat = 0 ∨ 8 < table.toNat := h.imp_left fun h => by rw [h]; rfl
  unfold loadRowService
  dsimp only
  split <;> first | rfl | omega

/-- A table that has a row form asks for its length, the table byte and the row byte before it. -/
theorem loadRowService_eq_withForm {table : Byte} {rest : List Byte} {n : Nat}
    (h : rowFormBytes table.toNat = some n) :
    ∃ g, loadRowService (table :: rest) = withForm rest (n + 1) g := by
  unfold rowFormBytes at h
  unfold loadRowService
  dsimp only
  split at h <;> cases h
  all_goals
    next htable =>
    rw [htable]
    exact ⟨_, rfl⟩

/-- Settles O11: the code decides the service, the service its argument form, LOAD ROW's its table. -/
theorem unknownAndMisshapenRequestsAreRefused : Obligations.UnknownAndMisshapenRequestsAreRefused := by
  intro f s hlen hkind hdest hslot hdue
  have hfree := State.slotOccupied_eq_false hslot hdue
  rw [exec_cabFrame_bytes hlen, cabArrival_request hdest hkind]
  have hrefused : ∀ {g : Service} {c : ReplyCode}, serviceOf f.tag.toNat f.payload = some g →
      g = refuse c → s.mode ≠ .starting →
      finish (serveFrame f s) = answers s ⟨f.src, f.seq⟩ f.tag (.plain c) := fun hcode hg hmode => by
    rw [finish_serveFrame_executed hfree hcode (.inl hmode), hg]
    rfl
  refine ⟨fun htag hnone => ?_, fun hmode htag n hn hbad => ?_, fun hmode htag => ?_⟩
  · have hcode : f.tag.toNat ≠ 3 := fun h => htag (BitVec.eq_of_toNat_eq h)
    exact finish_serveFrame_unknown hfree (serviceOf_eq_none _ hcode hnone)
  · obtain ⟨g, hg⟩ := serviceOf_eq_withForm f.payload hn
    exact hrefused hg (withForm_of_badLength hbad g) hmode
  · have hload : serviceOf f.tag.toNat f.payload = some (loadRowService f.payload) := by
      rw [htag]
      rfl
    rw [← htag]
    refine ⟨fun hempty => hrefused hload (by rw [hempty]; rfl) hmode, fun table rest hp => ?_⟩
    rw [hp] at hload hrefused
    refine ⟨fun htable => ?_, fun htable => ?_, fun n hform hbad => ?_⟩
    · exact hrefused hload (loadRowService_unknown htable) hmode
    · exact hrefused hload (by rw [htable]; rfl) hmode
    · obtain ⟨g, hg⟩ := loadRowService_eq_withForm (rest := rest) hform
      exact hrefused hload (hg.trans (withForm_of_badLength hbad g)) hmode

end Sys2Proof.Machine
end

section
/-! Malformed byte sequences, and the frames that are forwarded, dropped or discarded (R153 to R156). -/

namespace Sys2Proof.Machine

/-! ### The arrival check (R153) -/

theorem addrOfByte_eq_none_iff (b : Byte) : addrOfByte b = none ↔ 63 < b.toNat := by
  unfold addrOfByte
  split
  · exact ⟨nofun, fun h => by omega⟩
  · exact ⟨fun _ => by omega, fun _ => rfl⟩

theorem FrameKind.ofCode_eq_none_iff (b : Byte) :
    FrameKind.ofCode b = none ↔ ¬(1 ≤ b.toNat ∧ b.toNat ≤ 6) := by
  refine ⟨fun hnone hrange => ?_, fun hrange => ?_⟩
  · have hcode : b.toNat = 1 ∨ b.toNat = 2 ∨ b.toNat = 3 ∨ b.toNat = 4 ∨ b.toNat = 5 ∨ b.toNat = 6 := by omega
    rcases hcode with h | h | h | h | h | h <;> rw [FrameKind.ofCode, h] at hnone <;> cases hnone
  · unfold FrameKind.ofCode
    split <;> first | rfl | omega

/-- A 16-bit check read from its two bytes. -/
theorem natOfBytes_eq_iff {check : BitVec 16} {tail : List Byte} (h : tail.length = 2) :
    natOfBytes tail = check.toNat ↔ check = BitVec.ofNat 16 (natOfBytes tail) := by
  have hlt : natOfBytes tail < 2 ^ 16 := by
    have := natOfBytes_lt tail
    rwa [h] at this
  rw [BitVec.toNat_eq, BitVec.toNat_ofNat, Nat.mod_eq_of_lt hlt, eq_comm]

/-- The six bytes of head and the check decide whether a sequence is a frame. -/
theorem parseFrame_isSome_iff (d s k tag seq len : Byte) (rest : List Byte) :
    (parseFrame (d :: s :: k :: tag :: seq :: len :: rest)).isSome = true ↔
      (len.toNat ≤ 48 ∧ rest.length = len.toNat + 2) ∧ d.toNat ≤ 63 ∧ s.toNat ≤ 63 ∧
      (1 ≤ k.toNat ∧ k.toNat ≤ 6) ∧
      natOfBytes (rest.drop len.toNat) =
        (crc16 (d :: s :: k :: tag :: seq :: len :: rest.take len.toNat)).toNat := by
  have hd := addrOfByte_eq_none_iff d
  have hs := addrOfByte_eq_none_iff s
  have hk := FrameKind.ofCode_eq_none_iff k
  rw [parseFrame]
  split
  · next hlen =>
    split
    · next dest src kind hdest hsrc hkind =>
      rw [hdest] at hd
      rw [hsrc] at hs
      rw [hkind] at hk
      have hd' : d.toNat ≤ 63 := not_lt.mp fun h => nomatch hd.mpr h
      have hs' : s.toNat ≤ 63 := not_lt.mp fun h => nomatch hs.mpr h
      have hk' : 1 ≤ k.toNat ∧ k.toNat ≤ 6 := by_contra fun h => nomatch hk.mpr h
      dsimp only
      split
      · next hcheck => exact iff_of_true rfl ⟨hlen, hd', hs', hk', hcheck⟩
      · next hcheck => exact iff_of_false nofun fun h => hcheck h.2.2.2.2
    · next hsome =>
      refine iff_of_false nofun fun ⟨_, hd', hs', hk', _⟩ => ?_
      obtain ⟨dest, hdest⟩ := Option.ne_none_iff_exists'.mp fun h => (hd.mp h).not_ge hd'
      obtain ⟨src, hsrc⟩ := Option.ne_none_iff_exists'.mp fun h => (hs.mp h).not_ge hs'
      obtain ⟨kind, hkind⟩ := Option.ne_none_iff_exists'.mp fun h => (hk.mp h) hk'
      exact hsome dest src kind hdest hsrc hkind
  · next hlen => exact iff_of_false nofun fun h => hlen h.1

theorem parseFrame_short {bytes : List Byte} (h : bytes.length < 8) : parseFrame bytes = none := by
  cases hp : parseFrame bytes with
  | none => rfl
  | some f =>
    obtain ⟨hbytes, -⟩ := bytes_of_parseFrame hp
    rw [← hbytes, Frame.bytes_eq] at h
    simp only [List.length_cons, List.length_append, bytesOfNat_length] at h
    omega

/-- The arrival check takes exactly the sequences that are not malformed (R153). -/
theorem parseFrame_eq_none_iff (bytes : List Byte) : parseFrame bytes = none ↔ malformed bytes := by
  rcases lt_or_ge bytes.length 8 with hshort | hlong
  · exact iff_of_true (parseFrame_short hshort) (.inl hshort)
  · match bytes, hlong with
    | d :: s :: k :: tag :: seq :: len :: rest, hlong =>
      have hcheck : rest.length = len.toNat + 2 →
          (natOfBytes (rest.drop len.toNat) =
            (crc16 (d :: s :: k :: tag :: seq :: len :: rest.take len.toNat)).toNat ↔
          crc16 ((d :: s :: k :: tag :: seq :: len :: rest).take
              ((d :: s :: k :: tag :: seq :: len :: rest).length - 2)) =
            BitVec.ofNat 16 (natOfBytes ((d :: s :: k :: tag :: seq :: len :: rest).drop
              ((d :: s :: k :: tag :: seq :: len :: rest).length - 2)))) := by
        intro hrest
        have hcut : (d :: s :: k :: tag :: seq :: len :: rest).length - 2 = len.toNat + 6 := by
          simp only [List.length_cons, hrest]
          omega
        rw [hcut]
        exact natOfBytes_eq_iff (by simp [hrest])
      have hsome := parseFrame_isSome_iff d s k tag seq len rest
      rw [← Option.not_isSome_iff_eq_none, hsome]
      unfold malformed
      simp only [List.length_cons, List.getD_cons_succ, List.getD_cons_zero] at hlong hcheck ⊢
      constructor
      · intro hnot
        by_contra hmal
        push Not at hmal
        obtain ⟨-, hlen, htotal, hkind, hdest, hsrc, hcrc⟩ := hmal
        exact hnot ⟨⟨by omega, by omega⟩, by omega, by omega, hkind, (hcheck (by omega)).mpr hcrc⟩
      · rintro hmal ⟨⟨hlen, hrest⟩, hdest, hsrc, hkind, hcrc⟩
        rw [hcheck hrest] at hcrc
        rcases hmal with h | h | h | h | h | h | h
        · omega
        · omega
        · omega
        · exact h hkind
        · omega
        · omega
        · exact h hcrc

/-! ### Frames that are forwarded or dropped (R154 to R156) -/

theorem State.offerCab_of_room {s : State} (f : Frame) (h : s.trunk.cabFifo.length < 16) :
    s.offerCab f = { s with trunk := { s.trunk with cabFifo := s.trunk.cabFifo ++ [f] } } :=
  congrArg (fun t => { s with trunk := t }) (if_pos h)

theorem State.offerCab_of_full {s : State} (f : Frame) (h : 16 ≤ s.trunk.cabFifo.length) :
    s.offerCab f = { s with trunk := { s.trunk with dropsToCab := min 65535 (s.trunk.dropsToCab + 1) } } :=
  congrArg (fun t => { s with trunk := t }) (if_neg h.not_gt)

theorem State.offerField_of_room {s : State} (f : Frame) (h : s.trunk.fieldFifo.length < 8) :
    s.offerField f = { s with trunk := { s.trunk with fieldFifo := s.trunk.fieldFifo ++ [f] } } :=
  congrArg (fun t => { s with trunk := t }) (if_pos h)

theorem State.offerField_of_full {s : State} (f : Frame) (h : 8 ≤ s.trunk.fieldFifo.length) :
    s.offerField f = { s with trunk := { s.trunk with dropsToField := min 65535 (s.trunk.dropsToField + 1) } } :=
  congrArg (fun t => { s with trunk := t }) (if_neg h.not_gt)

/-- A row takes the frames of its node, kind and channel while it is enabled (R1). -/
theorem ChannelRow.takes_iff (r : ChannelRow) (f : Frame) : r.takes f = true ↔
    r.enabled = true ∧ f.src.val = r.node ∧ f.kind.code.toNat = r.kind ∧ f.tag.toNat = r.channel := by
  simp [ChannelRow.takes, and_assoc]

theorem State.inputOf_eq_none_iff (s : State) (f : Frame) :
    s.inputOf f = none ↔ ∀ i : InputId, (s.channel i).takes f = false := by
  simp [State.inputOf, List.find?_eq_none]

theorem condition_of_none {f : Frame} {s : State} (h : s.inputOf f = none) : condition f s = s := by
  unfold condition
  rw [h]

theorem State.isHandlerReport_iff (s : State) (f : Frame) : s.isHandlerReport f = true ↔
    f.kind = .status ∧ (1 ≤ s.limits.handler ∧ s.limits.handler ≤ 62) ∧ f.src.val = s.limits.handler := by
  simp [State.isHandlerReport, and_assoc]

theorem checkStarting_of_not {s : State} (h : s.mode ≠ .starting ∨ s.mgmt.checksDone = false) :
    checkStarting s = s := by
  have hnot : s.startingEnds = false := by
    rcases h with h | h <;> simp [State.startingEnds, h]
  rw [checkStarting, hnot]
  rfl

/-- A field frame for no input and from no handler is offered toward the cab alone (R154). -/
theorem fieldArrival_forwarded {f : Frame} {s : State}
    (hmode : s.mode ≠ .starting ∨ s.mgmt.checksDone = false) (hinput : s.inputOf f = none)
    (hreport : s.isHandlerReport f = false) : fieldArrival f s = s.offerCab f := by
  have hsame : condition f (s.offerCab f) = s.offerCab f := condition_of_none hinput
  unfold fieldArrival
  rw [hreport, hsame]
  exact checkStarting_of_not hmode

theorem State.pumpAt_eq_none {s : State} {a : Addr}
    (h : ∀ p : PumpId, (s.tables.pumps[p]).node ≠ 0 → a.val ≠ (s.tables.pumps[p]).node) :
    s.pumpAt a = none := by
  have hnot : ∀ p : PumpId, (s.used p && a.val == (s.pumpRow p).node) = false := by
    intro p
    simpa [State.used, State.pumpRow] using h p
  simp [State.pumpAt, hnot]

/-- A cab frame that is neither for the part nor for a pump or the handler is offered toward the field alone
(R155). -/
theorem cabArrival_forwarded {f : Frame} {s : State} (hcab : f.dest.val ≠ 63) (hown : f.dest ≠ s.trunkAddr)
    (hset : f.kind = .setpoint →
      (∀ p : PumpId, (s.tables.pumps[p]).node ≠ 0 → f.dest.val ≠ (s.tables.pumps[p]).node) ∧
      (s.tables.limits.handler ≠ 0 → f.dest.val ≠ s.tables.limits.handler)) :
    cabArrival f s = s.offerField f := by
  have hnot : ¬s.isOwnAddress f.dest = true := fun h => ((s.isOwnAddress_iff _).mp h).elim hcab hown
  unfold cabArrival
  rw [if_neg hnot]
  split
  · next hkind =>
    obtain ⟨hpumps, hhandler⟩ := hset hkind
    have hnode : s.isHandlerNode f.dest = false := by
      simpa [State.isHandlerNode, State.limits] using hhandler
    unfold setpointArrival
    rw [State.pumpAt_eq_none hpumps, hnode]
    rfl
  · rfl

/-- Settles O6: each arm of the two arrivals under the tests that lead to it. -/
theorem framesAreForwardedOrDiscarded : Obligations.FramesAreForwardedOrDiscarded := by
  refine ⟨fun bytes s => ⟨parseFrame_eq_none_iff bytes, fun hmal => ?_⟩,
    fun f s hlen hmode hinput hreport => ?_, fun f s hlen => ⟨fun hown hkind => ?_, fun hcab hown hset => ?_⟩⟩
  · have hnone := (parseFrame_eq_none_iff bytes).mpr hmal
    have hfield : fieldBytes bytes s = s.countFieldError := by rw [fieldBytes, hnone]
    have hcab : cabBytes bytes s = s.countCabError := by rw [cabBytes, hnone]
    exact ⟨congrArg finish hfield, congrArg finish hcab⟩
  · have hnone : s.inputOf f = none := (s.inputOf_eq_none_iff f).mpr fun i => by
      rw [Bool.eq_false_iff, Ne, ChannelRow.takes_iff]
      exact fun ⟨henabled, htaken⟩ => hinput i henabled htaken
    have hnot : s.isHandlerReport f = false := by
      rw [Bool.eq_false_iff, Ne, State.isHandlerReport_iff]
      rintro ⟨hkind, ⟨hlow, -⟩, hsrc⟩
      rcases hreport with h | h | h
      · exact h hkind
      · exact absurd (show s.limits.handler = 0 from h) (by omega)
      · exact h hsrc
    rw [exec_fieldFrame_bytes hlen, fieldArrival_forwarded hmode hnone hnot]
    exact ⟨fun hroom => congrArg finish (State.offerCab_of_room f hroom),
      fun hfull => congrArg finish (State.offerCab_of_full f hfull)⟩
  · rw [exec_cabFrame_bytes hlen, cabArrival, if_pos ((s.isOwnAddress_iff _).mpr hown), if_neg hkind]
    rfl
  · rw [exec_cabFrame_bytes hlen, cabArrival_forwarded hcab hown hset]
    exact ⟨fun hroom => congrArg finish (State.offerField_of_room f hroom),
      fun hfull => congrArg finish (State.offerField_of_full f hfull)⟩

end Sys2Proof.Machine
end

section
/-! How replies are laid out: the parts of the general replies, of a record and of a ticket (R120, R151,
R177, section 12.3). -/

namespace Sys2Proof.Machine

/-! ### Fields at their widths -/

@[simp] theorem sendNumber_length (w : Nat) (signed : Bool) (v : Int) : (sendNumber w signed v).length = w := by
  unfold sendNumber
  split <;> exact bytesOfNat_length _ _

@[simp] theorem fZ_bytes (w : Nat) (v : Int) : (fZ w v).bytes = sendNumber w true v := rfl

@[simp] theorem fB_bytes (b : Bool) : (fB b).bytes = sendNumber 1 false b.toNat := rfl

/-- A part's number and a code are bytes. -/
theorem sendNumber_byte {n : Nat} (h : n < 256) : sendNumber 1 false n = bytesOfNat 1 n := sendNumber_of_lt h

/-! ### The parts of a reply (R177) -/

/-- Parts that hold their fields, the first after `used` bytes: none past 43, and each but the last ends only
where the next field would pass them. -/
def laidOut (used : Nat) : List (List Field) → Prop
  | [] => False
  | [p] => used + (p.map Field.width).sum ≤ 43
  | p :: q :: ps => used + (p.map Field.width).sum ≤ 43 ∧
      (∀ f r, q = f :: r → 43 < used + (p.map Field.width).sum + f.width) ∧ laidOut 0 (q :: ps)

theorem laidOut_cons_field {used : Nat} {f : Field} {p : List Field} {ps : List (List Field)}
    (h : laidOut (used + f.width) (p :: ps)) : laidOut used ((f :: p) :: ps) := by
  cases ps with
  | nil =>
    unfold laidOut at h ⊢
    rw [List.map_cons, List.sum_cons]
    omega
  | cons q ps =>
    unfold laidOut at h ⊢
    rw [List.map_cons, List.sum_cons]
    obtain ⟨hfits, hnext, hrest⟩ := h
    refine ⟨by omega, fun g r hq => ?_, hrest⟩
    have := hnext g r hq
    omega

/-- The splitting of R177 by its recursion over the fields. -/
theorem splitFrom_laidOut {used : Nat} {fs : List Field} (hused : used ≤ 43) (hw : ∀ f ∈ fs, f.width ≤ 43) :
    laidOut used (splitFrom used fs) ∧ (splitFrom used fs).flatten = fs := by
  induction fs generalizing used with
  | nil => exact ⟨by simpa [splitFrom, laidOut] using hused, rfl⟩
  | cons f fs ih =>
    have hwf : f.width ≤ 43 := hw f List.mem_cons_self
    have hwfs : ∀ g ∈ fs, g.width ≤ 43 := fun g hg => hw g (List.mem_cons_of_mem _ hg)
    unfold splitFrom
    by_cases hroom : used + f.width ≤ Config.partBytes
    · obtain ⟨hlaid, hflat⟩ := ih hroom hwfs
      rw [if_pos hroom]
      generalize splitFrom (used + f.width) fs = ps at hlaid hflat
      cases ps with
      | nil => exact hlaid.elim
      | cons p ps => exact ⟨laidOut_cons_field hlaid, congrArg (f :: ·) hflat⟩
    · obtain ⟨hlaid, hflat⟩ := ih hwf hwfs
      rw [if_neg hroom]
      generalize splitFrom f.width fs = ps at hlaid hflat
      cases ps with
      | nil => exact hlaid.elim
      | cons p ps =>
        refine ⟨⟨hused, fun g r hq => ?_, laidOut_cons_field (by rwa [Nat.zero_add])⟩, congrArg (f :: ·) hflat⟩
        obtain ⟨rfl, -⟩ := List.cons.inj hq
        exact not_le.mp hroom

theorem laidOut_zero_of_laidOut {ps : List (List Field)} {p : List Field} (h : laidOut 0 (p :: ps))
    (hps : ps ≠ []) : laidOut 0 ps := by
  cases ps with
  | nil => exact absurd rfl hps
  | cons q ps => exact h.2.2

/-- Each part fits, and the next one's first field would not have. -/
theorem laidOut_part {ps : List (List Field)} (h : laidOut 0 ps) {k : Nat} {p : List Field}
    (hp : ps[k]? = some p) : (p.map Field.width).sum ≤ 43 ∧
      ∀ f q, ps[k + 1]? = some (f :: q) → 43 < (p.map Field.width).sum + f.width := by
  induction ps generalizing k with
  | nil => exact h.elim
  | cons a ps ih =>
    cases k with
    | zero =>
      obtain rfl := Option.some.inj hp
      cases ps with
      | nil => exact ⟨by simpa [laidOut] using h, fun f q hq => by simp at hq⟩
      | cons b ps =>
        obtain ⟨hfits, hnext, -⟩ := h
        rw [Nat.zero_add] at hfits
        exact ⟨hfits, fun f q hq => by simpa using hnext f q (Option.some.inj hq)⟩
    | succ k =>
      have hne : ps ≠ [] := fun he => by
        rw [he] at hp
        simp at hp
      exact ih (laidOut_zero_of_laidOut h hne) hp

theorem replyPart_of_part {fs p : List Field} {k : Nat} (h : (parts fs)[k]? = some p) :
    replyPart fs k = ⟨.done, bytesOfNat 1 k ++ bytesOfNat 1 (parts fs).length ++
      bytesOfNat 2 (presenceMask p) ++ p.flatMap Field.bytes⟩ := by
  rw [replyPart, h]
  rfl

/-! ### The parts of a stored record (R120) -/

theorem bankOf_eq {n : Nat} {b : Fin 2} (h : n = b.val) : bankOf n = some b := by
  subst h
  fin_cases b <;> rfl

theorem State.bank_sub (s : State) (b : Fin 2) : s.banks[1 - b] = s.banks[otherBank b] := by
  fin_cases b <;> rfl

theorem doReadRecord_of_record {b : Fin 2} {bank k part : Nat} {r : ClosedRecord} {s : State} {fs : List Field}
    (hbank : bank = b.val) (hk : k ≠ 255) (hstate : s.banks[b].state ≠ .free)
    (hr : s.banks[b].records[k]? = some r) (hpart : recordPart r part = some fs) :
    doReadRecord bank k part s = (s, ⟨.done, formBytes (recordHead b part s ++ fs)⟩) := by
  unfold doReadRecord
  rw [if_neg hk, bankOf_eq hbank]
  dsimp only
  rw [if_neg hstate, hr, Option.bind_some, hpart]

theorem exec_readRecord_of_ready {h : ReqHeader} {bank k part : Byte} {s t : State} {a : Reply} (hs : s.ready)
    (hr : doReadRecord bank.toNat k.toNat part.toNat s = (t, a)) :
    exec (.readRecord h bank k part) s = answers t h 64 a := finish_serve_of_ready hs hr

/-! ### The parts of a ticket (R151) -/

theorem vector7_toList (v : Vector Nat 7) : v.toList = [v[0], v[1], v[2], v[3], v[4], v[5], v[6]] := by
  refine List.ext_getElem (by simp) fun i hi _ => ?_
  have hlt : i < 7 := by simpa using hi
  interval_cases i <;> rfl

theorem doReadTicket_of_ticket {number part : Nat} {t : Ticket} {s : State} {fs : List Field}
    (hnumber : number ≠ 0) (ht : s.billing.tickets.find? (fun t => t.number == number) = some t)
    (hpart : ticketPart t part = some fs) :
    doReadTicket number part s = (s, ⟨.done, formBytes (ticketHead t part ++ fs)⟩) := by
  unfold doReadTicket
  rw [if_neg hnumber, ht, Option.bind_some, hpart]
  rfl

theorem exec_readTicket_of_ready {h : ReqHeader} {number : BitVec 16} {part : Byte} {s t : State} {a : Reply}
    (hs : s.ready) (hr : doReadTicket number.toNat part.toNat s = (t, a)) :
    exec (.readTicket h number part) s = answers t h 82 a := finish_serve_of_ready hs hr

/-- Numbers of one width, as the fields of a part send them. -/
theorem formBytes_numbers (w : Nat) (ns : List Nat) :
    formBytes (ns.map (fN w)) = ns.flatMap fun n => sendNumber w false n := by
  simp [formBytes, List.flatMap_map, List.flatMap_assoc]

theorem formBytes_append (fs gs : List Field) : formBytes (fs ++ gs) = formBytes fs ++ formBytes gs :=
  List.flatMap_append

theorem ticketHead_bytes {t : Ticket} {number : BitVec 16} {part : Byte} (hnumber : t.number = number.toNat) :
    formBytes (ticketHead t part.toNat) = sendNumber 4 false t.jobNumber ++ bytesOfNat 2 number.toNat ++
      sendNumber 1 false (t.final.toNat + 2 * t.timeUnset.toNat : Nat) ++ bytesOfNat 1 part.toNat := by
  have hn : sendNumber 2 false (number.toNat : Nat) = bytesOfNat 2 number.toNat := sendNumber_of_lt number.isLt
  have hp : sendNumber 1 false (part.toNat : Nat) = bytesOfNat 1 part.toNat := sendNumber_of_lt part.isLt
  simp [formBytes, ticketHead, hnumber, hn, hp]

theorem ticketHead_length {t : Ticket} (part : Nat) : (formBytes (ticketHead t part)).length = 8 := by
  simp [formBytes, ticketHead]

/-- A part of the ticket found under its number (section 12.3). -/
theorem exec_readTicket_part {h : ReqHeader} {number : BitVec 16} {t : Ticket} {s : State} {part : Byte}
    {fs : List Field} (hs : s.ready) (hnumber : number ≠ 0)
    (ht : s.billing.tickets.find? (fun t => t.number == number.toNat) = some t)
    (hpart : ticketPart t part.toNat = some fs) :
    exec (.readTicket h number part) s = answers s h 82 ⟨.done,
      sendNumber 4 false t.jobNumber ++ bytesOfNat 2 number.toNat ++
        sendNumber 1 false (t.final.toNat + 2 * t.timeUnset.toNat : Nat) ++ bytesOfNat 1 part.toNat ++
        formBytes fs⟩ := by
  have hn : number.toNat ≠ 0 := fun hz => hnumber (BitVec.eq_of_toNat_eq hz)
  have hfound : t.number = number.toNat := by simpa using List.find?_some ht
  rw [exec_readTicket_of_ready hs (doReadTicket_of_ticket hn ht hpart), formBytes_append,
    ticketHead_bytes hfound]

/-- Settles O14: a record's and a ticket's parts are the lists of their fields, and the general parts are
those of the splitting. -/
theorem repliesAreLaidOutInParts : Obligations.RepliesAreLaidOutInParts := by
  refine ⟨fun h b bank k r s hs hbank hk hstate hr => ?_, fun h number t s hs hnumber ht => ?_, fun fs hw => ?_⟩
  · have hk' : k.toNat ≠ 255 := fun hn => hk (BitVec.eq_of_toNat_eq hn)
    rw [State.bank_sub]
    refine ⟨exec_readRecord_of_ready hs ((doReadRecord_of_record hbank hk' hstate hr rfl).trans ?_),
      exec_readRecord_of_ready hs ((doReadRecord_of_record hbank hk' hstate hr rfl).trans ?_),
      exec_readRecord_of_ready hs ((doReadRecord_of_record hbank hk' hstate hr rfl).trans ?_)⟩
    all_goals simp [formBytes, recordHead]
  · intro head numbers carries
    have hcarries : ∀ (part : Nat) (fs : List Field) (data : List Byte) (size : Nat),
        ticketPart t part = some fs → formBytes fs = data → 9 + data.length = size →
        carries part data size := by
      rintro part fs data size hpart rfl hsize
      refine ⟨fun p hp => ?_, ?_⟩
      · subst hp
        exact exec_readTicket_part hs hnumber ht hpart
      · simp only [head, List.length_append, sendNumber_length, bytesOfNat_length]
        omega
    have hnumbers : ∀ w ns, numbers w ns = formBytes (ns.map (fN w)) := fun w ns => (formBytes_numbers w ns).symm
    simp only [hnumbers, ← formBytes_append]
    refine ⟨hcarries 0 _ _ 47 rfl rfl ?_, hcarries 1 _ _ 47 rfl ?_ ?_, hcarries 2 _ _ 47 rfl ?_ ?_,
      hcarries 3 _ _ 48 rfl ?_ ?_⟩
    all_goals simp [formBytes, vector7_toList, List.length_flatMap, Function.comp_def]
  · have hw' : ∀ f ∈ fs, f.width ≤ 43 := fun f hf => (hw f hf).trans (by decide)
    obtain ⟨hlaid, hflat⟩ := splitFrom_laidOut (Nat.zero_le 43) hw'
    refine ⟨hflat, fun k p hp => ?_, fun k hk => replyPart_beyond hk⟩
    obtain ⟨hfits, hnext⟩ := laidOut_part hlaid hp
    refine ⟨by omega, fun f q hq => ?_, replyPart_of_part hp⟩
    have := hnext f q hq
    omega

end Sys2Proof.Machine
end

section
/-! The stored rows in the forms of LOAD ROW, and READ ROW (R166, section 12.4). -/

namespace Sys2Proof.Machine

/-! ### Numbers of the wire, as fields send them (chapter 12) -/

theorem bytesOfNat_one (b : Byte) : bytesOfNat 1 b.toNat = [b] := by
  simp [bytesOfNat]

@[simp] theorem send_byte (b : Byte) : sendNumber 1 false (b.toNat : Nat) = [b] :=
  (sendNumber_of_lt b.isLt).trans (bytesOfNat_one b)

@[simp] theorem send_word (b : BitVec 16) : sendNumber 2 false (b.toNat : Nat) = bytesOfNat 2 b.toNat :=
  sendNumber_of_lt b.isLt

@[simp] theorem send_long (b : BitVec 32) : sendNumber 4 false (b.toNat : Nat) = bytesOfNat 4 b.toNat :=
  sendNumber_of_lt b.isLt

/-- A signed number is sent as its two's complement. -/
theorem sendNumber_toInt {w : Nat} (hw : 0 < w) (b : BitVec (8 * w)) :
    sendNumber w true b.toInt = bytesOfNat w b.toNat := by
  have hpow : 8 * w - 1 + 1 = 8 * w := by omega
  have hfits : fitsField w true b.toInt = true := by
    have hlow := BitVec.le_toInt b
    have hhigh := BitVec.toInt_lt (x := b)
    simp only [fitsField, if_true, decide_eq_true_eq]
    exact ⟨hlow, hhigh⟩
  have hmod : (b.toInt % (2 : Int) ^ (8 * w)).toNat = b.toNat := by
    rw [BitVec.toInt_eq_toNat_bmod]
    have hcast : ((2 : Int) ^ (8 * w)) = ((2 ^ (8 * w) : Nat) : Int) := by push_cast; rfl
    rw [hcast, Int.bmod_emod, Int.emod_eq_of_lt (Int.natCast_nonneg _) (by exact_mod_cast b.isLt), Int.toNat_natCast]
  rw [sendNumber, if_pos hfits, hmod]

@[simp] theorem send_signed_word (b : BitVec 16) : sendNumber 2 true b.toInt = bytesOfNat 2 b.toNat :=
  sendNumber_toInt (w := 2) (by decide) b

@[simp] theorem send_signed_long (b : BitVec 32) : sendNumber 4 true b.toInt = bytesOfNat 4 b.toNat :=
  sendNumber_toInt (w := 4) (by decide) b

/-- A yes/no field is sent as 1 or 0 (R176). -/
theorem send_yesNo (b : Bool) : sendNumber 1 false (b.toNat : Nat) = [if b = true then 1 else 0] := by
  cases b <;> decide

/-! ### The stored rows as forms (section 12.4) -/

theorem Settings.form_eq {f : SettingsForm} {r : Settings} (h1 : r.trunk = f.trunk.toNat)
    (h2 : r.startMode.code = f.startMode.toNat) (h3 : r.period = f.period.toNat)
    (h4 : r.window = f.window.toNat) (h5 : r.settle = f.settle.toNat) (h6 : r.step = f.step.toNat)
    (h7 : r.fillMark = f.fillMark.toNat) (h8 : r.ticketBit = f.ticketBit.toNat)
    (h9 : r.flowback = f.flowback.toNat) (h10 : r.noiseFloor = f.noiseFloor.toNat) : r.form = f.bytes := by
  simp [Settings.form, formBytes, SettingsForm.bytes, *]

theorem ChannelRow.form_eq {f : ChannelForm} {r : ChannelRow}
    (h1 : f.enabled = (if r.enabled = true then 1 else 0)) (h2 : r.node = f.node.toNat)
    (h3 : r.kind = f.kind.toNat) (h4 : r.channel = f.channel.toNat) (h5 : r.gain = f.gain.toInt)
    (h6 : r.offset = f.offset.toInt) (h7 : r.low = f.low.toInt) (h8 : r.high = f.high.toInt)
    (h9 : r.depth = f.depth.toNat) (h10 : r.stale = f.stale.toNat)
    (h11 : f.mandatory = (if r.mandatory = true then 1 else 0)) (h12 : r.aux = f.aux.toNat) :
    r.form = f.bytes := by
  simp [ChannelRow.form, formBytes, ChannelForm.bytes, send_yesNo, *]

theorem PumpRow.form_eq {f : PumpForm} {r : PumpRow} (h1 : r.node = f.node.toNat)
    (h2 : r.displacement = f.displacement.toNat) (h3 : r.efficiency = f.efficiency.toNat)
    (h4 : r.maxRate = f.maxRate.toNat) (h5 : r.rampRate = f.rampRate.toNat)
    (h6 : r.plausibility = f.plausibility.toNat) : r.form = f.bytes := by
  simp [PumpRow.form, formBytes, PumpForm.bytes, *]

theorem Limits.form_eq {f : LimitsForm} {r : Limits} (h1 : r.trip = f.trip.toNat)
    (h2 : r.hysteresis = f.hysteresis.toNat) (h3 : r.warn = f.warn.toNat) (h4 : r.bleed = f.bleed.toNat)
    (h5 : r.stop = f.stop.toNat) (h6 : r.wob = f.wob.toNat) (h7 : r.distance = f.distance.toNat)
    (h8 : r.handler = f.handler.toNat) (h9 : r.timeout = f.timeout.toNat) : r.form = f.bytes := by
  simp [Limits.form, formBytes, LimitsForm.bytes, *]

theorem Thresholds.form_eq {f : ThresholdForm} {r : Thresholds} (h1 : r.lossWatch = f.lossWatch.toNat)
    (h2 : r.lossLevel = f.lossLevel.toNat) (h3 : r.gainWatch = f.gainWatch.toNat)
    (h4 : r.gainLevel = f.gainLevel.toNat) (h5 : r.ratio = f.ratio.toNat) : r.form = f.bytes := by
  simp [Thresholds.form, formBytes, ThresholdForm.bytes, *]

theorem ClassRow.form_eq {f : ClassForm} {r : ClassRow} (h1 : f.enabled = (if r.enabled = true then 1 else 0))
    (h2 : r.code = f.code.toNat) (h3 : r.piLow = f.piLow.toNat) (h4 : r.piHigh = f.piHigh.toNat)
    (h5 : r.trLow = f.trLow.toNat) (h6 : r.trHigh = f.trHigh.toNat) (h7 : r.mask.toNat = f.mask.toNat)
    (h8 : r.value.toNat = f.value.toNat) : r.form = f.bytes := by
  simp [ClassRow.form, formBytes, ClassForm.bytes, send_yesNo, *]

/-- The fields of a Tariff row as a loaded form would hold them. -/
theorem tariffFields_bytes (kind : Byte) (key upTo : BitVec 16) (rate : BitVec 32) :
    formBytes [fN 1 kind.toNat, fN 2 key.toNat, fN 2 upTo.toNat, fN 4 rate.toNat] =
      TariffForm.bytes ⟨kind, key, upTo, rate⟩ := by
  simp [formBytes, TariffForm.bytes]

/-! ### READ ROW (R166) -/

section ReadRow

variable {h : ReqHeader} {table row part : Byte} {s : State}

theorem exec_readRow_of_ready {t : State} {a : Reply} (hs : s.ready)
    (hr : doReadRow table.toNat row.toNat part.toNat s = (t, a)) :
    exec (.readRow h table row part) s = answers t h 4 a := finish_serve_of_ready hs hr

theorem exec_readRow_form {form : List Byte} (hs : s.ready) (hpart : part = 0)
    (hform : rowForm s table.toNat row.toNat = some form) :
    exec (.readRow h table row part) s = answers s h 4 ⟨.done, [table, row] ++ form⟩ := by
  refine exec_readRow_of_ready hs ?_
  unfold doReadRow
  rw [hform, hpart, bytesOfNat_one, bytesOfNat_one]
  rfl

theorem exec_readRow_unknown (hs : s.ready) (hform : rowForm s table.toNat row.toNat = none) :
    exec (.readRow h table row part) s = answers s h 4 (.plain .refusedUnknown) := by
  refine exec_readRow_of_ready hs ?_
  unfold doReadRow
  rw [hform]
  rfl

theorem exec_readRow_badPart {form : List Byte} (hs : s.ready) (hpart : part ≠ 0)
    (hform : rowForm s table.toNat row.toNat = some form) :
    exec (.readRow h table row part) s = answers s h 4 (.plain .refusedValue) := by
  have hp : part.toNat ≠ 0 := fun hn => hpart (BitVec.eq_of_toNat_eq hn)
  refine exec_readRow_of_ready hs ?_
  unfold doReadRow
  rw [hform]
  exact if_neg hp

end ReadRow

/-- A table's row has a form exactly where the table has the row. -/
theorem rowForm_isSome_iff (s : State) (table row : Nat) :
    (rowForm s table row).isSome = true ↔ row < rowCount table := by
  unfold rowForm rowCount
  split <;> simp

theorem identityForm_eq : identityForm = [90, 2, 48, 1] ++ bytesOfNat 3 Config.serial := by
  have hvendor : sendNumber 1 false Config.vendorCode = [90] := by decide
  have hpart : sendNumber 2 false Config.partCode = [2, 48] := by decide
  have hrevision : sendNumber 1 false Config.revision = [1] := by decide
  have hserial : sendNumber 3 false Config.serial = bytesOfNat 3 Config.serial := sendNumber_of_lt serial_lt
  simp [identityForm, formBytes, hvendor, hpart, hrevision, hserial]

end Sys2Proof.Machine
end

section
/-! The READ replies: how many parts each has, what each refuses, and its fields (R16, R37, R52, R77, R95,
R113, R120, R121, R141, R151). -/

namespace Sys2Proof.Machine

/-! ### The number of parts (R177) -/

/-- How many parts fields of the given widths take, after `used` bytes. -/
def partCount (used : Nat) : List Nat → Nat
  | [] => 1
  | w :: ws => if used + w ≤ Config.partBytes then partCount (used + w) ws else partCount w ws + 1

theorem splitFrom_length (used : Nat) (fs : List Field) :
    (splitFrom used fs).length = partCount used (fs.map Field.width) ∧ splitFrom used fs ≠ [] := by
  induction fs generalizing used with
  | nil => exact ⟨rfl, nofun⟩
  | cons f fs ih =>
    unfold splitFrom
    rw [List.map_cons, partCount]
    by_cases hroom : used + f.width ≤ Config.partBytes
    · obtain ⟨hlength, hne⟩ := ih (used + f.width)
      rw [if_pos hroom, if_pos hroom, ← hlength]
      split
      · next h => exact absurd h hne
      · next h => exact ⟨by rw [h]; rfl, nofun⟩
    · obtain ⟨hlength, hne⟩ := ih f.width
      rw [if_neg hroom, if_neg hroom, ← hlength]
      split
      · next h => exact absurd h hne
      · next h => exact ⟨by rw [h]; rfl, nofun⟩

theorem parts_length (fs : List Field) : (parts fs).length = partCount 0 (fs.map Field.width) :=
  (splitFrom_length 0 fs).1

theorem sum_le_partCount {used : Nat} {ws : List Nat} (hused : used ≤ 43) (hw : ∀ w ∈ ws, w ≤ 43) :
    used + ws.sum ≤ 43 * partCount used ws := by
  induction ws generalizing used with
  | nil => exact hused
  | cons w ws ih =>
    have hwfit : w ≤ 43 := hw w List.mem_cons_self
    have hrest : ∀ v ∈ ws, v ≤ 43 := fun v hv => hw v (List.mem_cons_of_mem _ hv)
    rw [List.sum_cons, partCount]
    split
    · next hroom =>
      have := ih (show used + w ≤ 43 from hroom) hrest
      omega
    · have := ih hwfit hrest
      omega

/-- The part and the number of parts stand first in a reply's data. -/
theorem replyPart_head {fs : List Field} {part : Byte} {n : Nat} (hn : (parts fs).length = n)
    (hpart : part.toNat < n) :
    ∃ d, replyPart fs part.toNat = ⟨.done, [part] ++ bytesOfNat 1 n ++ d⟩ := by
  have hp : (parts fs)[part.toNat]? = some ((parts fs)[part.toNat]'(hn ▸ hpart)) :=
    List.getElem?_eq_getElem _
  generalize (parts fs)[part.toNat]'(hn ▸ hpart) = p at hp
  refine ⟨bytesOfNat 2 (presenceMask p) ++ p.flatMap Field.bytes, ?_⟩
  rw [replyPart_of_part hp, hn, bytesOfNat_one, List.append_assoc, List.append_assoc]

/-! ### The READ rows that run (R160) -/

section Rows

variable {h : ReqHeader} {i part bank : Byte} {number : BitVec 16} {s t : State} {a : Reply} (hs : s.ready)
include hs

theorem exec_readInput_of_ready (hr : doReadInput i.toNat part.toNat s = (t, a)) :
    exec (.readInput h i part) s = answers t h 16 a := finish_serve_of_ready hs hr

theorem exec_readBalance_of_ready (hr : doReadBalance i.toNat part.toNat s = (t, a)) :
    exec (.readBalance h i part) s = answers t h 17 a := finish_serve_of_ready hs hr

theorem exec_readPumps_of_ready (hr : doReadPumps part.toNat s = (t, a)) :
    exec (.readPumps h part) s = answers t h 25 a := finish_serve_of_ready hs hr

theorem exec_readRack_of_ready (hr : doReadRack i.toNat part.toNat s = (t, a)) :
    exec (.readRack h i part) s = answers t h 38 a := finish_serve_of_ready hs hr

theorem exec_readString_of_ready (hr : doReadString i.toNat part.toNat s = (t, a)) :
    exec (.readString h i part) s = answers t h 39 a := finish_serve_of_ready hs hr

theorem exec_readDepth_of_ready (hr : doReadDepth part.toNat s = (t, a)) :
    exec (.readDepth h part) s = answers t h 49 a := finish_serve_of_ready hs hr

theorem exec_readInterval_of_ready (hr : doReadInterval part.toNat s = (t, a)) :
    exec (.readInterval h part) s = answers t h 56 a := finish_serve_of_ready hs hr

theorem exec_readJob_of_ready (hr : doReadJob part.toNat s = (t, a)) :
    exec (.readJob h part) s = answers t h 76 a := finish_serve_of_ready hs hr

end Rows

/-! ### The widths of the replies -/

theorem inputOwn_width (i : InputId) (s : State) :
    ((inputCommon i s ++ inputOwn i s).map Field.width).sum ≤ 43 := by
  unfold inputCommon inputOwn
  dsimp only
  repeat' split
  all_goals simp [fN, oN, oZ, fB]

theorem balanceSummary_parts (s : State) : (parts (balanceSummary s)).length = 2 := by
  rw [parts_length]
  exact (rfl : partCount 0 [1, 1, 1, 4, 6, 6, 6, 4, 4, 4, 1, 4, 1, 4, 2, 2, 2, 4] = 2)

theorem stringFields_parts (s : State) (r : Option Rod) :
    (parts (stringSummary s ++ entryFields r)).length = 2 := by
  rw [parts_length]
  exact (rfl : partCount 0 [1, 1, 1, 4, 4, 1, 4, 4, 2, 1, 1, 1, 2, 1, 1, 2, 1, 4, 4, 4, 2] = 2)

/-- The fields of READ DEPTH (R95). -/
def depthFields (s : State) : List Field :=
  let d := s.depth
  [fZ 4 d.head, fZ 4 d.residue, fZ 4 d.lastCount, fB d.firstReport,
    fZ 4 d.stringLength, fZ 4 d.corr, fZ 4 d.bit, fB d.freeze.isSome, oZ 4 d.freeze, fZ 4 d.hole,
    fZ 4 d.freeHookload, fZ 4 s.wob, fB s.onBottom, fB d.encoderUncertain, fB d.anchorUncertain,
    oZ 4 d.movement, oZ 4 d.lastMovement, fN 1 d.indicated.code.val, fN 1 d.taken.code.val,
    oN 4 (d.settleDue.map fun t => t - s.mgmt.clock)]

theorem doReadDepth_eq (part : Nat) (s : State) : doReadDepth part s = (s, replyPart (depthFields s) part) := rfl

theorem depthFields_parts (s : State) : (parts (depthFields s)).length = 2 := by
  rw [parts_length]
  exact (rfl : partCount 0 [4, 4, 4, 1, 4, 4, 4, 1, 4, 4, 4, 4, 1, 1, 1, 4, 4, 1, 1, 4] = 2)

/-- The fields of READ INTERVAL (R113). -/
def intervalFields (s : State) : List Field :=
  let r := s.recorder
  let i := r.interval
  let m := s.preview.bind ClosedRecord.means
  [fN 1 (Config.intervalStateCode i.isSome.toNat).val,
     fN 1 (Config.extensionStateCode r.extending.toNat).val, fB r.overdue, fB r.closingMark,
     fN 1 r.currentClass.val, fN 2 r.closedCount, fN 4 s.settings.step,
     oN 4 (i.map Interval.number), oZ 4 (i.map Interval.top), oZ 4 (i.map Interval.target),
     oN 4 (i.map Interval.seconds), oZ 8 (i.map Interval.wobSum), oZ 8 (i.map Interval.torqueSum),
     oZ 8 (i.map Interval.rpmSum), oZ 8 (i.map Interval.pressureSum), oN 4 (i.map Interval.loss),
     oN 4 (i.map Interval.gain), oN 2 (i.map fun i => i.flags.toNat),
     oN 4 (i.map fun i => i.openTime.toNat), oZ 4 (m.map Means.wob), oZ 4 (m.map Means.torque),
     oZ 2 (m.map Means.rpm), oZ 4 (m.map Means.pressure), oN 2 (m.map Means.rop),
     oN 2 (m.map Means.pi), oN 2 (m.map Means.tr),
     oN 1 (s.preview.map fun c => c.cls.val)]

theorem doReadInterval_eq (part : Nat) (s : State) :
    doReadInterval part s = (s, replyPart (intervalFields s) part) := rfl

theorem intervalFields_parts (s : State) : (parts (intervalFields s)).length = 3 := by
  rw [parts_length]
  exact (rfl : partCount 0 [1, 1, 1, 1, 1, 2, 4, 4, 4, 4, 4, 8, 8, 8, 8, 4, 4, 2, 4, 4, 4, 2, 4, 2, 2, 2, 1] = 3)

theorem jobFields_widths (s : State) : (jobFields s).map Field.width =
    [4, 4, 1, 4, 1, 4, 4, 4, 1, 2, 6] ++ List.replicate 21 4 ++ [1] ++
      (s.bands.zipIdx.flatMap fun _ => [4, 4, 4, 4]) ++ [4, 8, 4, 6, 4, 6, 2, 1, 1] ++ List.replicate 7 6 ++
      [6, 6, 6, 6] := by
  simp [jobFields, fN, fZ, fB, List.map_flatMap, List.finRange, vector7_toList, List.replicate]

/-- READ JOB's fields take six parts at least (R141). -/
theorem jobFields_parts (s : State) : 6 ≤ (parts (jobFields s)).length := by
  have hbands : ∀ w ∈ (s.bands.zipIdx.flatMap fun _ => [4, 4, 4, 4]), w = 4 := by
    simp
  have hwidth : ∀ w ∈ (jobFields s).map Field.width, w ≤ 43 := by
    rw [jobFields_widths]
    generalize (s.bands.zipIdx.flatMap fun _ => [4, 4, 4, 4]) = ws at hbands
    intro w hw
    simp only [List.mem_append, List.mem_replicate] at hw
    rcases hw with (((((hw | hw) | hw) | hw) | hw) | hw) | hw
    · simp at hw; omega
    · omega
    · simp at hw; omega
    · have := hbands w hw; omega
    · simp at hw; omega
    · omega
    · simp at hw; omega
  have hsum : 222 ≤ ((jobFields s).map Field.width).sum := by
    rw [jobFields_widths]
    simp only [List.sum_append, List.sum_replicate, List.sum_cons, List.sum_nil, smul_eq_mul]
    omega
  have hle := sum_le_partCount (Nat.zero_le 43) hwidth
  rw [parts_length]
  omega

end Sys2Proof.Machine
end

section
/-! READ requests answer and change nothing: their answers, refusals and fields. -/

namespace Sys2Proof.Machine

/-! ### What each READ answers -/

section Answers

variable {i part number bank : Nat} {s : State}

theorem doReadInput_of_index {n : InputId} (hi : i = n.val) (part : Nat) (s : State) :
    doReadInput i part s = (s, replyPart (inputCommon n s ++ inputOwn n s) part) := by
  subst hi
  exact dif_pos n.isLt

theorem doReadInput_of_unknown (hi : 13 ≤ i) : doReadInput i part s = (s, .plain .refusedUnknown) :=
  dif_neg hi.not_gt

theorem doReadBalance_summary : doReadBalance 0 part s = (s, replyPart (balanceSummary s) part) := rfl

theorem doReadBalance_of_unknown (hi : 16 < i) : doReadBalance i part s = (s, .plain .refusedUnknown) := by
  unfold doReadBalance
  rw [if_neg (by omega), if_pos hi]
  rfl

variable (hlow : 1 ≤ i) (hhigh : i ≤ 16)
include hlow hhigh

theorem doReadBalance_of_none (hr : s.circ.window.length < i) :
    doReadBalance i part s = (s, .plain .refusedValue) := by
  unfold doReadBalance
  rw [if_neg (by omega), if_neg hhigh.not_gt, List.getElem?_eq_none (by simp; omega)]
  rfl

theorem doReadBalance_of_record {r : PeriodRecord} (hr : s.circ.window.reverse[i - 1]? = some r) :
    doReadBalance i part s = (s, replyPart (balanceRecord r) part) := by
  unfold doReadBalance
  rw [if_neg (by omega), if_neg hhigh.not_gt, hr]

end Answers

section Refusals

variable {i part number bank : Nat} {s : State}

/-- READ PUMPS's fields (R52). -/
def pumpsFields (s : State) : List Field :=
  let u := s.input inPressure
  pumpFields 0 s ++ pumpFields 1 s ++
    [fB s.pumpCtl.tripLatch, oZ 4 s.pumpCtl.tripPressure, oZ 4 u.lastConditioned, oZ 4 u.smoothed,
     fN 1 u.state.freeCode, fN 1 s.trunk.setpoints.length, fN 2 s.pumpCtl.badSetpoints]

theorem doReadPumps_eq (part : Nat) (s : State) : doReadPumps part s = (s, replyPart (pumpsFields s) part) := rfl

theorem pumpsFields_parts (s : State) : (parts (pumpsFields s)).length = 1 := by
  rw [parts_length]
  exact (rfl : partCount 0 [1, 1, 1, 1, 1, 1, 1, 1, 1, 1, 1, 1, 1, 1, 1, 1, 1, 1, 1, 4, 4, 4, 1, 1, 2] = 1)

/-- READ RACK's fields (R77). -/
def rackFields (slot : Nat) (s : State) : List Field :=
  let r := s.tracker.slot slot
  [fN 1 slot, fB r.isNone, oN 4 (r.map Rod.serial), oN 4 (r.map Rod.length), oN 4 (r.map Rod.seconds),
    oN 2 (r.map Rod.runs)]

theorem rackFields_parts (slot : Nat) (s : State) : (parts (rackFields slot s)).length = 1 := by
  rw [parts_length]
  exact (rfl : partCount 0 [1, 1, 4, 4, 4, 2] = 1)

theorem balanceRecord_parts (r : PeriodRecord) : (parts (balanceRecord r)).length = 1 := by
  rw [parts_length]
  exact (rfl : partCount 0 [4, 4, 4, 1, 1] = 1)

theorem bankSummary_parts (s : State) : (parts (bankSummary s)).length = 1 := by
  rw [parts_length]
  exact (rfl : partCount 0 [1, 1, 1, 1, 1, 1, 1, 1, 1] = 1)

theorem ticketSummary_parts (s : State) : (parts (ticketSummary s)).length = 1 := by
  rw [parts_length]
  exact (rfl : partCount 0 [1, 4, 4, 2, 1, 1, 1] = 1)

theorem inputFields_parts (i : InputId) (s : State) : (parts (inputCommon i s ++ inputOwn i s)).length = 1 := by
  rw [parts_of_fits (inputOwn_width i s)]
  rfl

theorem doReadRack_of_slot (hi : i < 64) : doReadRack i part s = (s, replyPart (rackFields i s) part) :=
  if_neg (by omega)

theorem doReadRack_of_badSlot (hi : 64 ≤ i) : doReadRack i part s = (s, .plain .refusedValue) := if_pos hi

theorem doReadString_of_index (hi : i < 128) :
    doReadString i part s = (s, replyPart (stringSummary s ++ entryFields s.tracker.stack[i]?) part) :=
  if_neg (by omega)

theorem doReadString_of_badIndex (hi : 128 ≤ i) : doReadString i part s = (s, .plain .refusedValue) := if_pos hi

theorem doReadRecord_summary (hi : i = 255) :
    doReadRecord bank i part s = (s, replyPart (bankSummary s) part) := if_pos hi

theorem recordPart_of_ge (r : ClosedRecord) (hpart : 3 ≤ part) : recordPart r part = none := by
  unfold recordPart
  split <;> first | rfl | omega

theorem bankOf_eq_none (hbank : 2 ≤ bank) : bankOf bank = none := by
  unfold bankOf
  split <;> first | rfl | omega

theorem bankOf_val {b : Fin 2} (h : bankOf bank = some b) : bank = b.val := by
  unfold bankOf at h
  split at h <;> cases h <;> rfl

/-- A record that is not there: no such bank, part or index (R120). -/
theorem doReadRecord_refused (hi : i ≠ 255) (h : 2 ≤ bank ∨ 3 ≤ part ∨
    ∀ b : Fin 2, bank = b.val → s.banks[b].state = .free ∨ s.banks[b].records.length ≤ i) :
    doReadRecord bank i part s = (s, .plain .refusedValue) := by
  unfold doReadRecord
  rw [if_neg hi]
  cases hb : bankOf bank with
  | none => rfl
  | some b =>
    have hval := bankOf_val hb
    dsimp only
    by_cases hfree : s.banks[b].state = .free
    · exact if_pos hfree
    · have hnone : (s.banks[b].records[i]?.bind fun r => recordPart r part) = none := by
        rcases h with h | h | h
        · rw [bankOf_eq_none h] at hb
          cases hb
        · simp [recordPart_of_ge _ h]
        · rw [List.getElem?_eq_none ((h b hval).resolve_left hfree)]
          rfl
      rw [if_neg hfree, hnone]
      rfl

theorem ticketPart_of_ge (t : Ticket) (hpart : 4 ≤ part) : ticketPart t part = none := by
  unfold ticketPart
  split <;> first | rfl | omega

theorem doReadTicket_refused (hn : number ≠ 0)
    (h : 4 ≤ part ∨ ∀ t ∈ s.billing.tickets, t.number ≠ number) :
    doReadTicket number part s = (s, .plain .refusedValue) := by
  have hnone : ((s.billing.tickets.find? (·.number == number)).bind fun t =>
      (ticketPart t part).map fun fs => formBytes (ticketHead t part ++ fs)) = none := by
    rcases h with h | h
    · simp [ticketPart_of_ge _ h]
    · have hfind : s.billing.tickets.find? (·.number == number) = none := by
        simpa [List.find?_eq_none] using h
      rw [hfind]
      rfl
  unfold doReadTicket
  rw [if_neg hn, hnone]
  rfl

end Refusals

end Sys2Proof.Machine
end

section
/-! The fields of the READ replies in the order of their rules. -/

namespace Sys2Proof.Machine

/-! ### READ INPUT (R16) -/

theorem isCounter_eq (n : InputId) : isCounter n = decide (n.val ∈ [0, 6, 7]) := by
  revert n
  decide

theorem pumpOf_eq_none_iff (n : InputId) : pumpOf n = none ↔ n.val ≠ 6 ∧ n.val ≠ 7 := by
  revert n
  decide

theorem eq_strokeInput_of_pumpOf {n : InputId} {p : PumpId} (h : pumpOf n = some p) : n = strokeInput p := by
  revert n p
  decide

theorem inputCommon_eq (n : InputId) (s : State) : inputCommon n s =
    [fN 1 n.val, fN 1 (Config.inputKindCode (decide (n.val ∈ [0, 6, 7])).toNat).val,
      fB (s.tables.channels[n]).enabled, fN 1 (s.inputs[n]).state.freeCode, fN 2 (s.inputs[n]).refused,
      oN 2 ((s.inputs[n]).acceptedAt.map fun at' => min (s.mgmt.clock - at') 65535)] := by
  unfold inputCommon
  rw [isCounter_eq]
  rfl

theorem inputOwn_value {n : InputId} (h : n.val ∉ [0, 6, 7]) (s : State) : inputOwn n s =
    let u := s.inputs[n]
    let filled (v : Option Int) := if u.ring = [] then none else v
    [fB u.clamped, fN 1 u.ring.length, oZ 4 (filled u.lastRaw), oZ 4 (filled u.lastConditioned),
      oZ 4 (filled u.smoothed)] := by
  have hvals : n.val ≠ 0 ∧ n.val ≠ 6 ∧ n.val ≠ 7 := by simpa using h
  obtain ⟨h0, h6, h7⟩ := hvals
  have hpump := (pumpOf_eq_none_iff n).mpr ⟨h6, h7⟩
  have hhead : n ≠ inHeadPos := fun hn => h0 (congrArg Fin.val hn)
  unfold inputOwn
  rw [hpump]
  dsimp only
  rw [if_neg hhead]
  simp only [List.isEmpty_iff]
  rfl

theorem inputOwn_strokes {n : InputId} (h : n.val = 6 ∨ n.val = 7) (s : State) :
    inputOwn n s = [oN 4 (s.inputs[n]).lastCount, fB (s.inputs[n]).runningDue.isSome] := by
  cases hp : pumpOf n with
  | none =>
    obtain ⟨h6, h7⟩ := (pumpOf_eq_none_iff n).mp hp
    exact (h.elim h6 h7).elim
  | some p =>
    have hn := eq_strokeInput_of_pumpOf hp
    unfold inputOwn
    rw [hp, hn]
    rfl

theorem inputOwn_head {n : InputId} (h : n.val = 0) (s : State) :
    inputOwn n s = [oZ 4 (s.inputs[n]).lastRaw, fB (s.inputs[n]).historyDropped] := by
  have hpump := (pumpOf_eq_none_iff n).mpr ⟨by omega, by omega⟩
  have hhead : n = inHeadPos := Fin.ext h
  unfold inputOwn
  rw [hpump]
  exact if_pos hhead

/-! ### The other blocks -/

theorem filterMap_id_length {α : Type} (l : List (Option α)) :
    (l.filterMap id).length = l.countP Option.isSome := by
  rw [List.length_filterMap_eq_countP]
  rfl

/-- The tracker's summary with its parts written out (R77). -/
theorem stringSummary_eq (s : State) : stringSummary s =
    let t := s.tracker
    let hold := t.hold.map (·.1)
    [fN 1 t.conn.code, fN 1 t.stack.length, fN 1 (t.stack.countP (·.kind == .bha)),
        fZ 4 ((t.stack.map Rod.length).sum : Nat), oN 4 (hold.map Rod.serial),
        oN 1 (hold.map fun r => r.kind.freeCode), oN 4 (hold.map Rod.length),
        oN 4 (hold.map Rod.seconds), oN 2 (hold.map Rod.runs),
        oN 1 (t.hold.map fun q => q.2.freeCode), oN 1 (t.command.map fun c => c.code.code),
        oN 1 (t.command.bind fun c => c.slot),
        oN 2 (t.command.map fun c => min (s.mgmt.clock - c.recordedAt) 65535), fB t.tallyUncertain,
        fN 1 (t.rack.toList.countP Option.isSome), fN 2 t.frameErrors] := by
  unfold stringSummary
  dsimp only
  rw [filterMap_id_length]
  rfl

theorem State.preview_eq (s : State) : s.preview = s.recorder.interval.bind fun i =>
    if i.top < s.depth.hole then some (closedRecord i s.depth.hole s) else none := by
  unfold State.preview
  cases s.recorder.interval <;> rfl

/-- The activity charges as a list over the activities (R148). -/
theorem State.charges_activity (s : State) : s.charges.activity.toList =
    (List.finRange 7).map fun a =>
      (s.billing.acc.seconds[a] * s.activityRate a.val + s.billing.acc.carries[a]) / 3600 := by
  refine List.ext_getElem (by simp) fun i hi _ => ?_
  simp [State.charges, State.activityNumerator]

theorem jobFields_eq (s : State) :
    let b := s.billing
    let act (a : Fin 7) := (b.acc.seconds[a] * s.activityRate a.val + b.acc.carries[a]) / 3600
    let footage := b.acc.footageCharge / 100000
    let mud := (b.acc.lostMud * s.mudRate + b.acc.mudCarry) / 1000000
    jobFields s = [fN 4 b.job.number, fN 4 b.job.customer, fN 1 b.job.state.code, fN 4 b.job.opened.time.toNat,
        fB b.job.opened.unset, fZ 4 b.job.startDepth, fZ 4 b.job.billedMark, fN 4 b.job.metered,
        fB b.job.closingInterval, fN 2 b.job.ticketCounter, fN 6 b.job.billedTotal] ++
      ((List.finRange 7).flatMap fun a =>
        [fN 4 b.acc.seconds[a], fN 4 b.acc.carries[a], fN 4 (s.activityRate a.val)]) ++
      [fN 1 s.bands.length] ++
      (s.bands.zipIdx.flatMap fun q => [fN 4 q.1.fromM, fN 4 q.1.toM, fN 4 q.1.rate,
        fN 4 (b.acc.bands[q.2]?.getD 0)]) ++
      [fN 4 b.acc.unbanded, fN 8 b.acc.footageCharge, fN 4 s.mudRate, fN 6 b.acc.lostMud,
        fN 4 b.acc.mudCarry, fN 6 b.acc.products, fN 2 b.acc.additions, fN 1 b.tickets.length,
        fB b.deferred] ++
      ((List.finRange 7).map fun a => fN 6 (act a)) ++
      [fN 6 footage, fN 6 mud, fN 6 b.acc.products, fN 6 (min 281474976710655
        (((List.finRange 7).map act).sum + footage + mud + b.acc.products))] := by
  intro b act footage mud
  have hact := State.charges_activity s
  have htotal : s.charges.total = min 281474976710655
      (((List.finRange 7).map act).sum + footage + mud + b.acc.products) := by
    rw [← hact]
    rfl
  unfold jobFields
  dsimp only
  rw [htotal, hact, List.map_map]
  rfl

theorem rowForm_pump (s : State) (p : PumpId) : rowForm s 3 p.val = some (s.tables.pumps[p]).form :=
  congrArg (Option.map PumpRow.form) (Vector.getElem?_eq_getElem p.isLt)

/-- Settles O13: each stored form by its fields, and each READ by its equation. -/
theorem readRequestsAnswerAndChangeNothing : Obligations.ReadRequestsAnswerAndChangeNothing := by
  refine ⟨fun _ _ => Settings.form_eq, fun _ _ => ChannelRow.form_eq, fun _ _ => PumpRow.form_eq,
    fun _ _ => Limits.form_eq, fun _ _ => Thresholds.form_eq, fun _ _ => ClassRow.form_eq,
    fun k b q => ⟨tariffFields_bytes 0 0 0 0, tariffFields_bytes 1 k 0 q, tariffFields_bytes 2 k b q,
      tariffFields_bytes 3 k 0 q, tariffFields_bytes 4 0 0 q, tariffFields_bytes 5 k 0 q⟩,
    fun h table row part s hs => ?rows, fun h i part s hs => ?answers, fun h i part bank number s hs => ?refusals,
    fun h i part s hs => ?fields⟩
  case rows =>
    refine ⟨?_, ?_, ?_, ?_, ?_, ?_, ?_, ?_, fun hnone => ?_, fun hlow hhigh hrow hpart => ?_⟩
    · rintro rfl rfl hpart
      exact exec_readRow_form hs hpart rfl
    · rintro i rfl hrow hpart
      exact exec_readRow_form hs hpart (by rw [hrow]; simp [rowForm])
    · rintro i rfl hrow hpart
      exact exec_readRow_form hs hpart (by rw [hrow]; exact rowForm_pump s i)
    · rintro rfl rfl hpart
      exact exec_readRow_form hs hpart rfl
    · rintro i rfl hrow hpart
      exact exec_readRow_form hs hpart (by rw [hrow]; simp [rowForm])
    · rintro i rfl hrow hpart
      exact exec_readRow_form hs hpart (by rw [hrow]; simp [rowForm])
    · rintro i rfl hrow hpart
      exact exec_readRow_form hs hpart (by rw [hrow]; simp [rowForm])
    · rintro rfl rfl hpart
      rw [exec_readRow_form hs hpart rfl, identityForm_eq]
      rfl
    · refine exec_readRow_unknown hs (Option.not_isSome_iff_eq_none.mp fun hsome => ?_)
      have hrow := (rowForm_isSome_iff s _ _).mp hsome
      rcases hnone with rfl | htable | hrange
      · exact absurd hrow (Nat.not_lt_zero _)
      · have hzero : rowCount table.toNat = 0 := by
          unfold rowCount
          split <;> first | rfl | omega
        omega
      · omega
    · obtain ⟨form, hform⟩ := Option.isSome_iff_exists.mp ((rowForm_isSome_iff s _ _).mpr hrow)
      exact exec_readRow_badPart hs hpart hform
  case answers =>
    refine ⟨fun hi hpart => ?_, fun hi hpart => ?_, fun hlow hlength hhigh hpart => ?_, fun hpart => ?_,
      fun hi hpart => ?_, fun hi hpart => ?_, fun hpart => ?_, fun hpart => ?_, fun hpart => ?_,
      fun bank => ?_, ?_⟩
    · obtain ⟨d, hd⟩ := replyPart_head (part := part) (inputFields_parts ⟨i.toNat, hi⟩ s) (by rw [hpart]; decide)
      rw [exec_readInput_of_ready hs (doReadInput_of_index (n := ⟨i.toNat, hi⟩) rfl _ _), hd, hpart]
      exact ⟨d, rfl⟩
    · obtain ⟨d, hd⟩ := replyPart_head (balanceSummary_parts s) hpart
      rw [hi, exec_readBalance_of_ready (i := 0) hs (doReadBalance_summary (part := part.toNat)), hd]
      exact ⟨d, rfl⟩
    · have hlt : i.toNat - 1 < s.circ.window.reverse.length := by rw [List.length_reverse]; omega
      obtain ⟨d, hd⟩ := replyPart_head (part := part) (balanceRecord_parts (s.circ.window.reverse[i.toNat - 1]))
        (by rw [hpart]; decide)
      rw [exec_readBalance_of_ready hs (doReadBalance_of_record hlow hhigh (List.getElem?_eq_getElem hlt)), hd,
        hpart]
      exact ⟨d, rfl⟩
    · obtain ⟨d, hd⟩ := replyPart_head (part := part) (pumpsFields_parts s) (by rw [hpart]; decide)
      rw [exec_readPumps_of_ready hs (doReadPumps_eq _ s), hd, hpart]
      exact ⟨d, rfl⟩
    · obtain ⟨d, hd⟩ := replyPart_head (part := part) (rackFields_parts i.toNat s) (by rw [hpart]; decide)
      rw [exec_readRack_of_ready hs (doReadRack_of_slot hi), hd, hpart]
      exact ⟨d, rfl⟩
    · obtain ⟨d, hd⟩ := replyPart_head (stringFields_parts s s.tracker.stack[i.toNat]?) hpart
      rw [exec_readString_of_ready hs (doReadString_of_index hi), hd]
      exact ⟨d, rfl⟩
    · obtain ⟨d, hd⟩ := replyPart_head (depthFields_parts s) hpart
      rw [exec_readDepth_of_ready hs (doReadDepth_eq _ s), hd]
      exact ⟨d, rfl⟩
    · obtain ⟨d, hd⟩ := replyPart_head (intervalFields_parts s) hpart
      rw [exec_readInterval_of_ready hs (doReadInterval_eq _ s), hd]
      exact ⟨d, rfl⟩
    · obtain ⟨d, hd⟩ := replyPart_head (part := part) rfl (lt_of_lt_of_le hpart (jobFields_parts s))
      rw [exec_readJob_of_ready (t := s) hs rfl, hd]
      exact ⟨_, congrArg (fun data => answers s h 76 ⟨.done, data⟩) (List.append_assoc _ _ _)⟩
    · obtain ⟨d, hd⟩ := replyPart_head (part := 0) (bankSummary_parts s) (by decide)
      rw [exec_readRecord_of_ready hs (doReadRecord_summary rfl), hd]
      exact ⟨d, rfl⟩
    · obtain ⟨d, hd⟩ := replyPart_head (part := 0) (ticketSummary_parts s) (by decide)
      rw [exec_readTicket_of_ready (a := replyPart (ticketSummary s) (0 : Byte).toNat) (t := s) hs rfl, hd]
      exact ⟨d, rfl⟩
  case refusals =>
    have hbeyond : ∀ {fs : List Field} {n : Nat}, (parts fs).length = n → n ≤ part.toNat →
        replyPart fs part.toNat = .plain .refusedValue := fun hn hp => replyPart_beyond (hn ▸ hp)
    have hone : part ≠ 0 → 1 ≤ part.toNat := fun hp => Nat.pos_of_ne_zero fun hz => hp (BitVec.eq_of_toNat_eq hz)
    refine ⟨fun hi => exec_readInput_of_ready hs (doReadInput_of_unknown hi),
      fun hi => exec_readBalance_of_ready hs (doReadBalance_of_unknown hi), fun hlength hhigh => ?_,
      fun hpart => ?_, fun hi => exec_readRack_of_ready hs (doReadRack_of_badSlot hi),
      fun hi => exec_readString_of_ready hs (doReadString_of_badIndex hi), fun hpart => ?_, fun hpart => ?_,
      fun hi hgone => ?_, fun hn hgone => ?_⟩
    · exact exec_readBalance_of_ready hs (doReadBalance_of_none (by omega) hhigh hlength)
    · rw [exec_readPumps_of_ready hs (doReadPumps_eq _ s), hbeyond (pumpsFields_parts s) (hone hpart)]
    · rw [exec_readDepth_of_ready hs (doReadDepth_eq _ s), hbeyond (depthFields_parts s) hpart]
    · rw [exec_readInterval_of_ready hs (doReadInterval_eq _ s), hbeyond (intervalFields_parts s) hpart]
    · exact exec_readRecord_of_ready hs
        (doReadRecord_refused (fun hz => hi (BitVec.eq_of_toNat_eq hz)) hgone)
    · exact exec_readTicket_of_ready hs (doReadTicket_refused (fun hz => hn (BitVec.eq_of_toNat_eq hz)) hgone)
  case fields =>
    intro now carries c pump pressure rod t hold d k o preview m b act footage mud bank
    refine ⟨fun n hn => ⟨fun hvalue => ?_, fun hstrokes => ?_, fun hhead => ?_⟩, fun hi => ?_,
      fun r hlow hhigh hr => ?_, ?_, fun hi => ?_, fun hi => ?_, ?_, ?_, fun code => ?_, ?_, ?_⟩
    · have hval : n.val ∉ [0, 6, 7] := by simpa using hvalue
      have hr := doReadInput_of_index hn part.toNat s
      rw [inputCommon_eq, inputOwn_value hval] at hr
      exact exec_readInput_of_ready hs hr
    · have hr := doReadInput_of_index hn part.toNat s
      rw [inputCommon_eq, inputOwn_strokes hstrokes] at hr
      exact exec_readInput_of_ready hs hr
    · have hr := doReadInput_of_index hn part.toNat s
      rw [inputCommon_eq, inputOwn_head hhead] at hr
      exact exec_readInput_of_ready hs hr
    · have hr : doReadBalance i.toNat part.toNat s = (s, replyPart (balanceSummary s) part.toNat) := by
        rw [hi]
        rfl
      exact exec_readBalance_of_ready hs hr
    · exact exec_readBalance_of_ready hs (doReadBalance_of_record hlow hhigh hr)
    · exact exec_readPumps_of_ready hs (doReadPumps_eq _ s)
    · exact exec_readRack_of_ready hs (doReadRack_of_slot hi)
    · have hr := doReadString_of_index (part := part.toNat) (s := s) hi
      rw [stringSummary_eq] at hr
      exact exec_readString_of_ready hs hr
    · exact exec_readDepth_of_ready hs (doReadDepth_eq _ s)
    · have hr := doReadInterval_eq part.toNat s
      unfold intervalFields at hr
      rw [State.preview_eq] at hr
      exact exec_readInterval_of_ready hs hr
    · exact exec_readRecord_of_ready hs (doReadRecord_summary rfl)
    · have hr : doReadJob part.toNat s = (s, replyPart (jobFields s) part.toNat) := rfl
      rw [jobFields_eq] at hr
      exact exec_readJob_of_ready hs hr
    · exact exec_readTicket_of_ready hs rfl

end Sys2Proof.Machine
end

section
/-! How notices outlast an event (R161): a notice once raised is still announced after moves of the trunk
by notices of other kinds, and such moves bring no notice of its kind. -/

namespace Sys2Proof.Machine

/-! ### What a join leaves -/

/-- An urgent notice changes the urgent queue and the overflow flag only. -/
theorem Trunk.joinUrgent_other (t : Trunk) (n : Notice) : t.joinUrgent n =
    { t with urgent := (t.joinUrgent n).urgent, overflow := (t.joinUrgent n).overflow } := by
  rcases t.joinUrgent_cases n with ⟨-, he⟩ | ⟨-, he⟩ <;> rw [he]

section Join

variable (t : Trunk) (n : Notice)

theorem Trunk.join_urgent_suffix : t.urgent ⊆ (t.join n).urgent := by
  unfold Trunk.join
  split
  · unfold Trunk.joinUrgent
    split
    · exact List.subset_append_left _ _
    · exact fun _ h => h
  · rw [Trunk.joinGeneral_other]
    exact fun _ h => h

theorem Trunk.join_urgent_length : t.urgent.length ≤ (t.join n).urgent.length := by
  unfold Trunk.join
  split
  · unfold Trunk.joinUrgent
    split
    · simp
    · exact le_rfl
  · rw [Trunk.joinGeneral_other]

theorem Trunk.join_overflow (h : t.overflow = true) : (t.join n).overflow = true := by
  unfold Trunk.join Trunk.joinUrgent Trunk.joinGeneral
  repeat' split
  all_goals simp [h]

theorem Trunk.join_general_length : t.general.length ≤ (t.join n).general.length := by
  unfold Trunk.join
  split
  · rw [Trunk.joinUrgent_other]
  · unfold Trunk.joinGeneral
    split
    · simp
    · split
      · simp
      · exact le_rfl

/-- A waiting general notice is coalesced away only by one of its kind and subject. -/
theorem Trunk.mem_join_general {q : Notice} (hq : q ∈ t.general)
    (hne : ¬(n.kind = q.kind ∧ n.subject = q.subject)) : q ∈ (t.join n).general := by
  have hsame : n.sameAs q = false :=
    (Notice.sameAs_eq_false_iff n q).mpr fun h => hne ⟨h.1.symm, h.2.symm⟩
  unfold Trunk.join
  split
  · rw [Trunk.joinUrgent_other]
    exact hq
  · unfold Trunk.joinGeneral
    split
    · refine List.mem_map.mpr ⟨q, hq, ?_⟩
      rw [hsame]
      rfl
    · split
      · exact List.mem_append_left _ hq
      · exact hq

/-- What waits after a join waited before, or has the joined notice's kind. -/
theorem Trunk.mem_general_of_join {q : Notice} (hq : q ∈ (t.join n).general) (hne : q.kind ≠ n.kind) :
    q ∈ t.general := by
  unfold Trunk.join at hq
  split at hq
  · rwa [Trunk.joinUrgent_other] at hq
  · unfold Trunk.joinGeneral at hq
    split at hq
    · obtain ⟨r, hr, rfl⟩ := List.mem_map.mp hq
      split at hne
      · next hsame => exact absurd ((Notice.sameAs_iff n r).mp hsame).1 hne
      · next hsame =>
        rw [if_neg hsame]
        exact hr
    · split at hq
      · rcases List.mem_append.mp hq with h | h
        · exact h
        · exact absurd (congrArg Notice.kind (List.mem_singleton.mp h)) hne
      · exact hq

theorem Trunk.mem_urgent_of_join {q : Notice} (hq : q ∈ (t.join n).urgent) (hne : q.kind ≠ n.kind) :
    q ∈ t.urgent := by
  unfold Trunk.join at hq
  split at hq
  · unfold Trunk.joinUrgent at hq
    split at hq
    · rcases List.mem_append.mp hq with h | h
      · exact h
      · exact absurd (congrArg Notice.kind (List.mem_singleton.mp h)) hne
    · exact hq
  · rwa [Trunk.joinGeneral_other] at hq

end Join

/-! ### A notice that has been raised -/

/-- What `notified` says of the trunk: the notice, stamped `now`, waits in the queue of its kind, or that
queue is full and the overflow flag is set. -/
def Trunk.Announces (now : Stamp) (kind : NoticeKind) (subject : Nat) (value : Int) (t : Trunk) : Prop :=
  let queue := if kind.isUrgent = true then t.urgent else t.general
  let size := if kind.isUrgent = true then Config.urgentSize else Config.generalSize
  (∃ src, (⟨kind, subject, value, now, src⟩ : Notice) ∈ queue) ∨ (t.overflow = true ∧ size ≤ queue.length)

theorem notified_iff (s t : State) (kind : NoticeKind) (subject : Nat) (value : Int) :
    notified s t kind subject value ↔ t.trunk.Announces s.now kind subject value := Iff.rfl

section Announces

variable {now : Stamp} {kind : NoticeKind} {subject : Nat} {value : Int}

theorem Trunk.announces_join {t : Trunk} {n : Notice} (h : t.Announces now kind subject value)
    (hn : kind.isUrgent = true ∨ ¬(n.kind = kind ∧ n.subject = subject)) :
    (t.join n).Announces now kind subject value := by
  unfold Trunk.Announces at h ⊢
  cases hurgent : kind.isUrgent with
  | true =>
    simp only [hurgent, if_true] at h ⊢
    rcases h with ⟨src, hmem⟩ | ⟨hover, hfull⟩
    · exact .inl ⟨src, t.join_urgent_suffix n hmem⟩
    · exact .inr ⟨t.join_overflow n hover, hfull.trans (t.join_urgent_length n)⟩
  | false =>
    simp only [hurgent, Bool.false_eq_true, if_false, false_or] at h hn ⊢
    rcases h with ⟨src, hmem⟩ | ⟨hover, hfull⟩
    · exact .inl ⟨src, t.mem_join_general n hmem hn⟩
    · exact .inr ⟨t.join_overflow n hover, hfull.trans (t.join_general_length n)⟩

variable {K : NoticeKind → Prop} {P : Bool} {t u : Trunk}

theorem Trunk.Moved.announces (h : Trunk.Moved K P t u) (ht : t.Announces now kind subject value)
    (hK : kind.isUrgent = true ∨ ¬K kind) : u.Announces now kind subject value := by
  induction h with
  | refl => exact ht
  | notice _ n hn ih =>
    refine Trunk.announces_join ih (hK.imp_right fun hnot hsame => hnot ?_)
    rw [← hsame.1]
    exact hn
  | setpoint _ _ e ih =>
    rw [Trunk.queueSetpoint_other]
    exact ih
  | zero _ _ node src ih => exact ih
  | drop _ _ node ih => exact ih

theorem Trunk.Moved.mem_general (h : Trunk.Moved K P t u) {n : Notice} (hn : n ∈ u.general)
    (hK : ¬K n.kind) : n ∈ t.general := by
  induction h with
  | refl => exact hn
  | @notice u _ q hq ih => exact ih (u.mem_general_of_join q hn fun he => hK (he ▸ hq))
  | setpoint _ _ e ih =>
    rw [Trunk.queueSetpoint_other] at hn
    exact ih hn
  | zero _ _ node src ih => exact ih hn
  | drop _ _ node ih => exact ih hn

theorem Trunk.Moved.mem_urgent (h : Trunk.Moved K P t u) {n : Notice} (hn : n ∈ u.urgent)
    (hK : ¬K n.kind) : n ∈ t.urgent := by
  induction h with
  | refl => exact hn
  | @notice u _ q hq ih => exact ih (u.mem_urgent_of_join q hn fun he => hK (he ▸ hq))
  | setpoint _ _ e ih =>
    rw [Trunk.queueSetpoint_other] at hn
    exact ih hn
  | zero _ _ node src ih => exact ih hn
  | drop _ _ node ih => exact ih hn

end Announces

/-- A notice is still announced after what moves the trunk by other kinds, and an urgent one after any
move. -/
theorem notified.after {K : NoticeKind → Prop} {P : Bool} {s t u : State} {kind : NoticeKind}
    {subject : Nat} {value : Int} (h : notified s t kind subject value)
    (hm : Trunk.Moved K P t.trunk u.trunk) (hK : kind.isUrgent = true ∨ ¬K kind) :
    notified s u kind subject value := hm.announces h hK

/-- A later notice of another subject leaves a notice announced. -/
theorem notified.raise {s t : State} {kind k : NoticeKind} {subject n : Nat} {value v : Int}
    (h : notified s t kind subject value)
    (hne : kind.isUrgent = true ∨ ¬(k = kind ∧ n = subject)) :
    notified s (t.raise k n v) kind subject value := Trunk.announces_join h hne

/-- Only the trunk and the stamp count. -/
theorem notified.congr {s s' t t' : State} {kind : NoticeKind} {subject : Nat} {value : Int}
    (h : notified s t kind subject value) (hs : s'.now = s.now) (ht : t'.trunk = t.trunk) :
    notified s' t' kind subject value := by
  rw [notified_iff] at h ⊢
  rwa [hs, ht]

end Sys2Proof.Machine
end

section
/-! Opening an interval and opening a job (R98, R101, R110, R116, R127). -/

namespace Sys2Proof.Machine

/-! ### The target of an interval (R98) -/

section Target

variable {step : Nat} (h : 0 < step) (top : Int)
include h

theorem lt_targetOf : top < targetOf step top := by
  unfold targetOf stepFloor
  rw [Int.fdiv_eq_ediv_of_nonneg _ (Int.natCast_nonneg step)]
  exact (Int.lt_ediv_add_one_mul_self top (b := (step : Int)) (by exact_mod_cast h)).trans_eq (by ring)

theorem targetOf_le : targetOf step top ≤ top + step := by
  unfold targetOf stepFloor
  rw [Int.fdiv_eq_ediv_of_nonneg _ (Int.natCast_nonneg step)]
  have := Int.ediv_mul_le top (b := step) (by exact_mod_cast h.ne')
  omega

omit h in
theorem dvd_targetOf : (step : Int) ∣ targetOf step top :=
  (Dvd.intro_left _ rfl : (step : Int) ∣ stepFloor step top).add (dvd_refl _)

end Target

/-! ### The opened interval (R98, R101) -/

theorem FlagSet.zero_or (f : FlagSet) : 0 ||| f = f := BitVec.zero_or

theorem flagIf_eq (c : Bool) (f : FlagSet) : flagIf c f = if c = true then f else 0 := rfl

theorem State.depthUncertain_iff (s : State) : s.depthUncertain = true ↔
    s.depth.encoderUncertain = true ∨ s.depth.anchorUncertain = true ∨ s.tracker.tallyUncertain = true := by
  simp [State.depthUncertain, or_assoc]

/-- The flag of an interval that opens while the depth or the string cannot be trusted (R101). -/
theorem flagIf_depthUncertain (s : State) : flagIf s.depthUncertain flagDepthUncertain =
    if s.depth.encoderUncertain = true ∨ s.depth.anchorUncertain = true ∨ s.tracker.tallyUncertain = true
    then 16#10 else 0 := by
  rw [flagIf_eq]
  exact if_congr s.depthUncertain_iff rfl rfl

theorem newInterval_opens {s : State} (hstep : 0 < s.settings.step) (top : Int) (corrected : Bool) :
    intervalOpens (s.recorder.closedCount + 1) top (flagIf corrected flagCorrected) s
      (newInterval top corrected s) := by
  refine ⟨lt_targetOf hstep top, targetOf_le hstep top, dvd_targetOf top, ?_⟩
  unfold newInterval
  rw [flagIf_depthUncertain, flagIf_eq s.mgmt.timeUnset]
  rfl

/-- An opening reads the settings, the three uncertainty flags and the site time. -/
theorem intervalOpens.congr {number : Nat} {top : Int} {flags : FlagSet} {s t : State} {j : Interval}
    (h : intervalOpens number top flags t j) (htables : t.tables = s.tables) (hdepth : t.depth = s.depth)
    (htracker : t.tracker = s.tracker) (hmgmt : t.mgmt = s.mgmt) :
    intervalOpens number top flags s j := by
  unfold intervalOpens State.settings at h ⊢
  rwa [htables, hdepth, htracker, hmgmt] at h

/-! ### JOB OPEN (R127) -/

section JobOpen

variable {number customer : Nat} {s : State}

theorem doJobOpen_of_badArgs (h : number < 1 ∨ 999999 < number ∨ customer < 1 ∨ 65535 < customer) :
    doJobOpen number customer s = (s, .plain .refusedValue) := if_pos h

variable (hargs : ¬(number < 1 ∨ 999999 < number ∨ customer < 1 ∨ 65535 < customer))
include hargs

theorem doJobOpen_of_inProgress (h : s.jobInProgress = true) :
    doJobOpen number customer s = (s, .plain .refusedState) := by
  rw [doJobOpen, if_neg hargs, if_pos h]
  rfl

variable (hjob : s.jobInProgress = false)
include hjob

theorem doJobOpen_of_banks (h : (s.banks[0]).state ≠ .free ∨ (s.banks[1]).state ≠ .free) :
    doJobOpen number customer s = (s, .plain .refusedState) := by
  rw [doJobOpen, if_neg hargs, if_neg (by rw [hjob]; nofun), if_pos h]
  rfl

variable (hbanks : (s.banks[0]).state = .free ∧ (s.banks[1]).state = .free)
include hbanks

theorem doJobOpen_of_tickets (h : s.billing.tickets ≠ []) :
    doJobOpen number customer s = (s, .plain .refusedState) := by
  rw [doJobOpen, if_neg hargs, if_neg (by rw [hjob]; nofun),
    if_neg (not_or.mpr ⟨not_not_intro hbanks.1, not_not_intro hbanks.2⟩), if_pos h]
  rfl

theorem doJobOpen_of_empty (h : s.billing.tickets = []) : doJobOpen number customer s =
    (recorderJobOpen ((openJob number customer s).onBank 0 fun _ => Bank.startFilling), .plain .done) := by
  rw [doJobOpen, if_neg hargs, if_neg (by rw [hjob]; nofun),
    if_neg (not_or.mpr ⟨not_not_intro hbanks.1, not_not_intro hbanks.2⟩), if_neg (not_not_intro h)]

end JobOpen

theorem State.jobInProgress_iff (s : State) : s.jobInProgress = true ↔
    s.job.state = .opened ∨ s.job.state = .suspended ∨ s.job.state = .closing := by
  simp [State.jobInProgress, or_assoc]

theorem State.jobInProgress_eq_false_iff (s : State) : s.jobInProgress = false ↔
    s.job.state = .noJob ∨ s.job.state = .closed := by
  rw [← Bool.not_eq_true, s.jobInProgress_iff]
  cases s.job.state <;> simp

theorem exec_jobOpen_of_ready {h : ReqHeader} {number : BitVec 32} {customer : BitVec 16} {s t : State}
    {a : Reply} (hs : s.ready) (hdo : doJobOpen number.toNat customer.toNat s = (t, a)) :
    exec (.jobOpen h number customer) s = answers t h 72 a := finish_serve_of_ready hs hdo

/-- The frame carries the customer in 16 bits, so the upper bound of the first test holds of itself. -/
theorem jobOpen_badArgs_iff (number : BitVec 32) (customer : BitVec 16) :
    (number.toNat < 1 ∨ 999999 < number.toNat ∨ customer.toNat < 1 ∨ 65535 < customer.toNat) ↔
      (number = 0 ∨ 999999 < number.toNat ∨ customer = 0) := by
  bv_omega

/-- Settles O52: one equation per test of R127; the recorder then opens interval 1 at D. -/
theorem jobOpenBeginsAJob : Obligations.JobOpenBeginsAJob := by
  intro h number customer s hs argsBad D step refused
  have hargs := jobOpen_badArgs_iff number customer
  refine ⟨fun hbad => exec_jobOpen_of_ready hs (doJobOpen_of_badArgs (hargs.mpr hbad)),
    fun hok hstate => exec_jobOpen_of_ready hs ?_, fun hok hjob hfirst hsecond hstore hstep => ?_⟩
  · have hgood := mt hargs.mp hok
    cases hjob : s.jobInProgress with
    | true => exact doJobOpen_of_inProgress hgood hjob
    | false =>
      have hnone : ¬(s.job.state = .opened ∨ s.job.state = .suspended ∨ s.job.state = .closing) := by
        rw [← s.jobInProgress_iff, hjob]
        nofun
      have hrest : ((s.banks[0]).state ≠ .free ∨ (s.banks[1]).state ≠ .free) ∨ s.billing.tickets ≠ [] := by
        tauto
      by_cases hbanks : (s.banks[0]).state ≠ .free ∨ (s.banks[1]).state ≠ .free
      · exact doJobOpen_of_banks hgood hjob hbanks
      · have hfree : (s.banks[0]).state = .free ∧ (s.banks[1]).state = .free := by
          push Not at hbanks
          exact hbanks
        exact doJobOpen_of_tickets hgood hjob hfree (hrest.resolve_left hbanks)
  · have hdo := doJobOpen_of_empty (mt hargs.mp hok) (s.jobInProgress_eq_false_iff.mpr hjob)
      ⟨hfirst, hsecond⟩ hstore
    have hpos : 0 < s.settings.step := Int.natCast_pos.mp hstep
    obtain ⟨hlt, hle, hdvd, hi⟩ := newInterval_opens (s := s.onRecorder fun _ => Recorder.default) hpos D false
    refine ⟨_, newInterval D false (s.onRecorder fun _ => Recorder.default),
      exec_jobOpen_of_ready hs hdo, ?_, rfl, rfl, hlt, hle, hdvd, hi.trans ?_, ?_⟩
    · change ({ s.billing with job := _, acc := _, deferred := _, cadencePending := _ } : Billing) = _
      dsimp only
      rw [hstore]
      rfl
    · rw [flagIf_eq, if_neg Bool.false_ne_true, FlagSet.zero_or]
      rfl
    · simp [openJob]

end Sys2Proof.Machine
end

section
/-! The issue of a ticket (R123, R147 to R149). -/

namespace Sys2Proof.Machine

/-! ### The ticket and the meter (R147 to R149) -/

theorem State.charges_total (s : State) : s.charges.total = min 281474976710655
    (((List.finRange 7).map fun a =>
        (s.billing.acc.seconds[a] * s.activityRate a.val + s.billing.acc.carries[a]) / 3600).sum +
      s.billing.acc.footageCharge / 100000 +
      (s.billing.acc.lostMud * s.mudRate + s.billing.acc.mudCarry) / 1000000 + s.billing.acc.products) := by
  rw [← s.charges_activity]
  rfl

/-! ### The end of a job (R123, R149) -/

/-- The issue of the final ticket closes the job and then seals the banks. -/
theorem issueTicket_final (s : State) : ∃ u : State, issueTicket true s = sealBanks u ∧
    keepsAllBut [.billing, .trunk] s u ∧ notified s u .ticketReady 1 (s.nextTicketNumber true) ∧
    Trunk.Moved (· = .ticketReady) false s.trunk u.trunk := by
  refine ⟨_, rfl, ?_, ?_, ?_⟩
  · simp
  · refine (State.raise_notified s (s.onBilling fun b => _) .ticketReady 1 _ rfl).congr rfl rfl
  · simp -implicitDefEqProofs [Trunk.Moved.refl]

/-- The seal of a bank with records is announced (R123). -/
theorem sealBanks_some {s : State} {b : Fin 2} (h : s.fillingBank = some b) :
    ((s.banks[b]).records = [] → sealBanks s = s.onBank b fun _ => Bank.free) ∧
    ((s.banks[b]).records ≠ [] → sealBanks s =
      (s.onBank b fun k => { k with state := .full }).raise .bankReady b.val (s.banks[b]).records.length) := by
  unfold sealBanks
  rw [h]
  exact ⟨fun hnone => if_pos (by rw [hnone]; rfl), fun hsome => if_neg (by simpa using hsome)⟩

/-- The notice of the final ticket outlasts the seal of the banks. -/
theorem issueTicket_ticketReady (final : Bool) (s : State) :
    notified s (issueTicket final s) .ticketReady final.toNat (s.nextTicketNumber final) := by
  cases final with
  | false => exact State.raise_notified s (s.onBilling fun b => _) .ticketReady 0 _ rfl
  | true =>
    obtain ⟨u, he, -, hready, -⟩ := issueTicket_final s
    rw [he]
    exact hready.after (sealBanks_moved (K := fun k => k = .bankReady) (P := false) rfl .refl)
      (.inr (by decide))

theorem issueTicket_banks_of_none {final : Bool} {s : State} (h : final = false ∨ s.fillingBank = none) :
    (issueTicket final s).banks = s.banks := by
  cases final with
  | false => rfl
  | true =>
    obtain ⟨u, he, hkeeps, -, -⟩ := issueTicket_final s
    have hbanks : u.banks = s.banks := hkeeps .banks (by decide)
    have hnone : u.fillingBank = none := by
      unfold State.fillingBank at h ⊢
      rw [hbanks]
      exact h.resolve_left nofun
    rw [he, sealBanks_of_none hnone, hbanks]

theorem issueTicket_final_banks {s : State} {b : Fin 2} (h : s.fillingBank = some b) :
    ((s.banks[b]).records = [] → (issueTicket true s).banks = s.banks.set b ⟨.free, [], false⟩) ∧
    ((s.banks[b]).records ≠ [] →
      (issueTicket true s).banks = s.banks.set b { s.banks[b] with state := .full } ∧
      notified s (issueTicket true s) .bankReady b.val (s.banks[b]).records.length) := by
  obtain ⟨u, he, hkeeps, -, -⟩ := issueTicket_final s
  have hbanks : u.banks = s.banks := hkeeps .banks (by decide)
  have hnow : u.now = s.now := by
    unfold State.now
    rw [(hkeeps .mgmt (by decide) : u.mgmt = s.mgmt)]
  have hfill : u.fillingBank = some b := by
    unfold State.fillingBank at h ⊢
    rwa [hbanks]
  obtain ⟨hfree, hfull⟩ := sealBanks_some hfill
  rw [hbanks] at hfree hfull
  rw [he]
  refine ⟨fun hnone => ?_, fun hsome => ?_⟩
  · rw [hfree hnone, ← hbanks]
    rfl
  · rw [hfull hsome]
    refine ⟨?_, State.raise_notified s _ _ _ _ hnow⟩
    rw [State.raise_banks, ← hbanks]
    rfl

/-- Settles O56: the meter after an issue is a closed form, and the final ticket's seal of the banks is a
case of R123 on the FILLING bank. -/
theorem ticketsTakeAndPriceTheUnbilledAmounts : Obligations.TicketsTakeAndPriceTheUnbilledAmounts := by
  intro final s acc act mud total n k t
  have htotal : s.charges.total = total := s.charges_total
  have hk : buildTicket final s = k := by
    unfold buildTicket
    dsimp only
    rw [htotal]
    rfl
  have hn : s.nextTicketNumber final = n := rfl
  refine ⟨?_, issueTicket_ticketReady final s, issueTicket_keeps final s, issueTicket_banks_of_none,
    fun b hfinal hb => ?_⟩
  · rw [issueTicket_billing, hk, htotal, hn]
    rfl
  · have ht : t = issueTicket true s := by rw [← hfinal]
    rw [ht]
    exact issueTicket_final_banks hb

end Sys2Proof.Machine
end

section
/-! When tickets are issued, deferred and released (R143, R144, R146, R150). -/

namespace Sys2Proof.Machine

/-! ### A due ticket (R146) -/

section Due

variable {final : Bool} {s : State}

theorem ticketDue_of_room (h : s.billing.tickets.length < 8) : ticketDue final s = issueTicket final s :=
  if_pos h

theorem ticketDue_of_full (h : ¬s.billing.tickets.length < 8) :
    (ticketDue final s).billing = { s.billing with deferred := true } ∧
    notified s (ticketDue final s) .ticketDeferred final.toNat (s.nextTicketNumber final) ∧
    keepsAllBut [.billing, .trunk] s (ticketDue final s) := by
  have hdue : ticketDue final s = (s.onBilling fun b => { b with deferred := true }).raise .ticketDeferred
      final.toNat (s.nextTicketNumber final) := if_neg h
  rw [hdue]
  exact ⟨rfl, State.raise_notified s (s.onBilling fun b => _) _ _ _ rfl, by simp⟩

end Due

/-! ### TICKET NOW (R144) -/

theorem exec_ticketNow_of_ready {h : ReqHeader} {s t : State} {a : Reply} (hs : s.ready)
    (hdo : doTicketNow s = (t, a)) : exec (.ticketNow h) s = answers t h 80 a := finish_serve_of_ready hs hdo

theorem doTicketNow_refused {s : State}
    (h : ¬((s.job.state = .opened ∨ s.job.state = .suspended) ∧ s.job.ticketCounter < 65534)) :
    doTicketNow s = (s, .plain .refusedState) := if_neg h

/-- The reply of TICKET NOW with the number of an issued ticket (R177, log 13, 14). -/
theorem issued_reply {n : Nat} (h : n < 65536) : replyWhole [oN 4 (some n)] = ⟨.done, [0, 1, 0, 1] ++ bytesOfNat 4 n⟩ := by
  have hbytes : sendNumber 4 false n = bytesOfNat 4 n :=
    sendNumber_of_lt (h.trans (by decide))
  have hmask : presenceMask [oN 4 (some n)] = 1 := by simp [presenceMask, oN]
  have hfield : [oN 4 (some n)].flatMap Field.bytes = bytesOfNat 4 n := by
    rw [← hbytes]
    exact List.append_nil _
  rw [replyWhole, partData, hmask, hfield]
  rfl

theorem doTicketNow_eq {s : State} (hlive : s.job.state = .opened ∨ s.job.state = .suspended)
    (hcounter : s.job.ticketCounter < 65534) :
    (s.billing.tickets.length < 8 → doTicketNow s =
      (issueTicket false s, ⟨.done, [0, 1, 0, 1] ++ bytesOfNat 4 (s.job.ticketCounter + 1)⟩)) ∧
    (¬s.billing.tickets.length < 8 → doTicketNow s =
      (ticketDue false s, ⟨.done, [0, 1, 0, 0, 0, 0, 0, 0]⟩)) := by
  have hruns : doTicketNow s = (ticketDue false s, replyWhole [oN 4
      (if s.billing.tickets.length < 8 then some (s.job.ticketCounter + 1) else none)]) :=
    if_pos ⟨hlive, hcounter⟩
  rw [hruns]
  refine ⟨fun hroom => ?_, fun hfull => ?_⟩
  · rw [if_pos hroom, ticketDue_of_room hroom, issued_reply (by omega)]
  · rw [if_neg hfull]
    rfl

/-! ### The cadence (R143) -/

/-- The state once a fired trigger has been taken. -/
def State.cadenceTaken (s : State) : State := s.onBilling fun b => { b with cadencePending := false }

theorem takeCadence_of_idle {s : State} (h : s.billing.cadencePending = false) : takeCadence s = s :=
  if_neg (by rw [h]; nofun)

theorem takeCadence_of_fired {s : State} (h : s.billing.cadencePending = true) (hjob : s.job.state = .opened)
    (hmode : s.mode ≠ .starting) (hcounter : s.job.ticketCounter < 65534) :
    takeCadence s = ticketDue false s.cadenceTaken :=
  (if_pos h).trans (if_pos ⟨hjob, hmode, hcounter⟩)

/-! ### A metered second (R136, R143) -/

/-- The meter after a second of an OPEN job, with the cadence test made (R136, R143). -/
def Billing.metered (a : Fin 7) (fired : Bool) (b : Billing) : Billing := { b with
  cadencePending := fired
  job := { b.job with metered := min 4294967295 (b.job.metered + 1) }
  acc := { b.acc with seconds := b.acc.seconds.set a (min 4294967295 (b.acc.seconds[a] + 1)) } }

/-- The state after a second of an OPEN job is metered. -/
def State.metered (fired : Bool) (s : State) : State := s.onBilling (·.metered s.depth.taken.code fired)

theorem meterSecond_of_not {s : State} (h : s.mode = .starting ∨ s.job.state ≠ .opened) :
    meterSecond s = s := if_neg fun hall => h.elim hall.2 (absurd hall.1)

theorem meterSecond_of_opened {s : State} (hjob : s.job.state = .opened) (hmode : s.mode ≠ .starting) :
    meterSecond s = takeCadence (s.metered
      (decide (s.job.metered < min 4294967295 (s.job.metered + 1)) &&
        cadenceFires s.settings.ticketBit (min 4294967295 (s.job.metered + 1)))) :=
  if_pos ⟨hjob, hmode⟩

theorem cadenceFires_iff (k m : Nat) : cadenceFires k m = true ↔ m % 2 ^ (k + 1) = 2 ^ k := by
  simp [cadenceFires]

section Metered

variable {s : State} (hjob : s.job.state = .opened) (hmode : s.mode ≠ .starting)
include hjob hmode

theorem meterSecond_of_fired (hfires : (s.job.metered + 1) % 2 ^ (s.settings.ticketBit + 1) =
      2 ^ s.settings.ticketBit) (hmetered : s.job.metered + 1 ≤ 4294967295)
    (hcounter : s.job.ticketCounter < 65534) : meterSecond s = ticketDue false (s.metered false) := by
  have hfired : (decide (s.job.metered < min 4294967295 (s.job.metered + 1)) &&
      cadenceFires s.settings.ticketBit (min 4294967295 (s.job.metered + 1))) = true := by
    rw [min_eq_right hmetered, (cadenceFires_iff _ _).mpr hfires, decide_eq_true (Nat.lt_succ_self _)]
    rfl
  rw [meterSecond_of_opened hjob hmode, hfired]
  exact takeCadence_of_fired (s := s.metered true) rfl hjob hmode hcounter

theorem meterSecond_of_notFired (h : ¬(s.job.metered + 1) % 2 ^ (s.settings.ticketBit + 1) =
      2 ^ s.settings.ticketBit ∨ 4294967295 < s.job.metered + 1 ∨ 65534 ≤ s.job.ticketCounter) :
    meterSecond s = s.metered false := by
  rw [meterSecond_of_opened hjob hmode]
  generalize hfired : (decide (s.job.metered < min 4294967295 (s.job.metered + 1)) &&
    cadenceFires s.settings.ticketBit (min 4294967295 (s.job.metered + 1))) = fired
  cases fired with
  | false => exact takeCadence_of_idle (s := s.metered false) rfl
  | true =>
    obtain ⟨hlt, hcadence⟩ := Bool.and_eq_true_iff.mp hfired
    have hlt := of_decide_eq_true hlt
    have hmetered : s.job.metered + 1 ≤ 4294967295 := by omega
    rw [min_eq_right hmetered] at hcadence
    rcases h with hno | hover | hstop
    · exact absurd ((cadenceFires_iff _ _).mp hcadence) hno
    · exact absurd hmetered hover.not_ge
    · exact (if_pos rfl).trans (if_neg fun hall => hstop.not_gt hall.2.2)

end Metered

/-! ### The work of a second tick before the meter (R170) -/

/-- Site time after a second tick. -/
def State.ticked (s : State) : State := (s.reach s.mgmt.secondDue).onMgmt fun m =>
  { m with siteTime := m.siteTime + 1, secondDue := m.secondDue + 1000 }

/-- What a second tick does before it meters. -/
def State.gathered (s : State) : State := drillingSecond (rotatingSecond (eachPump rampPump s.ticked))

theorem exec_secondTick (s : State) : exec .secondTick s = .next (transmit (meterSecond s.gathered)) := rfl

theorem State.ticked_mgmt (s : State) : s.ticked.mgmt = { s.mgmt with
    siteTime := s.mgmt.siteTime + 1, secondDue := s.mgmt.secondDue + 1000
    clock := max s.mgmt.clock s.mgmt.secondDue } := rfl

theorem State.ticked_keeps (s : State) : keepsAllBut [.mgmt] s s.ticked := by
  unfold State.ticked
  simp

theorem State.gathered_keeps_ticked (s : State) :
    keepsAllBut [.pumpCtl, .tracker, .recorder, .trunk] s.ticked s.gathered := by
  have hramps := eachPump_keeps rampPump_keeps s.ticked
  unfold State.gathered
  rw [keepsAllBut_drillingSecond _ _ _ (by simp), keepsAllBut_rotatingSecond _ _ _ (by simp)]
  exact keepsAllBut_mono hramps (by simp)

theorem State.gathered_mgmt (s : State) : s.gathered.mgmt = s.ticked.mgmt :=
  s.gathered_keeps_ticked .mgmt (by decide)

theorem State.gathered_keeps (s : State) :
    keepsAllBut [.pumpCtl, .tracker, .recorder, .trunk, .mgmt] s s.gathered :=
  keepsAllBut_trans (keepsAllBut_mono s.ticked_keeps (by simp))
    (keepsAllBut_mono s.gathered_keeps_ticked (by simp))

theorem State.gathered_billing (s : State) : s.gathered.billing = s.billing :=
  s.gathered_keeps .billing (by decide)

theorem State.gathered_mode (s : State) : s.gathered.mode = s.mode := by
  unfold State.mode
  rw [s.gathered_mgmt]
  rfl

/-! ### RELEASE TICKET (R150) -/

theorem exec_releaseTicket_of_ready {h : ReqHeader} {number : BitVec 16} {s t : State} {a : Reply} (hs : s.ready)
    (hdo : doReleaseTicket number.toNat s = (t, a)) :
    exec (.releaseTicket h number) s = answers t h 81 a := finish_serve_of_ready hs hdo

theorem doReleaseTicket_of_empty {n : Nat} {s : State} (h : s.billing.tickets = []) :
    doReleaseTicket n s = (s, .plain .refusedValue) := by
  unfold doReleaseTicket
  rw [h]
  rfl

theorem doReleaseTicket_of_cons {n : Nat} {s : State} {k : Ticket} {rest : List Ticket}
    (h : s.billing.tickets = k :: rest) : doReleaseTicket n s = if k.number = n
      then (afterRelease (s.onBilling fun b => { b with tickets := rest }), .plain .done)
      else (s, .plain .refusedValue) := by
  unfold doReleaseTicket
  rw [h]
  rfl

section AfterRelease

variable {s : State}

theorem afterRelease_of_nothingDeferred (h : s.billing.deferred = false ∨ s.job.state = .noJob ∨
    s.job.state = .closed ∨ (s.job.state = .closing ∧ s.job.closingInterval = false)) :
    afterRelease s = s := by
  unfold afterRelease
  split
  · next hdeferred =>
    rcases h with h | h | h | ⟨h, hmark⟩
    · rw [h] at hdeferred
      cases hdeferred
    · rw [h]
    · rw [h]
    · rw [h, hmark]
      rfl
  · rfl

theorem afterRelease_of_live (hdeferred : s.billing.deferred = true)
    (h : s.job.state = .opened ∨ s.job.state = .suspended) : afterRelease s = issueTicket false s := by
  rw [afterRelease, if_pos hdeferred]
  rcases h with h | h <;> rw [h]

theorem afterRelease_of_closing (hdeferred : s.billing.deferred = true) (h : s.job.state = .closing)
    (hmark : s.job.closingInterval = true) : afterRelease s = issueTicket true s := by
  rw [afterRelease, if_pos hdeferred, h]
  exact if_pos hmark

end AfterRelease

/-- Settles O57: the tests of TICKET NOW, of the cadence and of RELEASE TICKET, over one rule for a due
ticket. -/
theorem ticketsAreIssuedDeferredAndReleased : Obligations.TicketsAreIssuedDeferredAndReleased := by
  intro h number s n live room defers taken m a metered fires
  refine ⟨fun hs => ⟨fun hno => exec_ticketNow_of_ready hs (doTicketNow_refused fun hall => ?_),
    fun hlive hcounter => ⟨fun hroom => ?_, fun hfull => ?_⟩⟩, fun hidle => ?_,
    fun hpending hjob hmode hcounter => ?_, fun hjob hmode => ?_,
    fun hs hnone => exec_releaseTicket_of_ready hs (doReleaseTicket_of_empty hnone),
    fun k rest hs hstore => ?_⟩
  · exact hno.elim (absurd hall.1) fun hstop => hstop.not_gt hall.2
  · exact exec_ticketNow_of_ready hs ((doTicketNow_eq hlive hcounter).1 hroom)
  · exact ⟨_, exec_ticketNow_of_ready hs ((doTicketNow_eq hlive hcounter).2 hfull), ticketDue_of_full hfull⟩
  · exact congrArg (fun t => Host.Outcome.next (transmit t)) (takeCadence_of_idle hidle)
  · have hexec : exec .cadenceTrigger s = .next (transmit (ticketDue false taken)) :=
      congrArg (fun t => Host.Outcome.next (transmit t)) (takeCadence_of_fired hpending hjob hmode hcounter)
    refine ⟨fun hroom => ?_, fun hfull => ⟨_, hexec, ticketDue_of_full hfull⟩⟩
    rw [hexec, ticketDue_of_room (s := taken) hroom]
  · have hbilling := s.gathered_billing
    have hdepth : s.gathered.depth = s.depth := s.gathered_keeps .depth (by decide)
    have htables : s.gathered.tables = s.tables := s.gathered_keeps .tables (by decide)
    have hmode' : s.gathered.mode ≠ .starting := by rwa [s.gathered_mode]
    have hbill : s.gathered.billing.metered s.gathered.depth.taken.code false =
        s.billing.metered s.depth.taken.code false := by rw [hbilling, hdepth]
    have hmetered : s.gathered.metered false = metered s.gathered :=
      congrArg (fun b => { s.gathered with billing := b }) hbill
    have hjob' : s.gathered.job = s.job := congrArg Billing.job hbilling
    have hbit : s.gathered.settings.ticketBit = s.tables.settings.ticketBit := by
      unfold State.settings
      rw [htables]
    have hopened : s.gathered.job.state = .opened := by rwa [hjob']
    refine ⟨s.gathered, _, exec_secondTick s, s.gathered_keeps, s.gathered_mgmt.trans s.ticked_mgmt,
      fun hfires hmax hcounter => ?_, fun hno => ?_⟩
    · have hdue : meterSecond s.gathered = ticketDue false (metered s.gathered) := by
        rw [← hmetered]
        exact meterSecond_of_fired hopened hmode' (by simpa only [hbit, hjob'] using hfires)
          (by simpa only [hjob'] using hmax) (by simpa only [hjob'] using hcounter)
      rw [hdue]
      exact ⟨fun hroom => ticketDue_of_room (s := metered s.gathered) hroom,
        fun hfull => ticketDue_of_full (s := metered s.gathered) hfull⟩
    · rw [← hmetered]
      exact meterSecond_of_notFired hopened hmode' (by simpa only [hbit, hjob'] using hno)
  · intro removed
    refine ⟨fun hne => exec_releaseTicket_of_ready hs ?_, fun heq => ?_⟩
    · rw [doReleaseTicket_of_cons hstore, if_neg hne]
    · have hdo : doReleaseTicket number.toNat s = (afterRelease removed, .plain .done) := by
        rw [doReleaseTicket_of_cons hstore, if_pos heq]
        rfl
      have hexec := exec_releaseTicket_of_ready (h := h) hs hdo
      refine ⟨fun hnothing => ?_, fun hdeferred hlive => ?_, fun hdeferred hjob hmark => ?_⟩
      · rw [hexec, afterRelease_of_nothingDeferred (s := removed) hnothing]
      · rw [hexec, afterRelease_of_live (s := removed) hdeferred hlive]
      · rw [hexec, afterRelease_of_closing (s := removed) hdeferred hjob hmark]

end Sys2Proof.Machine
end

section
/-! A closed interval's record reaches the FILLING bank, the meter and the recorder (R106, R117 to R119,
R137). -/

namespace Sys2Proof.Machine

/-! ### The append (R117 to R119) -/

/-- The state with a record stored, before the two tests of R117. -/
def State.stored (b : Fin 2) (r : ClosedRecord) (s : State) : State :=
  s.onBank b fun k => { k with records := k.records ++ [r] }

theorem State.stored_bank (b : Fin 2) (r : ClosedRecord) (s : State) :
    (s.stored b r).banks[b] = { s.banks[b] with records := s.banks[b].records ++ [r] } := by
  rw [State.stored, State.onBank_banks_get, if_pos rfl]

theorem appendRecord_eq {s : State} {b : Fin 2} (r : ClosedRecord) (h : s.fillingBank = some b) :
    appendRecord r s = testBankFull b (testFillMark b (s.stored b r)) := by
  unfold appendRecord
  rw [h]
  rfl

theorem testFillMark_of_reached {b : Fin 2} {s : State} (hmark : (s.banks[b]).fillMarked = false)
    (hreached : s.fillMark ≤ (s.banks[b]).records.length) : testFillMark b s =
      (s.onBank b fun k => { k with fillMarked := true }).raise .bankFillMark b.val (s.banks[b]).records.length :=
  if_pos ⟨hmark, hreached⟩

theorem testFillMark_of_not {b : Fin 2} {s : State}
    (h : (s.banks[b]).fillMarked = true ∨ (s.banks[b]).records.length < s.fillMark) : testFillMark b s = s := by
  refine if_neg fun hall => h.elim (fun hmarked => ?_) fun hlt => hlt.not_ge hall.2
  rw [hall.1] at hmarked
  cases hmarked

theorem testBankFull_of_room {b : Fin 2} {s : State} (h : (s.banks[b]).records.length < 32) :
    testBankFull b s = s := if_neg h.not_ge

/-- A full bank is announced. -/
theorem testBankFull_bankReady {b : Fin 2} {s t : State} (h : 32 ≤ (t.banks[b]).records.length)
    (hnow : t.now = s.now) : notified s (testBankFull b t) .bankReady b.val 32 := by
  have hraise : notified s ((t.onBank b fun k => { k with state := .full }).raise .bankReady b.val
      Config.bankSize) .bankReady b.val 32 := State.raise_notified s (t.onBank b _) _ _ _ hnow
  have hfull : Config.bankSize ≤ (t.banks[b]).records.length := h
  unfold testBankFull
  rw [if_pos hfull]
  dsimp only
  split
  · exact hraise.congr rfl rfl
  · exact hraise

/-- The fill mark is decided before the test of the count, which leaves it. -/
theorem appendRecord_fillMarked {s : State} {b : Fin 2} (r : ClosedRecord) (h : s.fillingBank = some b) :
    ((appendRecord r s).banks[b]).fillMarked = ((testFillMark b (s.stored b r)).banks[b]).fillMarked := by
  rw [appendRecord_eq r h, (testBankFull_bank b _).1]
  split <;> rfl

theorem testFillMark_now (b : Fin 2) (s : State) : (testFillMark b s).now = s.now := by
  unfold State.now
  rw [testFillMark_keeps b s .mgmt (by decide)]

theorem testFillMark_records (b : Fin 2) (s : State) :
    ((testFillMark b s).banks[b]).records = (s.banks[b]).records := by
  obtain ⟨mark, h⟩ := testFillMark_bank b s
  rw [h b, if_pos rfl]

theorem appendRecord_appended {s : State} {b : Fin 2} (r : ClosedRecord) (h : s.fillingBank = some b) :
    recordAppended r b s (appendRecord r s) := by
  have happend := appendRecord_eq r h
  have hmarked := appendRecord_fillMarked r h
  have hbank := s.stored_bank b r
  have hsize : (32 : Nat) = Config.bankSize := rfl
  obtain ⟨mark, hb, ho⟩ := appendRecord_bank r h
  refine ⟨by rw [hb], fun hclear hreached => ?_, fun hno => ?_, fun hroom => ?_, fun hfull => ?_⟩
  · have htest := testFillMark_of_reached (b := b) (s := s.stored b r) (by rw [hbank]; exact hclear)
      (by rw [hbank, List.length_append]; exact hreached)
    have hcount : ((s.stored b r).banks[b]).records.length = (s.banks[b]).records.length + 1 := by
      rw [hbank, List.length_append]
      rfl
    rw [hmarked, happend, htest, hcount]
    refine ⟨?_, ?_⟩
    · rw [State.raise_bank, State.onBank_banks_get, if_pos rfl]
    · exact (State.raise_notified s ((s.stored b r).onBank b _) _ _ _ rfl).after
        (testBankFull_moved (K := fun k => k = .bankReady) (P := false) rfl .refl) (.inr (by decide))
  · have htest := testFillMark_of_not (b := b) (s := s.stored b r) (by
      rw [hbank, List.length_append]
      exact hno)
    rw [hmarked, happend, htest]
    refine ⟨by rw [hbank], fun n hn hkind => ?_⟩
    exact (testBankFull_moved (K := fun k => k = .bankReady) (P := false) rfl
      .refl : Trunk.Moved _ _ (s.stored b r).trunk _).mem_general hn (by rw [hkind]; decide)
  · have hlt : ¬Config.bankSize ≤ (s.banks[b]).records.length + 1 := by
      rw [← hsize]
      exact hroom.not_ge
    rw [State.bank_sub, State.bank_sub, ho, hb, if_neg hlt, if_neg fun hall => hlt hall.1]
    exact ⟨rfl, rfl⟩
  · have hge : Config.bankSize ≤ (s.banks[b]).records.length + 1 := by
      rw [← hsize]
      exact hfull.ge
    rw [State.bank_sub, State.bank_sub, ho, hb, if_pos hge]
    refine ⟨rfl, ?_, fun hfree => if_pos ⟨hge, hfree⟩, fun hother => if_neg ?_⟩
    · rw [happend]
      refine testBankFull_bankReady ?_ (testFillMark_now b _)
      rw [testFillMark_records, hbank, List.length_append]
      exact hfull.ge
    · rw [hother]
      exact fun hall => nomatch hall.2

/-- What leaves the banks, and the notices of the banks, leaves the append done. -/
theorem recordAppended.after {K : NoticeKind → Prop} {P : Bool} {r : ClosedRecord} {b : Fin 2} {s t u : State}
    (h : recordAppended r b s t) (hbanks : u.banks = t.banks) (hm : Trunk.Moved K P t.trunk u.trunk)
    (hmark : ¬K .bankFillMark) (hready : ¬K .bankReady) : recordAppended r b s u := by
  obtain ⟨hrecords, hreached, hnot, hroom, hfull⟩ := h
  unfold recordAppended
  dsimp only
  rw [hbanks]
  refine ⟨hrecords, fun hclear hcount => ?_, fun hno => ?_, hroom, fun hcount => ?_⟩
  · obtain ⟨hmarked, hnotice⟩ := hreached hclear hcount
    exact ⟨hmarked, hnotice.after hm (.inr hmark)⟩
  · obtain ⟨hmarked, hkept⟩ := hnot hno
    exact ⟨hmarked, fun n hn hkind => hkept n (hm.mem_general hn (by rwa [hkind])) hkind⟩
  · obtain ⟨hstate, hnotice, hothers⟩ := hfull hcount
    exact ⟨hstate, hnotice.after hm (.inr hready), hothers⟩

/-! ### The footage (R137) -/

/-- The footage reads the meter and the Tariff Table. -/
theorem billFootage_billing_congr {s t : State} (hbilling : t.billing = s.billing) (htables : t.tables = s.tables)
    (top bottom : Int) (cls : Nat) : (billFootage top bottom cls t).billing = (billFootage top bottom cls s).billing := by
  have hjob : t.job = s.job := congrArg Billing.job hbilling
  have hfootage : ∀ lo a, addFootage t lo bottom cls a = addFootage s lo bottom cls a := by
    intro lo a
    unfold addFootage State.surcharge State.bands
    rw [htables]
  unfold billFootage
  rw [hjob]
  split
  · exact hbilling
  · dsimp only [State.onBilling_billing]
    rw [hbilling, hfootage]

theorem handOnRecord_billing (r : ClosedRecord) (s : State) : (handOnRecord r s).billing =
    if s.job.state = .opened then (billFootage r.interval.top r.bottom r.cls.val s).billing else s.billing := by
  have hbilling : (appendRecord r s).billing = s.billing := appendRecord_keeps r s .billing (by decide)
  have htables : (appendRecord r s).tables = s.tables := appendRecord_keeps r s .tables (by decide)
  have hjob : (appendRecord r s).job = s.job := congrArg Billing.job hbilling
  unfold handOnRecord
  dsimp only [State.onRecorder_billing]
  rw [hjob]
  split
  · exact billFootage_billing_congr hbilling htables _ _ _
  · exact hbilling

theorem handOnRecord_trunk (r : ClosedRecord) (s : State) : (handOnRecord r s).trunk = (appendRecord r s).trunk := by
  unfold handOnRecord
  dsimp only [State.onRecorder_trunk]
  split
  · exact billFootage_trunk _ _ _ _
  · rfl

theorem handOnRecord_appended {s : State} {b : Fin 2} (r : ClosedRecord) (h : s.fillingBank = some b) :
    recordAppended r b s (handOnRecord r s) :=
  (appendRecord_appended r h).after (K := fun _ => False) (P := false) (handOnRecord_banks r s)
    (handOnRecord_trunk r s ▸ .refl) id id

/-! ### The close (R103 to R106) -/

/-- A close reads the class table and the site time. -/
theorem closedRecord_congr {s t : State} (htables : t.tables = s.tables) (hmgmt : t.mgmt = s.mgmt) (i : Interval)
    (bottom : Int) : closedRecord i bottom t = closedRecord i bottom s := by
  unfold closedRecord
  rw [htables, hmgmt]

theorem closeInterval_of_interval {s : State} {i : Interval} (h : s.recorder.interval = some i) (bottom : Int)
    (added : FlagSet) : closeInterval bottom added s =
      handOnRecord (closedRecord { i with flags := i.flags ||| added } bottom s) s := by
  unfold closeInterval
  rw [h]

end Sys2Proof.Machine
end

section
/-! The end of a job (R111, R123, R128 to R130, R145). -/

namespace Sys2Proof.Machine

/-! ### JOB SUSPEND and JOB RESUME (R128, R129) -/

theorem exec_jobSuspend_of_ready {h : ReqHeader} {s : State} (hs : s.ready) :
    exec (.jobSuspend h) s = if s.job.state = .opened
      then answers (s.onJob fun j => { j with state := .suspended }) h 73 (.plain .done)
      else answers s h 73 (.plain .refusedState) := by
  split
  · next hopen => exact finish_serve_of_ready hs (if_pos hopen)
  · next hnot => exact finish_serve_of_ready hs (if_neg hnot)

theorem exec_jobResume_of_ready {h : ReqHeader} {s : State} (hs : s.ready) :
    exec (.jobResume h) s = if s.job.state = .suspended
      then answers (s.onJob fun j => { j with state := .opened }) h 74 (.plain .done)
      else answers s h 74 (.plain .refusedState) := by
  split
  · next hopen => exact finish_serve_of_ready hs (if_pos hopen)
  · next hnot => exact finish_serve_of_ready hs (if_neg hnot)

/-! ### The close at the end of a job (R111) -/

section Close

variable {s : State} (added : FlagSet)

theorem closeForJob_of_interval {i : Interval} (hi : s.recorder.interval = some i) (h : i.top < s.depth.hole) :
    closeForJob added s = ((handOnRecord (closedRecord { i with flags := i.flags ||| (flagPartial ||| added) }
        s.depth.hole s) s).onRecorder fun r => { r with closingMark := false }).onJob
      fun j => { j with closingInterval := true } := by
  unfold closeForJob
  rw [hi]
  dsimp only
  rw [if_pos h, closeInterval_of_interval hi]

theorem closeForJob_of_none (h : ¬∃ i, s.recorder.interval = some i ∧ i.top < s.depth.hole) :
    closeForJob added s = (s.onRecorder fun r => { r with interval := none, closingMark := false }).onJob
      fun j => { j with closingInterval := true } := by
  unfold closeForJob
  cases hi : s.recorder.interval with
  | some i =>
    dsimp only
    rw [if_neg fun htop => h ⟨i, hi, htop⟩]
    rfl
  | none =>
    dsimp only [State.onRecorder]
    rw [← hi]

end Close

/-! ### The seal of the banks (R123) -/

/-- A seal leaves the records of every bank. -/
theorem sealBanks_records (s : State) (c : Fin 2) : ((sealBanks s).banks[c]).records = (s.banks[c]).records := by
  cases hf : s.fillingBank with
  | none => rw [sealBanks_of_none hf]
  | some b =>
    obtain ⟨ho, hb⟩ := sealBanks_bank hf
    revert c
    refine (forall_banks b).mpr ⟨?_, by rw [ho]⟩
    rw [hb]
    split
    · next hnone => exact (List.eq_nil_of_length_eq_zero hnone).symm
    · rfl

/-- A seal leaves a bank that does not fill, and its notice. -/
theorem sealBanks_of_ne {s s0 : State} {b : Fin 2} (h : s.fillingBank ≠ some b) :
    (sealBanks s).banks[b] = s.banks[b] ∧
    ∀ v, notified s0 s .bankReady b.val v → notified s0 (sealBanks s) .bankReady b.val v := by
  cases hf : s.fillingBank with
  | none =>
    rw [sealBanks_of_none hf]
    exact ⟨rfl, fun _ => id⟩
  | some c =>
    have hne : b ≠ c := fun he => h (he ▸ hf)
    have hc : b = otherBank c := eq_otherBank hne
    obtain ⟨hfree, hfull⟩ := sealBanks_some hf
    refine ⟨by rw [hc, (sealBanks_bank hf).1], fun v hv => ?_⟩
    by_cases hnone : (s.banks[c]).records = []
    · rw [hfree hnone]
      exact hv.congr rfl rfl
    · rw [hfull hnone]
      exact (hv.congr (t' := s.onBank c _) rfl rfl).raise (.inr fun hsame => hne (Fin.ext hsame.2.symm))

section Final

variable {s : State}

theorem issueTicket_final_records (s : State) (c : Fin 2) :
    ((issueTicket true s).banks[c]).records = (s.banks[c]).records := by
  obtain ⟨u, he, hkeeps, -, -⟩ := issueTicket_final s
  have hbanks : u.banks = s.banks := hkeeps .banks (by decide)
  rw [he, sealBanks_records, hbanks]

theorem issueTicket_final_fillingBank (h : s.bankLaw) : (issueTicket true s).fillingBank = none := by
  obtain ⟨u, he, hkeeps, -, -⟩ := issueTicket_final s
  rw [he]
  exact sealBanks_fillingBank (State.bankLaw_of_banks (hkeeps .banks (by decide)) h)

theorem issueTicket_final_of_ne {s0 : State} {b : Fin 2} (h : s.fillingBank ≠ some b) :
    (issueTicket true s).banks[b] = s.banks[b] ∧
    ∀ v, notified s0 s .bankReady b.val v → notified s0 (issueTicket true s) .bankReady b.val v := by
  obtain ⟨u, he, hkeeps, -, hmoved⟩ := issueTicket_final s
  have hbanks : u.banks = s.banks := hkeeps .banks (by decide)
  have hfill : u.fillingBank ≠ some b := by
    unfold State.fillingBank at h ⊢
    rwa [hbanks]
  obtain ⟨hbank, hnotice⟩ := sealBanks_of_ne (s0 := s0) hfill
  rw [he]
  refine ⟨hbank.trans (by rw [hbanks]), fun v hv => hnotice v ?_⟩
  exact hv.after hmoved (.inr (by decide))

/-- The bank that takes a job's last record is sealed with it, whether that filled it or not. -/
theorem recordAppended.sealed {r : ClosedRecord} {b : Fin 2} {s0 : State} (h : recordAppended r b s0 s)
    (hlaw : s0.bankLaw) (hfill : s0.fillingBank = some b) (hnow : s.now = s0.now) :
    ((issueTicket true s).banks[b]).state = .full ∧
    notified s0 (issueTicket true s) .bankReady b.val ((issueTicket true s).banks[b]).records.length := by
  have hfilling := State.filling_of_fillingBank hfill
  obtain ⟨⟨-, hroom, -⟩, -, -⟩ := (s0.bankLaw_iff b).mp hlaw
  have hlt : (s0.banks[b]).records.length < 32 := hroom hfilling
  obtain ⟨hrecords, -, -, hless, hfull⟩ := h
  rw [issueTicket_final_records]
  rcases Nat.lt_or_ge ((s0.banks[b]).records.length + 1) 32 with hcount | hcount
  · obtain ⟨hstate, hother⟩ := hless hcount
    rw [State.bank_sub, State.bank_sub] at hother
    have hnot := State.other_not_filling hlaw hfilling
    have hsfill : s.fillingBank = some b := by
      refine State.fillingBank_eq_some hstate fun c hc => ?_
      rw [eq_otherBank hc, hother]
      exact hnot
    obtain ⟨hbanks, hready⟩ := (issueTicket_final_banks hsfill).2 (by rw [hrecords]; simp)
    refine ⟨?_, hready.congr hnow.symm rfl⟩
    rw [hbanks]
    simp
  · have hlast : (s0.banks[b]).records.length + 1 = 32 := le_antisymm hlt hcount
    obtain ⟨hstate, hready, -⟩ := hfull hlast
    have hsfill : s.fillingBank ≠ some b := fun hf => by
      have hfills := State.filling_of_fillingBank hf
      rw [hstate] at hfills
      cases hfills
    obtain ⟨hbank, hnotice⟩ := issueTicket_final_of_ne (s0 := s0) hsfill
    rw [hbank, hrecords, List.length_append]
    refine ⟨hstate, ?_⟩
    have hlength : (s0.banks[b]).records.length + [r].length = 32 := hlast
    rw [hlength]
    exact hnotice 32 hready

end Final

end Sys2Proof.Machine
end

section
/-! JOB CLOSE (R111, R123, R130, R145). -/

namespace Sys2Proof.Machine

theorem exec_jobClose_of_ready {h : ReqHeader} {s t : State} {a : Reply} (hs : s.ready)
    (hdo : doJobClose s = (t, a)) : exec (.jobClose h) s = answers t h 75 a := finish_serve_of_ready hs hdo

/-- The state once the recorder has closed a job's last interval, and the job waits for its final
ticket. -/
def State.jobClosing (s : State) : State := (closeForJob 0 s).onJob fun j => { j with state := .closing }

/-- The marks that close a job, once its last interval is gone (R111, R130). -/
def State.marksClosing (s : State) : State := ((s.onRecorder fun r => { r with closingMark := false }).onJob
  fun j => { j with closingInterval := true }).onJob fun j => { j with state := .closing }

theorem State.marksClosing_banks (s : State) : s.marksClosing.banks = s.banks := rfl

theorem State.marksClosing_trunk (s : State) : s.marksClosing.trunk = s.trunk := rfl

theorem State.marksClosing_recorder (s : State) : s.marksClosing.recorder =
    { s.recorder with closingMark := false } := rfl

theorem State.marksClosing_billing (s : State) : s.marksClosing.billing = { s.billing with
    job := { s.billing.job with closingInterval := true, state := .closing } } := rfl

theorem recordAppended.marksClosing {r : ClosedRecord} {b : Fin 2} {s t : State} (h : recordAppended r b s t) :
    recordAppended r b s t.marksClosing :=
  h.after (K := fun _ => False) (P := false) rfl .refl id id

section JobClosing

variable {s : State}

theorem State.jobClosing_eq_of_interval {i : Interval} (hi : s.recorder.interval = some i)
    (htop : i.top < s.depth.hole) : s.jobClosing =
      (handOnRecord (closedRecord { i with flags := i.flags ||| 128#10 } s.depth.hole s) s).marksClosing := by
  have hflags : (flagPartial ||| 0 : FlagSet) = 128#10 := by decide
  rw [State.jobClosing, closeForJob_of_interval 0 hi htop, hflags]
  rfl

theorem State.jobClosing_eq_of_none (h : ¬∃ i, s.recorder.interval = some i ∧ i.top < s.depth.hole) :
    s.jobClosing = (discardInterval s).marksClosing := by
  rw [State.jobClosing, closeForJob_of_none 0 h]
  rfl

theorem State.jobClosing_keeps (s : State) : keepsAllBut [.recorder, .banks, .billing, .trunk] s s.jobClosing := by
  unfold State.jobClosing
  simp

theorem State.jobClosing_now (s : State) : s.jobClosing.now = s.now := by
  unfold State.now
  rw [s.jobClosing_keeps .mgmt (by decide)]

theorem State.jobClosing_job (s : State) : ∃ mark, s.jobClosing.job =
    { s.job with billedMark := mark, closingInterval := true, state := .closing } := by
  obtain ⟨mark, h⟩ := closeForJob_job 0 s
  exact ⟨mark, congrArg (fun j : Job => { j with state := .closing }) h⟩

theorem handOnRecord_tickets (r : ClosedRecord) (s : State) :
    (handOnRecord r s).billing.tickets = s.billing.tickets := by
  rw [handOnRecord_billing]
  unfold billFootage
  split
  · split <;> rfl
  · rfl

theorem State.jobClosing_tickets (s : State) : s.jobClosing.billing.tickets = s.billing.tickets := by
  by_cases hp : ∃ i, s.recorder.interval = some i ∧ i.top < s.depth.hole
  · obtain ⟨i, hi, htop⟩ := hp
    rw [State.jobClosing_eq_of_interval hi htop, State.marksClosing_billing]
    exact handOnRecord_tickets _ s
  · rw [State.jobClosing_eq_of_none hp]
    rfl

theorem doJobClose_of_closes (hopen : s.job.state = .opened ∨ s.job.state = .suspended)
    (hext : s.recorder.extending = false) : doJobClose s = (ticketDue true s.jobClosing, .plain .done) := by
  obtain ⟨mark, hjob⟩ := s.jobClosing_job
  have hclose : recorderJobClose s = closeForJob 0 s := if_neg (by rw [hext]; nofun)
  rw [doJobClose, if_pos hopen, hclose]
  refine congrArg (·, _) (if_pos ⟨?_, ?_⟩)
  · exact congrArg Job.state hjob
  · exact congrArg Job.closingInterval hjob

theorem doJobClose_of_extending (hopen : s.job.state = .opened ∨ s.job.state = .suspended)
    (hext : s.recorder.extending = true) (hmark : s.job.closingInterval = false) : doJobClose s =
      ((s.onRecorder fun r => { r with closingMark := true }).onJob fun j => { j with state := .closing },
        .plain .done) := by
  have hclose : recorderJobClose s = s.onRecorder fun r => { r with closingMark := true } := if_pos hext
  rw [doJobClose, if_pos hopen, hclose]
  refine congrArg (·, _) (if_neg fun hall => ?_)
  have hclosing : s.job.closingInterval = true := hall.2
  rw [hmark] at hclosing
  cases hclosing

/-- A job whose interval is open above D closes it PARTIAL (R111). -/
theorem State.jobClosing_of_interval {b : Fin 2} {i : Interval} (hfill : s.fillingBank = some b)
    (hi : s.recorder.interval = some i) (htop : i.top < s.depth.hole) :
    let r := closedRecord { i with flags := i.flags ||| 128#10 } s.depth.hole s
    recordAppended r b s s.jobClosing ∧
    s.jobClosing.recorder = { s.recorder with
      interval := none, currentClass := r.cls, closingMark := false, closedCount := s.recorder.closedCount + 1 } ∧
    s.jobClosing.billing = (let k := if s.job.state = .opened
        then (billFootage i.top s.depth.hole r.cls.val s).billing else s.billing
      { k with job := { k.job with closingInterval := true, state := .closing } }) := by
  intro r
  rw [State.jobClosing_eq_of_interval hi htop, State.marksClosing_recorder, State.marksClosing_billing,
    handOnRecord_recorder, handOnRecord_billing]
  exact ⟨(handOnRecord_appended r hfill).marksClosing, rfl, rfl⟩

/-- Without one, or with D not below its top, nothing is recorded (R111). -/
theorem State.jobClosing_of_none (h : ¬∃ i, s.recorder.interval = some i ∧ i.top < s.depth.hole) :
    s.jobClosing.banks = s.banks ∧ s.jobClosing.trunk = s.trunk ∧
    s.jobClosing.recorder = { s.recorder with interval := none, closingMark := false } ∧
    s.jobClosing.billing = { s.billing with
      job := { s.billing.job with closingInterval := true, state := .closing } } := by
  rw [State.jobClosing_eq_of_none h]
  exact ⟨rfl, rfl, rfl, rfl⟩

theorem State.jobClosing_bankLaw (h : s.bankLaw) : s.jobClosing.bankLaw := by
  by_cases hp : ∃ i, s.recorder.interval = some i ∧ i.top < s.depth.hole
  · obtain ⟨i, hi, htop⟩ := hp
    rw [State.jobClosing_eq_of_interval hi htop]
    exact State.bankLaw_of_banks (State.marksClosing_banks _) (handOnRecord_bankLaw _ h)
  · exact State.bankLaw_of_banks (State.jobClosing_of_none hp).1 h

end JobClosing

/-- What a final ticket with room in the store makes of the bank that takes the job's last record. -/
theorem State.jobClosing_sealed {s : State} {b : Fin 2} (hlaw : s.bankLaw) (hfill : s.fillingBank = some b) :
    let partialClose := ∃ i, s.recorder.interval = some i ∧ i.top < s.depth.hole
    let s' := issueTicket true s.jobClosing
    ((s.banks[b]).records = [] ∧ ¬partialClose → (s'.banks[b]).state = .free) ∧
    ((s.banks[b]).records ≠ [] ∨ partialClose → (s'.banks[b]).state = .full ∧
      notified s s' .bankReady b.val (s'.banks[b]).records.length) := by
  intro partialClose s'
  by_cases hp : partialClose
  · refine ⟨fun h => absurd hp h.2, fun _ => ?_⟩
    obtain ⟨i, hi, htop⟩ := hp
    exact (State.jobClosing_of_interval hfill hi htop).1.sealed hlaw hfill s.jobClosing_now
  · obtain ⟨hbanks, -, -, -⟩ := State.jobClosing_of_none hp
    have hfill' : s.jobClosing.fillingBank = some b := by
      unfold State.fillingBank at hfill ⊢
      rwa [hbanks]
    obtain ⟨hfree, hfull⟩ := issueTicket_final_banks hfill'
    rw [hbanks] at hfree hfull
    refine ⟨fun h => ?_, fun h => ?_⟩
    · rw [hfree h.1]
      simp
    · obtain ⟨hset, hready⟩ := hfull (h.resolve_right hp)
      rw [issueTicket_final_records, hbanks]
      refine ⟨?_, hready.congr s.jobClosing_now.symm rfl⟩
      rw [hset]
      simp

/-- Settles O53: JOB CLOSE closes the interval, and then the final ticket is issued or deferred. -/
theorem jobSuspendResumeAndClose : Obligations.JobSuspendResumeAndClose := by
  intro h s hs hlaw open' becomes
  refine ⟨exec_jobSuspend_of_ready hs, exec_jobResume_of_ready hs,
    fun hno => exec_jobClose_of_ready hs (if_neg hno),
    fun hopen hext hmark => exec_jobClose_of_ready hs (doJobClose_of_extending hopen hext hmark),
    fun b hopen hext hfill => ?_⟩
  intro kept partialClose closing
  obtain ⟨mark, hjob⟩ := s.jobClosing_job
  have htickets := s.jobClosing_tickets
  have hexec := exec_jobClose_of_ready (h := h) hs (doJobClose_of_closes hopen hext)
  have hnumber : s.jobClosing.nextTicketNumber true = min 65535 (s.job.ticketCounter + 1) := by
    change min 65535 (s.jobClosing.job.ticketCounter + 1) = _
    rw [hjob]
  refine ⟨s.jobClosing, _, hexec, s.jobClosing_keeps,
    fun i hi htop => State.jobClosing_of_interval hfill hi htop,
    fun hnone => State.jobClosing_of_none hnone, ticketDue_keeps true _ .recorder (by decide), ?_,
    fun hroom => ?_, fun hfull => ?_⟩
  · unfold ticketDue
    split
    · exact issueTicket_final_records _ b
    · rfl
  · have hdue : ticketDue true s.jobClosing = issueTicket true s.jobClosing :=
      ticketDue_of_room (by rwa [htickets])
    have hbilling := issueTicket_billing true s.jobClosing
    obtain ⟨hfree, hsealed⟩ := State.jobClosing_sealed hlaw hfill
    rw [hdue]
    refine ⟨rfl, ?_, by rw [hbilling], ?_, ?_, fun hor => (hsealed hor).2,
      issueTicket_final_fillingBank (State.jobClosing_bankLaw hlaw)⟩
    · exact congrArg (fun k : Billing => k.job.state) hbilling
    · refine ⟨buildTicket true s.jobClosing, ?_, rfl, hnumber⟩
      rw [hbilling, htickets]
    · split
      · next hand => exact hfree hand
      · next hnot => exact (hsealed (not_and_or.mp hnot |>.imp_right not_not.mp)).1
  · obtain ⟨hbilling, hnotice, hkeeps⟩ := ticketDue_of_full (final := true) (s := s.jobClosing)
      (by rw [htickets]; exact hfull.not_gt)
    rw [hnumber] at hnotice
    exact ⟨hbilling, hkeeps, hnotice.congr s.jobClosing_now.symm rfl⟩

end Sys2Proof.Machine
end

section
/-! The next interval opens where one has closed, and the rounds of the boundary check (R102, R106,
R108). -/

namespace Sys2Proof.Machine

/-! ### The opening after a close (R106 step 4, R108) -/

section Reopen

variable {s : State} {top : Int} {corrected : Bool}

theorem openInterval_of_count (h : s.recorder.closedCount < 65535) (top : Int) (corrected : Bool) :
    openInterval top corrected s =
      s.onRecorder fun r => { r with interval := some (newInterval top corrected s) } := by
  have hcount : s.recorder.closedCount < Config.maxIntervals := h
  exact congrArg (fun x => s.onRecorder fun r => { r with interval := x }) (if_pos hcount)

theorem openInterval_of_last (h : 65535 ≤ s.recorder.closedCount) (top : Int) (corrected : Bool) :
    openInterval top corrected s = s.onRecorder fun r => { r with interval := none } := by
  have hcount : ¬s.recorder.closedCount < Config.maxIntervals := h.not_gt
  exact congrArg (fun x => s.onRecorder fun r => { r with interval := x }) (if_neg hcount)

theorem testExtension_of_none (h : s.recorder.interval = none) : testExtension s = s := by
  unfold testExtension
  rw [h]

theorem testExtension_of_filling (h : s.fillingBank ≠ none) : testExtension s = s := by
  unfold testExtension
  split
  · exact if_neg fun hall => h hall.1
  · rfl

/-- After the 65535th close of a job none opens (R98). -/
theorem reopen_of_last (h : 65535 ≤ s.recorder.closedCount) (top : Int) (corrected : Bool) :
    reopen top corrected s = s.onRecorder fun r => { r with interval := none } := by
  rw [reopen, openInterval_of_last h]
  exact testExtension_of_none rfl

/-- With a bank that fills the next interval opens and nothing else happens. -/
theorem reopen_of_filling (h : s.recorder.closedCount < 65535) (hfill : s.fillingBank ≠ none) (top : Int)
    (corrected : Bool) : reopen top corrected s =
      s.onRecorder fun r => { r with interval := some (newInterval top corrected s) } := by
  rw [reopen, openInterval_of_count h]
  exact testExtension_of_filling hfill

/-- With no bank that fills the recorder extends (R108). -/
theorem reopen_of_full (h : s.recorder.closedCount < 65535) (hfill : s.fillingBank = none)
    (hext : s.recorder.extending = false) (top : Int) (corrected : Bool) :
    reopen top corrected s = testOverdue ((s.onRecorder fun r => { r with
      interval := some (newInterval top corrected s), extending := true }).raise .banksExhausted 0
        (s.recorder.closedCount + 1 : Nat)) := by
  rw [reopen, openInterval_of_count h]
  exact if_pos ⟨hfill, hext⟩

theorem testOverdue_of_not {i : Interval} (hi : s.recorder.interval = some i)
    (h : s.recorder.overdue = true ∨ s.depth.hole < i.target) : testOverdue s = s := by
  unfold testOverdue
  rw [hi]
  refine if_neg fun hall => h.elim (fun hover => ?_) hall.2.2.not_gt
  rw [hall.2.1] at hover
  cases hover

theorem testOverdue_of_extending {i : Interval} (hi : s.recorder.interval = some i)
    (hext : s.recorder.extending = true) (hover : s.recorder.overdue = false) (h : i.target ≤ s.depth.hole) :
    testOverdue s = (s.onRecorder fun r => { r with overdue := true }).raise .banksExhausted 1 s.depth.hole := by
  unfold testOverdue
  rw [hi]
  exact if_pos ⟨hext, hover, h⟩

theorem testOverdue_of_none (hi : s.recorder.interval = none) : testOverdue s = s := by
  unfold testOverdue
  rw [hi]

theorem testOverdue_of_notExtending (hext : s.recorder.extending = false) : testOverdue s = s := by
  unfold testOverdue
  split
  · refine if_neg fun hall => ?_
    rw [hext] at hall
    cases hall.1
  · rfl

theorem testOverdue_recorder (s : State) :
    ∃ overdue, (testOverdue s).recorder = { s.recorder with overdue := overdue } := by
  unfold testOverdue
  split
  · split
    · exact ⟨true, rfl⟩
    · exact ⟨s.recorder.overdue, rfl⟩
  · exact ⟨s.recorder.overdue, rfl⟩

/-- What the recorder holds after an opening: at most the interval, the extension and the overdue mark
change. -/
theorem reopen_recorder (s : State) (top : Int) (corrected : Bool) : ∃ interval extending overdue,
    (reopen top corrected s).recorder = { s.recorder with
      interval := interval, extending := extending, overdue := overdue } ∧
    interval = (if s.recorder.closedCount < 65535 then some (newInterval top corrected s) else none) := by
  rcases Nat.lt_or_ge s.recorder.closedCount 65535 with h | h
  · rw [if_pos h]
    by_cases hfill : s.fillingBank = none
    · cases hext : s.recorder.extending with
      | true =>
        refine ⟨_, true, s.recorder.overdue, ?_, rfl⟩
        have hopened : reopen top corrected s = openInterval top corrected s := by
          unfold reopen testExtension
          split
          · refine if_neg fun hall => ?_
            have hnot : s.recorder.extending = false := hall.2
            rw [hext] at hnot
            cases hnot
          · rfl
        rw [hopened, openInterval_of_count h, State.onRecorder_recorder, ← hext]
      | false =>
        rw [reopen_of_full h hfill hext]
        obtain ⟨overdue, hover⟩ := testOverdue_recorder ((s.onRecorder fun r => { r with
          interval := some (newInterval top corrected s), extending := true }).raise .banksExhausted 0
            (s.recorder.closedCount + 1 : Nat))
        exact ⟨_, true, overdue, hover, rfl⟩
    · rw [reopen_of_filling h hfill]
      exact ⟨_, s.recorder.extending, s.recorder.overdue, rfl, rfl⟩
  · rw [if_neg h.not_gt, reopen_of_last h]
    exact ⟨_, s.recorder.extending, s.recorder.overdue, rfl, rfl⟩

theorem reopen_banks (s : State) (top : Int) (corrected : Bool) : (reopen top corrected s).banks = s.banks :=
  reopen_keeps top corrected s .banks (by decide)

theorem reopen_billing (s : State) (top : Int) (corrected : Bool) :
    (reopen top corrected s).billing = s.billing := reopen_keeps top corrected s .billing (by decide)

end Reopen

/-! ### The boundary check (R102) -/

section Boundary

variable {s : State}

theorem atBoundary_eq_some_iff (s : State) (i : Interval) : atBoundary s = some i ↔
    s.recorder.interval = some i ∧ s.recorder.extending = false ∧ s.recorder.closingMark = false ∧
      i.target ≤ s.depth.hole := by
  unfold atBoundary
  cases s.recorder.interval with
  | none => exact ⟨nofun, fun h => nomatch h.1⟩
  | some j =>
    dsimp only
    split
    · next h => exact ⟨fun hi => ⟨hi, Option.some.inj hi ▸ h⟩, fun hi => hi.1⟩
    · next h => exact ⟨nofun, fun hi => absurd (Option.some.inj hi.1 ▸ hi.2) h⟩

theorem boundaryLoop_of_none {n : Nat} (h : atBoundary s = none) : boundaryLoop n s = s := by
  cases n with
  | zero => rfl
  | succ n =>
    unfold boundaryLoop
    rw [h]

theorem boundaryCheck_of_not {i : Interval} (hi : s.recorder.interval = some i)
    (h : s.depth.hole < i.target ∨ s.recorder.extending = true ∨ s.recorder.closingMark = true) :
    boundaryCheck s = s := by
  refine boundaryLoop_of_none (Option.eq_none_iff_forall_ne_some.mpr fun j hj => ?_)
  obtain ⟨hinterval, hext, hmark, htarget⟩ := (atBoundary_eq_some_iff s j).mp hj
  obtain rfl := Option.some.inj (hi.symm.trans hinterval)
  rcases h with h | h | h
  · exact htarget.not_gt h
  · rw [hext] at h
    cases h
  · rw [hmark] at h
    cases h

theorem boundaryCheck_of_none (hi : s.recorder.interval = none) : boundaryCheck s = s := by
  refine boundaryLoop_of_none (Option.eq_none_iff_forall_ne_some.mpr fun j hj => ?_)
  rw [((atBoundary_eq_some_iff s j).mp hj).1] at hi
  cases hi

/-- One round: the open interval closes at its target and the next opens there. -/
def State.boundaryRound (i : Interval) (s : State) : State :=
  reopen i.target false (closeInterval i.target 0 s)

theorem boundaryLoop_succ {n : Nat} {i : Interval} (h : atBoundary s = some i) :
    boundaryLoop (n + 1) s = boundaryLoop n (s.boundaryRound i) := by
  rw [boundaryLoop, h]
  rfl

/-- The records the two banks can still take before the recorder extends. -/
def State.room (s : State) : Nat :=
  match s.fillingBank with
  | some b => (32 - (s.banks[b]).records.length) + if (s.banks[otherBank b]).state = .free then 32 else 0
  | none => 0

theorem State.room_congr {s t : State} (h : t.banks = s.banks) : t.room = s.room := by
  unfold State.room State.fillingBank
  rw [h]

theorem State.room_of_filling {b : Fin 2} (h : s.fillingBank = some b) : s.room =
    (32 - (s.banks[b]).records.length) + if (s.banks[otherBank b]).state = .free then 32 else 0 := by
  unfold State.room
  rw [h]

theorem State.room_pos {b : Fin 2} (hlaw : s.bankLaw) (h : s.fillingBank = some b) : 0 < s.room := by
  obtain ⟨⟨-, hroom, -⟩, -, -⟩ := (s.bankLaw_iff b).mp hlaw
  have hlt : (s.banks[b]).records.length < 32 := hroom (State.filling_of_fillingBank h)
  rw [State.room_of_filling h]
  omega

theorem State.room_le (s : State) : s.room ≤ 64 := by
  unfold State.room
  split
  · split <;> omega
  · omega

/-- An append takes one place of the two banks. -/
theorem appendRecord_room {b : Fin 2} (r : ClosedRecord) (hlaw : s.bankLaw) (hfill : s.fillingBank = some b) :
    (appendRecord r s).room + 1 = s.room := by
  have hfilling := State.filling_of_fillingBank hfill
  have hnot := State.other_not_filling hlaw hfilling
  obtain ⟨⟨-, hroom, -⟩, ⟨hempty, -, -⟩, -⟩ := (s.bankLaw_iff b).mp hlaw
  have hlt : (s.banks[b]).records.length < 32 := hroom hfilling
  have hoo : otherBank (otherBank b) = b := (eq_otherBank (otherBank_ne b).symm).symm
  obtain ⟨mark, hb, ho⟩ := appendRecord_bank r hfill
  rw [State.room_of_filling hfill]
  rcases Nat.lt_or_ge ((s.banks[b]).records.length + 1) 32 with hcount | hcount
  · have hsmall : ¬Config.bankSize ≤ (s.banks[b]).records.length + 1 := hcount.not_ge
    rw [if_neg hsmall] at hb
    rw [if_neg fun hall => hsmall hall.1] at ho
    have hfill' : (appendRecord r s).fillingBank = some b := by
      refine State.fillingBank_eq_some (by rw [hb]) fun c hc => ?_
      rw [eq_otherBank hc, ho]
      exact hnot
    rw [State.room_of_filling hfill', hb, ho, List.length_append, List.length_singleton]
    omega
  · have hfull : Config.bankSize ≤ (s.banks[b]).records.length + 1 := hcount
    rw [if_pos hfull] at hb
    have hbnot : ((appendRecord r s).banks[b]).state ≠ .filling := by
      rw [hb]
      nofun
    by_cases hfree : (s.banks[otherBank b]).state = .free
    · rw [if_pos ⟨hfull, hfree⟩] at ho
      have hfill' : (appendRecord r s).fillingBank = some (otherBank b) := by
        refine State.fillingBank_eq_some (by rw [ho]; rfl) fun c hc => ?_
        rw [eq_otherBank hc, hoo]
        exact hbnot
      have hbfree : ((appendRecord r s).banks[b]).state ≠ .free := by
        rw [hb]
        nofun
      rw [State.room_of_filling hfill', ho, if_pos hfree]
      simp only [hoo]
      rw [if_neg hbfree]
      change 32 - 0 + 0 + 1 = _
      omega
    · rw [if_neg fun hall => hfree hall.2] at ho
      have hfill' : (appendRecord r s).fillingBank = none := by
        refine (State.fillingBank_eq_none_iff _).mpr ((forall_banks b).mpr ⟨hbnot, ?_⟩)
        rw [ho]
        exact hnot
      unfold State.room
      rw [hfill', if_neg hfree]
      dsimp only
      omega

/-- No round is made without a bank that fills. -/
def State.boundaryReady (s : State) : Prop := s.bankLaw ∧ (atBoundary s ≠ none → s.fillingBank ≠ none)

theorem closeInterval_banks {i : Interval} (hi : s.recorder.interval = some i) (bottom : Int) (added : FlagSet) :
    ∃ r, (closeInterval bottom added s).banks = (appendRecord r s).banks := by
  rw [closeInterval_of_interval hi]
  exact ⟨_, handOnRecord_banks _ s⟩

theorem State.boundaryRound_ready {i : Interval} (h : s.boundaryReady) (hi : atBoundary s = some i) :
    (s.boundaryRound i).boundaryReady ∧ (s.boundaryRound i).room + 1 = s.room := by
  obtain ⟨hinterval, hext, -, -⟩ := (atBoundary_eq_some_iff s i).mp hi
  obtain ⟨hlaw, hfills⟩ := h
  obtain ⟨b, hfill⟩ := Option.ne_none_iff_exists'.mp (hfills (by rw [hi]; nofun))
  have hbanks : (s.boundaryRound i).banks = (closeInterval i.target 0 s).banks := reopen_banks _ _ _
  refine ⟨⟨reopen_bankLaw _ _ (closeInterval_bankLaw _ _ hlaw), fun hat hnone => hat ?_⟩, ?_⟩
  · have hclosed : (closeInterval i.target 0 s).fillingBank = none := by
      rwa [← State.fillingBank_congr hbanks]
    have hext' : (closeInterval i.target 0 s).recorder.extending = false := by
      rw [closeInterval_of_interval hinterval, handOnRecord_recorder]
      exact hext
    refine Option.eq_none_iff_forall_ne_some.mpr fun j hj => ?_
    obtain ⟨hj, hnot, -, -⟩ := (atBoundary_eq_some_iff _ j).mp hj
    unfold State.boundaryRound at hj hnot
    rcases Nat.lt_or_ge (closeInterval i.target 0 s).recorder.closedCount 65535 with hcount | hcount
    · rw [reopen_of_full hcount hclosed hext'] at hnot
      obtain ⟨overdue, hover⟩ := testOverdue_recorder (((closeInterval i.target 0 s).onRecorder fun r => { r with
        interval := some (newInterval i.target false (closeInterval i.target 0 s)), extending := true }).raise
          .banksExhausted 0 ((closeInterval i.target 0 s).recorder.closedCount + 1 : Nat))
      rw [hover] at hnot
      cases hnot
    · rw [reopen_of_last hcount] at hj
      cases hj
  · obtain ⟨r, hr⟩ := closeInterval_banks hinterval i.target 0
    rw [State.room_congr (hbanks.trans hr)]
    exact appendRecord_room r hlaw hfill

theorem boundaryLoop_stable {n : Nat} (h : s.boundaryReady) (hroom : s.room ≤ n) :
    boundaryLoop (n + 1) s = boundaryLoop n s := by
  induction n generalizing s with
  | zero =>
    have hnone : s.fillingBank = none := by
      by_contra hfill
      obtain ⟨b, hfill⟩ := Option.ne_none_iff_exists'.mp hfill
      exact (State.room_pos h.1 hfill).not_ge hroom
    have hat : atBoundary s = none := by
      by_contra hat
      exact h.2 hat hnone
    rw [boundaryLoop_of_none hat, boundaryLoop_of_none hat]
  | succ n ih =>
    cases hat : atBoundary s with
    | none => rw [boundaryLoop_of_none hat, boundaryLoop_of_none hat]
    | some i =>
      obtain ⟨hready, hless⟩ := State.boundaryRound_ready h hat
      rw [boundaryLoop_succ hat, boundaryLoop_succ hat]
      exact ih hready (by omega)

/-- The rounds never run out: a check that makes a round is the check of the state after it. -/
theorem boundaryCheck_round {i : Interval} (h : s.boundaryReady) (hi : atBoundary s = some i) :
    boundaryCheck s = boundaryCheck (s.boundaryRound i) := by
  obtain ⟨hready, hless⟩ := State.boundaryRound_ready h hi
  have hle : (s.boundaryRound i).room ≤ 64 := (Nat.le_of_lt (by omega)).trans s.room_le
  calc boundaryLoop (64 + 1) s = boundaryLoop 64 (s.boundaryRound i) := boundaryLoop_succ hi
    _ = boundaryLoop (64 + 1) (s.boundaryRound i) := (boundaryLoop_stable hready hle).symm

end Boundary

end Sys2Proof.Machine
end

section
/-! Intervals close at their targets as the hole advances (R87, R102, R103, R106, R108). -/

namespace Sys2Proof.Machine

/-! ### The closed record (R103) -/

section Closed

variable (i : Interval) (bottom : Int) (s : State)

/-- The flags of a closed record: NO_DATA without drilling seconds, and TIME_UNSET as it stands. -/
theorem closedRecord_interval : (closedRecord i bottom s).interval = { i with
    flags := i.flags ||| (if i.seconds = 0 then 256#10 else 0) |||
      (if s.mgmt.timeUnset = true then 512#10 else 0) } := by
  have hmeans : (meansOf i bottom).isNone = decide (i.seconds = 0) := by
    unfold meansOf
    split
    · next h => exact (decide_eq_true h).symm
    · next h => exact (decide_eq_false h).symm
  unfold closedRecord
  dsimp only
  rw [hmeans, flagIf_eq, flagIf_eq]
  simp only [decide_eq_true_eq]
  rfl

theorem toNat_clampZ (x : Int) : (((clampZ 0 65535 x).toNat : Nat) : Int) = max 0 (min x 65535) :=
  Int.toNat_of_nonneg (le_max_left _ _)

theorem penetrationIndex_eq (rop wob rpm : Int) : (penetrationIndex rop wob rpm : Int) =
    if wob * rpm = 0 then 65535 else max 0 (min ((rop * 1000).fdiv (wob * rpm)) 65535) := by
  unfold penetrationIndex
  split
  · rfl
  · exact toNat_clampZ _

theorem torqueRatio_eq (torque wob : Int) : (torqueRatio torque wob : Int) =
    if wob = 0 then 65535 else max 0 (min ((torque * 10).fdiv wob) 65535) := by
  unfold torqueRatio
  split
  · rfl
  · exact toNat_clampZ _

theorem closedRecord_means (h : 0 < i.seconds) : ∃ m, (closedRecord i bottom s).means = some m ∧
    m.wob = i.wobSum.fdiv i.seconds ∧ m.torque = i.torqueSum.fdiv i.seconds ∧
    m.rpm = i.rpmSum.fdiv i.seconds ∧ m.pressure = i.pressureSum.fdiv i.seconds ∧
    (m.rop : Int) = max 0 (min (((bottom - i.top) * 60).fdiv i.seconds) 65535) ∧
    (m.pi : Int) = (if m.wob * m.rpm = 0 then 65535
      else max 0 (min (((m.rop : Int) * 1000).fdiv (m.wob * m.rpm)) 65535)) ∧
    (m.tr : Int) = (if m.wob = 0 then 65535 else max 0 (min ((m.torque * 10).fdiv m.wob) 65535)) :=
  ⟨_, if_neg h.ne', rfl, rfl, rfl, rfl, toNat_clampZ _, penetrationIndex_eq _ _ _, torqueRatio_eq _ _⟩

end Closed

/-- A close that sets no flag. -/
theorem closeInterval_plain {s : State} {i : Interval} (h : s.recorder.interval = some i) (bottom : Int) :
    closeInterval bottom 0 s = handOnRecord (closedRecord i bottom s) s := by
  have hflags : i.flags ||| 0 = i.flags := BitVec.or_zero
  rw [closeInterval_of_interval h, hflags]

/-! ### The bank that fills after an append (R119) -/

section Appended

variable {r : ClosedRecord} {b : Fin 2} {s t : State} (h : recordAppended r b s t)
include h

theorem recordAppended.filling (hcount : (s.banks[b]).records.length < 31 ∨
    (s.banks[b]).records.length = 31 ∧ (s.banks[1 - b]).state = .free) : t.fillingBank ≠ none := by
  obtain ⟨-, -, -, hless, hfull⟩ := h
  intro hnone
  have hnot := (State.fillingBank_eq_none_iff t).mp hnone
  rcases hcount with hcount | ⟨hcount, hfree⟩
  · exact hnot b (hless (by omega)).1
  · have hother := (hfull (by omega)).2.2.1 hfree
    refine hnot (1 - b) ?_
    rw [hother]

theorem recordAppended.notFilling (hcount : (s.banks[b]).records.length = 31)
    (hother : (s.banks[1 - b]).state = .full) : t.fillingBank = none := by
  obtain ⟨-, -, -, -, hfull⟩ := h
  obtain ⟨hstate, -, -, hkept⟩ := hfull (by omega)
  refine (State.fillingBank_eq_none_iff t).mpr ((forall_banks b).mpr ⟨?_, ?_⟩)
  · rw [hstate]
    nofun
  · rw [← State.bank_sub, hkept hother, hother]
    nofun

end Appended

/-! ### The extension that begins with an opening (R108) -/

section Extends

variable {s : State} {top : Int} {corrected : Bool}

theorem reopen_notExtending (hext : s.recorder.extending = false)
    (h : s.recorder.closedCount < 65535 → s.fillingBank ≠ none) :
    (reopen top corrected s).recorder.extending = false ∧
    (reopen top corrected s).recorder.overdue = s.recorder.overdue := by
  rcases Nat.lt_or_ge s.recorder.closedCount 65535 with hcount | hcount
  · rw [reopen_of_filling hcount (h hcount)]
    exact ⟨hext, rfl⟩
  · rw [reopen_of_last hcount]
    exact ⟨hext, rfl⟩

theorem reopen_extending (hext : s.recorder.extending = false) (hcount : s.recorder.closedCount < 65535)
    (hfill : s.fillingBank = none) :
    let u := reopen top corrected s
    let target := (newInterval top corrected s).target
    u.recorder.extending = true ∧
    notified s u .banksExhausted 0 (s.recorder.closedCount + 1 : Nat) ∧
    (s.recorder.overdue = false → u.recorder.overdue = decide (target ≤ s.depth.hole) ∧
      (target ≤ s.depth.hole → notified s u .banksExhausted 1 s.depth.hole)) := by
  intro u target
  have hu := reopen_of_full hcount hfill hext top corrected
  have hraised : notified s ((s.onRecorder fun r => { r with
      interval := some (newInterval top corrected s), extending := true }).raise .banksExhausted 0
        (s.recorder.closedCount + 1 : Nat)) .banksExhausted 0 (s.recorder.closedCount + 1 : Nat) :=
    State.raise_notified s (s.onRecorder _) _ _ _ rfl
  generalize hv : (s.onRecorder fun r => { r with
    interval := some (newInterval top corrected s), extending := true }).raise .banksExhausted 0
      (s.recorder.closedCount + 1 : Nat) = v at hu hraised
  have hrecorder : v.recorder = { s.recorder with
      interval := some (newInterval top corrected s), extending := true } := by rw [← hv]; rfl
  have hdepth : v.depth = s.depth := by rw [← hv]; rfl
  have hnow : v.now = s.now := by rw [← hv]; rfl
  have hi : v.recorder.interval = some (newInterval top corrected s) := by rw [hrecorder]
  have hvext : v.recorder.extending = true := by rw [hrecorder]
  have hu : u = testOverdue v := hu
  rw [hu]
  refine ⟨?_, hraised.after (K := fun _ => True) (P := false) (testOverdue_moved trivial .refl) (.inl rfl),
    fun hover => ?_⟩
  · obtain ⟨overdue, hover⟩ := testOverdue_recorder v
    rw [hover]
    exact hvext
  · have hvover : v.recorder.overdue = false := by rw [hrecorder]; exact hover
    by_cases htarget : target ≤ s.depth.hole
    · rw [testOverdue_of_extending hi hvext hvover (by rwa [hdepth]), hdepth]
      exact ⟨(decide_eq_true htarget).symm, fun _ => State.raise_notified s (v.onRecorder _) _ _ _ hnow⟩
    · rw [testOverdue_of_not hi (.inr (by rw [hdepth]; exact not_le.mp htarget))]
      exact ⟨hvover.trans (decide_eq_false htarget).symm, fun h => absurd h htarget⟩

end Extends

/-! ### A hole advance (R87, R102, R108) -/

section Advance

variable {s : State}

/-- The state with D at B. -/
def State.advanced (s : State) : State := s.onDepth fun d => { d with hole := d.bit }

theorem react_of_advance (hmode : s.mode ≠ .starting) (hbottom : s.onBottom = true)
    (hbelow : s.depth.hole < s.depth.bit) : react s = reindicate (onHoleAdvance s.advanced) :=
  congrArg reindicate (if_pos ⟨hmode, hbottom, hbelow⟩)

theorem onHoleAdvance_of_notExtending (h : s.recorder.extending = false) : onHoleAdvance s = boundaryCheck s := by
  rw [onHoleAdvance, testOverdue_of_notExtending h]

theorem onHoleAdvance_of_none (h : s.recorder.interval = none) : onHoleAdvance s = s := by
  rw [onHoleAdvance, testOverdue_of_none h, boundaryCheck_of_none h]

theorem onHoleAdvance_of_extending {i : Interval} (hi : s.recorder.interval = some i)
    (hext : s.recorder.extending = true) (h : s.recorder.overdue = true ∨ s.depth.hole < i.target) :
    onHoleAdvance s = s := by
  rw [onHoleAdvance, testOverdue_of_not hi h, boundaryCheck_of_not hi (.inr (.inl hext))]

theorem onHoleAdvance_of_overdue {i : Interval} (hi : s.recorder.interval = some i)
    (hext : s.recorder.extending = true) (hover : s.recorder.overdue = false) (h : i.target ≤ s.depth.hole) :
    onHoleAdvance s =
      (s.onRecorder fun r => { r with overdue := true }).raise .banksExhausted 1 s.depth.hole := by
  rw [onHoleAdvance, testOverdue_of_extending hi hext hover h]
  exact boundaryCheck_of_not (i := i) hi (.inr (.inl hext))

end Advance

/-! ### A round of the boundary check (R102, R106) -/

section Round

variable {s : State} {i : Interval} {b : Fin 2}

theorem State.boundaryRound_eq (hi : s.recorder.interval = some i) : s.boundaryRound i =
    reopen i.target false (handOnRecord (closedRecord i i.target s) s) := by
  rw [State.boundaryRound, closeInterval_plain hi]

theorem State.boundaryRound_keeps (i : Interval) (s : State) :
    keepsAllBut [.recorder, .banks, .billing, .trunk] s (s.boundaryRound i) := by
  unfold State.boundaryRound
  simp

/-- What hands on a record leaves of the state that the opening reads. -/
theorem handOnRecord_keeps' (r : ClosedRecord) (s : State) :
    (handOnRecord r s).tables = s.tables ∧ (handOnRecord r s).depth = s.depth ∧
    (handOnRecord r s).tracker = s.tracker ∧ (handOnRecord r s).mgmt = s.mgmt :=
  have h := handOnRecord_keeps r s
  ⟨h .tables (by decide), h .depth (by decide), h .tracker (by decide), h .mgmt (by decide)⟩

/-- The interval that opens once a record has been handed on. -/
theorem newInterval_handOn (r : ClosedRecord) (hstep : 0 < s.settings.step) (top : Int) (corrected : Bool) :
    intervalOpens (s.recorder.closedCount + 2) top (flagIf corrected flagCorrected) s
      (newInterval top corrected (handOnRecord r s)) := by
  obtain ⟨htables, hdepth, htracker, hmgmt⟩ := handOnRecord_keeps' r s
  have hstep' : 0 < (handOnRecord r s).settings.step := by
    unfold State.settings at hstep ⊢
    rwa [htables]
  have hopens := newInterval_opens hstep' top corrected
  rw [handOnRecord_recorder] at hopens
  exact hopens.congr htables hdepth htracker hmgmt

theorem handOnRecord_now (r : ClosedRecord) (s : State) : (handOnRecord r s).now = s.now := by
  unfold State.now
  rw [(handOnRecord_keeps' r s).2.2.2]

end Round

end Sys2Proof.Machine
end

section
/-! The rounds of the boundary check at the open interval's target (R102, R103, R106, R108). -/

namespace Sys2Proof.Machine

section Round

variable {s : State} {i : Interval} {b : Fin 2}

/-- The recorder, the meter and the bank after a round (R106). -/
theorem State.boundaryRound_handedOn (hi : s.recorder.interval = some i) (hfill : s.fillingBank = some b) :
    let r := closedRecord i i.target s
    let s1 := s.boundaryRound i
    recordAppended r b s s1 ∧ s1.recorder.currentClass = r.cls ∧
    s1.recorder.closedCount = s.recorder.closedCount + 1 ∧
    s1.billing = (if s.job.state = .opened then (billFootage i.top i.target r.cls.val s).billing else s.billing) := by
  intro r s1
  have hs1 : s1 = reopen i.target false (handOnRecord r s) := State.boundaryRound_eq hi
  obtain ⟨interval, extending, overdue, hrecorder, -⟩ := reopen_recorder (handOnRecord r s) i.target false
  rw [handOnRecord_recorder] at hrecorder
  rw [hs1, reopen_billing, handOnRecord_billing, hrecorder]
  refine ⟨(handOnRecord_appended r hfill).after (K := fun k => k = .banksExhausted) (P := false)
    (reopen_banks _ _ _) (reopen_moved rfl .refl) (by decide) (by decide), rfl, rfl, rfl⟩

/-- The interval that opens at the target, and the overdue mark of an extension that begins with it
(R98, R108). -/
theorem State.boundaryRound_opens (hi : s.recorder.interval = some i) (hext : s.recorder.extending = false)
    (hstep : 0 < s.settings.step) (hcount : s.recorder.closedCount + 1 < 65535) :
    let s1 := s.boundaryRound i
    ∃ j, s1.recorder.interval = some j ∧ intervalOpens (s.recorder.closedCount + 1 + 1) i.target 0 s j ∧
      (s1.recorder.extending = true → s.recorder.overdue = false →
        s1.recorder.overdue = decide (j.target ≤ s.depth.hole) ∧
        (j.target ≤ s.depth.hole → notified s s1 .banksExhausted 1 s.depth.hole)) := by
  intro s1
  have hs1 : s1 = reopen i.target false (handOnRecord (closedRecord i i.target s) s) := State.boundaryRound_eq hi
  generalize closedRecord i i.target s = r at hs1
  obtain ⟨interval, extending, overdue, hrecorder, hinterval⟩ := reopen_recorder (handOnRecord r s) i.target false
  have hopens := newInterval_handOn r hstep i.target false
  have hdepth := (handOnRecord_keeps' r s).2.1
  have ht := handOnRecord_recorder r s
  have htcount : (handOnRecord r s).recorder.closedCount < 65535 := by rw [ht]; exact hcount
  have htext : (handOnRecord r s).recorder.extending = false := by rw [ht]; exact hext
  rw [if_pos htcount] at hinterval
  rw [hs1]
  refine ⟨newInterval i.target false (handOnRecord r s), by rw [hrecorder, hinterval], hopens,
    fun hextends hover => ?_⟩
  have hfill : (handOnRecord r s).fillingBank = none := by
    by_contra hne
    have hnot := (reopen_notExtending (top := i.target) (corrected := false) htext fun _ => hne).1
    rw [hextends] at hnot
    cases hnot
  obtain ⟨-, -, hoverdue⟩ := reopen_extending (top := i.target) (corrected := false) htext htcount hfill
  obtain ⟨hmark, hnotice⟩ := hoverdue (by rw [ht]; exact hover)
  rw [hdepth] at hmark hnotice
  exact ⟨hmark, fun h => (hnotice h).congr (handOnRecord_now r s).symm rfl⟩

/-- The recorder extends exactly where the record has filled the last bank (R108, R119). -/
theorem State.boundaryRound_extends (hi : s.recorder.interval = some i) (hext : s.recorder.extending = false)
    (hfill : s.fillingBank = some b) :
    let s1 := s.boundaryRound i
    ((s.banks[b]).records.length < 31 ∨ (s.banks[b]).records.length = 31 ∧ (s.banks[1 - b]).state = .free →
      s1.recorder.extending = false) ∧
    ((s.banks[b]).records.length = 31 → (s.banks[1 - b]).state = .full → s.recorder.closedCount + 1 < 65535 →
      s1.recorder.extending = true ∧ notified s s1 .banksExhausted 0 (s.recorder.closedCount + 1 + 1 : Nat)) := by
  intro s1
  have hs1 : s1 = reopen i.target false (handOnRecord (closedRecord i i.target s) s) := State.boundaryRound_eq hi
  generalize closedRecord i i.target s = r at hs1
  have happended := handOnRecord_appended r hfill
  have ht := handOnRecord_recorder r s
  have htext : (handOnRecord r s).recorder.extending = false := by rw [ht]; exact hext
  rw [hs1]
  refine ⟨fun hroom => (reopen_notExtending htext fun _ => happended.filling hroom).1,
    fun hlast hfull hcount => ?_⟩
  have htcount : (handOnRecord r s).recorder.closedCount < 65535 := by rw [ht]; exact hcount
  obtain ⟨hextends, hnotice, -⟩ := reopen_extending (top := i.target) (corrected := false) htext htcount
    (happended.notFilling hlast hfull)
  rw [ht] at hnotice
  exact ⟨hextends, hnotice.congr (handOnRecord_now r s).symm rfl⟩

theorem State.boundaryRound_overdue (hi : s.recorder.interval = some i) (hext : s.recorder.extending = false)
    (h : (s.boundaryRound i).recorder.extending = false) :
    (s.boundaryRound i).recorder.overdue = s.recorder.overdue := by
  rw [State.boundaryRound_eq hi] at h ⊢
  generalize closedRecord i i.target s = r at h
  have ht := handOnRecord_recorder r s
  have htext : (handOnRecord r s).recorder.extending = false := by rw [ht]; exact hext
  have hmark : (handOnRecord r s).recorder.overdue = s.recorder.overdue := by rw [ht]
  refine (reopen_notExtending htext fun hcount hnone => ?_).2.trans hmark
  have hextends := (reopen_extending (top := i.target) (corrected := false) htext hcount hnone).1
  rw [h] at hextends
  cases hextends

theorem State.boundaryRound_last (hi : s.recorder.interval = some i)
    (hcount : 65535 ≤ s.recorder.closedCount + 1) : (s.boundaryRound i).recorder.interval = none := by
  rw [State.boundaryRound_eq hi, reopen_of_last]
  · rfl
  · rw [handOnRecord_recorder]
    exact hcount

end Round

/-- Settles O50: a hole advance makes the boundary check or sets the overdue mark, and each round of the
check closes the interval at its target and opens the next. -/
theorem advanceClosesIntervalsAtTheirTargets : Obligations.AdvanceClosesIntervalsAtTheirTargets := by
  refine ⟨fun i s hi h => boundaryCheck_of_not hi h, fun s hmode hbottom hbelow => ?_,
    fun i bottom s => ?_, fun i b s hlaw hi hext hmark htarget hstep hfill => ?_⟩
  · intro moved
    have hreact : react s = reindicate (onHoleAdvance moved) := react_of_advance hmode hbottom hbelow
    refine ⟨fun hext => ?_, fun hnone => ?_, fun i hi hext => ⟨fun h => ?_, fun hover h => ?_⟩⟩
    · rw [hreact, onHoleAdvance_of_notExtending (s := moved) hext]
    · rw [hreact, onHoleAdvance_of_none (s := moved) hnone]
    · rw [hreact, onHoleAdvance_of_extending (s := moved) hi hext h]
    · rw [hreact, onHoleAdvance_of_overdue (s := moved) hi hext hover h]
      refine ⟨_, rfl, rfl, rfl, State.raise_notified s (moved.onRecorder _) _ _ _ rfl, ?_⟩
      change keepsAllBut _ s ((s.advanced.onRecorder _).raise _ _ _)
      simp [State.advanced]
  · exact ⟨rfl, rfl, closedRecord_interval i bottom s, fun h => closedRecord_means_of_noSeconds bottom s h,
      fun h => closedRecord_means i bottom s h⟩
  · intro other n r
    have hat : atBoundary s = some i := (atBoundary_eq_some_iff s i).mpr ⟨hi, hext, hmark, htarget⟩
    obtain ⟨happended, hclass, hcount, hbilling⟩ := State.boundaryRound_handedOn hi hfill
    obtain ⟨hroom, hfull⟩ := State.boundaryRound_extends hi hext hfill
    refine ⟨s.boundaryRound i, boundaryCheck_round ⟨hlaw, fun _ => by rw [hfill]; nofun⟩ hat,
      State.boundaryRound_keeps i s, happended, hclass, hcount, hbilling,
      fun h => State.boundaryRound_last hi h, fun h => State.boundaryRound_opens hi hext hstep h,
      fun h => State.boundaryRound_overdue hi hext h, fun h => hroom (.inl h),
      fun h => ⟨fun hfree => hroom (.inr ⟨h, hfree⟩), fun hother hn => hfull h hother hn⟩⟩

end Sys2Proof.Machine
end

section
/-! DEPTH CORRECT (R90, R107). -/

namespace Sys2Proof.Machine

/-! ### The correction at the recorder (R107) -/

theorem FlagSet.hasFlag_or (f g : FlagSet) : hasFlag (f ||| g) f = true := by
  refine beq_iff_eq.mpr (BitVec.eq_of_getLsbD_eq fun k _ => ?_)
  rw [BitVec.getLsbD_and, BitVec.getLsbD_or]
  cases f.getLsbD k <;> simp

theorem newInterval_corrected (top : Int) (s : State) :
    hasFlag (newInterval top true s).flags flagCorrected = true := by
  have hflags : (newInterval top true s).flags =
      flagCorrected ||| (flagIf s.depthUncertain flagDepthUncertain ||| flagIf s.mgmt.timeUnset flagTimeUnset) :=
    BitVec.or_assoc _ _ _
  rw [hflags]
  exact FlagSet.hasFlag_or _ _

section Correction

variable {s : State} {i : Interval} {oldD newD : Int}

theorem onCorrection_of_none (h : s.recorder.interval = none) : onCorrection oldD newD s = s := by
  unfold onCorrection
  rw [h]

/-- The interval of before the correction is closed at the old D, or dropped. -/
def State.correctionClosed (i : Interval) (oldD : Int) (s : State) : State :=
  if i.top < oldD then handOnRecord (closedRecord i oldD s) s else discardInterval s

theorem State.correctionClosed_closedCount (i : Interval) (oldD : Int) (s : State) :
    (s.correctionClosed i oldD).recorder.closedCount =
      s.recorder.closedCount + if i.top < oldD then 1 else 0 := by
  unfold State.correctionClosed
  split
  · rw [handOnRecord_recorder]
  · rfl

theorem State.correctionClosed_keeps (i : Interval) (oldD : Int) (s : State) :
    keepsAllBut [.recorder, .banks, .billing, .trunk] s (s.correctionClosed i oldD) := by
  unfold State.correctionClosed
  split <;> simp

/-- A correction to the D in force opens an interval whose target lies above it, so the boundary check that
follows does nothing. -/
theorem onCorrection_eq (hi : s.recorder.interval = some i) (hmark : s.recorder.closingMark = false)
    (hstep : 0 < s.settings.step) (hnew : s.depth.hole = newD) :
    onCorrection oldD newD s = reopen newD true (s.correctionClosed i oldD) := by
  have hclosed : (if i.top < oldD then closeInterval oldD 0 s else discardInterval s) =
      s.correctionClosed i oldD := by
    unfold State.correctionClosed
    rw [closeInterval_plain hi]
  have honce : onCorrection oldD newD s = boundaryCheck (reopen newD true (s.correctionClosed i oldD)) := by
    unfold onCorrection
    rw [hi]
    dsimp only
    rw [if_neg (by rw [hmark]; nofun), hclosed]
  have hkeeps := s.correctionClosed_keeps i oldD
  generalize s.correctionClosed i oldD = t at honce hkeeps
  have htables : t.tables = s.tables := hkeeps .tables (by decide)
  have hdepth : t.depth = s.depth := hkeeps .depth (by decide)
  have hdepth' : (reopen newD true t).depth = t.depth := reopen_keeps newD true t .depth (by decide)
  obtain ⟨interval, extending, overdue, hrecorder, hinterval⟩ := reopen_recorder t newD true
  rw [honce]
  split at hinterval
  · refine boundaryCheck_of_not (i := newInterval newD true t) (by rw [hrecorder, hinterval]) (.inl ?_)
    rw [hdepth', hdepth, hnew]
    refine lt_targetOf ?_ newD
    unfold State.settings
    rw [htables]
    exact hstep
  · exact boundaryCheck_of_none (by rw [hrecorder, hinterval])

end Correction

/-! ### The request (R90) -/

/-- A signed field of a frame is read in two's complement. -/
theorem bvInt_eq_toInt {w : Nat} (b : BitVec w) : bvInt b = b.toInt := by
  unfold bvInt signedOf
  rw [BitVec.toInt_eq_toNat_cond]
  cases w with
  | zero => simp [BitVec.of_length_zero]
  | succ w =>
    have hhalf : (2 : Nat) ^ (w + 1) = 2 * 2 ^ w := pow_succ' 2 w
    refine if_congr ?_ rfl (by push_cast; rfl)
    rw [Nat.add_sub_cancel]
    omega

section DepthCorrect

variable {new : Int} {s : State}

theorem exec_depthCorrect_of_ready {h : ReqHeader} {depth : BitVec 32} {t : State} {a : Reply} (hs : s.ready)
    (hdo : doDepthCorrect depth.toInt s = (t, a)) : exec (.depthCorrect h depth) s = answers t h 48 a :=
  finish_serve_of_ready hs (by rwa [bvInt_eq_toInt])

theorem doDepthCorrect_of_range (h : new < 0 ∨ 2000000 < new) :
    doDepthCorrect new s = (s, .plain .refusedValue) := if_pos h

theorem doDepthCorrect_of_state (hlow : 0 ≤ new) (hhigh : new ≤ 2000000)
    (h : s.onBottom = true ∨ s.recorder.extending = true) : doDepthCorrect new s = (s, .plain .refusedState) := by
  rw [doDepthCorrect, if_neg (by omega)]
  by_cases hbottom : s.onBottom = true
  · rw [if_pos hbottom]
    rfl
  · rw [if_neg hbottom, if_pos (h.resolve_left hbottom)]
    rfl

theorem doDepthCorrect_of_done (hlow : 0 ≤ new) (hhigh : new ≤ 2000000) (hbottom : s.onBottom = false)
    (hext : s.recorder.extending = false) : doDepthCorrect new s = (correctDepth new s, .plain .done) := by
  rw [doDepthCorrect, if_neg (by omega), if_neg (by rw [hbottom]; nofun), if_neg (by rw [hext]; nofun)]

/-- The depths after a correction, before it reaches the recorder. -/
def State.depthMoved (new : Int) (s : State) : State := s.onDepth fun d => { d with
  corr := d.corr + (new - s.depth.hole)
  freeze := d.freeze.map (· + (new - s.depth.hole))
  hole := new
  residue := 0
  encoderUncertain := false
  anchorUncertain := false }

theorem correctDepth_eq (new : Int) (s : State) :
    correctDepth new s = onCorrection s.depth.hole new (s.depthMoved new) := rfl

theorem correctDepth_depth (new : Int) (s : State) : (correctDepth new s).depth = (s.depthMoved new).depth :=
  onCorrection_keeps s.depth.hole new (s.depthMoved new) .depth (by decide)

theorem State.depthMoved_bit (new : Int) (s : State) :
    (s.depthMoved new).depth.bit = s.depth.bit + (new - s.depth.hole) := by
  change (s.depth.freeze.map (· + (new - s.depth.hole))).getD
    (s.depth.stringLength - s.depth.head + (s.depth.corr + (new - s.depth.hole))) =
      s.depth.freeze.getD (s.depth.stringLength - s.depth.head + s.depth.corr) + (new - s.depth.hole)
  cases s.depth.freeze with
  | some d => rfl
  | none => exact (add_assoc _ _ _).symm

end DepthCorrect

/-- What a correction hands on where its interval closes at the old D (R106, R107). -/
theorem reopen_correction {s moved s' : State} {i : Interval} {b : Fin 2} {oldD newD : Int}
    (hs' : s' = reopen newD true (handOnRecord (closedRecord i oldD moved) moved))
    (hmoved : ∃ f, moved = s.onDepth f) (hext : s.recorder.extending = false)
    (hfill : s.fillingBank = some b) (hstep : 0 < s.settings.step) :
    let n := s.recorder.closedCount + 1
    let r := closedRecord i oldD s
    recordAppended r b s s' ∧ s'.recorder.currentClass = r.cls ∧ s'.recorder.closedCount = n ∧
    s'.billing = (if s.job.state = .opened then (billFootage i.top oldD r.cls.val s).billing else s.billing) ∧
    (65535 ≤ n → s'.recorder.interval = none) ∧
    (n < 65535 → ∃ j, s'.recorder.interval = some j ∧ intervalOpens (n + 1) newD 32#10 moved j) ∧
    ((s.banks[b]).records.length < 31 → s'.recorder.extending = false) ∧
    ((s.banks[b]).records.length = 31 →
      ((s.banks[1 - b]).state = .free → s'.recorder.extending = false) ∧
      ((s.banks[1 - b]).state = .full → n < 65535 →
        s'.recorder.extending = true ∧ notified s s' .banksExhausted 0 (n + 1 : Nat))) := by
  intro n r
  obtain ⟨f, rfl⟩ := hmoved
  have hr : closedRecord i oldD (s.onDepth f) = r := rfl
  have happended : recordAppended r b s (handOnRecord r (s.onDepth f)) :=
    handOnRecord_appended (s := s.onDepth f) r hfill
  have ht : (handOnRecord r (s.onDepth f)).recorder = { s.recorder with
      interval := none, currentClass := r.cls, closedCount := n } := handOnRecord_recorder r (s.onDepth f)
  have htext : (handOnRecord r (s.onDepth f)).recorder.extending = false := by rw [ht]; exact hext
  have hopens := newInterval_handOn (s := s.onDepth f) r hstep newD true
  have hnow : (handOnRecord r (s.onDepth f)).now = s.now := handOnRecord_now r (s.onDepth f)
  have hbilling : (handOnRecord r (s.onDepth f)).billing = if s.job.state = .opened
      then (billFootage i.top oldD r.cls.val s).billing else s.billing := by
    rw [handOnRecord_billing]
    exact if_congr Iff.rfl (billFootage_billing_congr (s := s) (t := s.onDepth f) rfl rfl _ _ _) rfl
  rw [hr] at hs'
  generalize handOnRecord r (s.onDepth f) = t at hs' happended ht htext hopens hnow hbilling
  obtain ⟨interval, extending, overdue, hrecorder, hinterval⟩ := reopen_recorder t newD true
  have htcount : t.recorder.closedCount = n := by rw [ht]
  have hclass : t.recorder.currentClass = r.cls := by rw [ht]
  rw [htcount] at hinterval
  rw [hs']
  refine ⟨happended.after (K := fun k => k = .banksExhausted) (P := false) (reopen_banks _ _ _)
      (reopen_moved rfl .refl) (by decide) (by decide), by rw [hrecorder]; exact hclass,
    by rw [hrecorder]; exact htcount, (reopen_billing _ _ _).trans hbilling, fun hn => ?_, fun hn => ?_,
    fun hroom => ?_, fun hlast => ⟨fun hfree => ?_, fun hfull hn => ?_⟩⟩
  · rw [hrecorder, hinterval, if_neg hn.not_gt]
  · rw [if_pos hn] at hinterval
    exact ⟨_, by rw [hrecorder, hinterval], hopens⟩
  · exact (reopen_notExtending htext fun _ => happended.filling (.inl hroom)).1
  · exact (reopen_notExtending htext fun _ => happended.filling (.inr ⟨hlast, hfree⟩)).1
  · obtain ⟨hextends, hnotice, -⟩ := reopen_extending (top := newD) (corrected := true) htext
      (by rw [htcount]; exact hn) (happended.notFilling hlast hfull)
    rw [htcount] at hnotice
    exact ⟨hextends, hnotice.congr hnow.symm rfl⟩

/-- Settles O43: the depths move together, and the recorder closes at the old D and opens at the new. -/
theorem depthCorrectMovesTheDepths : Obligations.DepthCorrectMovesTheDepths := by
  intro h depth s hs new δ n refused
  refine ⟨fun hrange => exec_depthCorrect_of_ready hs (doDepthCorrect_of_range hrange),
    fun hlow hhigh hstate => exec_depthCorrect_of_ready hs (doDepthCorrect_of_state hlow hhigh hstate),
    fun hlow hhigh hbottom hext => ?_⟩
  have hdepth := correctDepth_depth new s
  have hat : ∀ i, s.recorder.interval = some i → s.recorder.closingMark = false → 0 < s.tables.settings.step →
      correctDepth new s = reopen new true ((s.depthMoved new).correctionClosed i s.depth.hole) :=
    fun i hi hmark hstep => onCorrection_eq (s := s.depthMoved new) hi hmark hstep rfl
  refine ⟨correctDepth new s, exec_depthCorrect_of_ready hs (doDepthCorrect_of_done hlow hhigh hbottom hext),
    hdepth, by rw [hdepth]; exact s.depthMoved_bit new, correctDepth_keeps new s, fun hnone => ?_,
    fun i hi hmark hstep hcount => ?_, fun i hi hmark hstep hnot => ?_,
    fun i b hi hmark hstep htop hfill => ?_⟩
  · have hmoved : correctDepth new s = s.depthMoved new := onCorrection_of_none (s := s.depthMoved new) hnone
    rw [hmoved]
    rfl
  · have hclosed := State.correctionClosed_closedCount i s.depth.hole (s.depthMoved new)
    have hkeeps := (s.depthMoved new).correctionClosed_keeps i s.depth.hole
    rw [hat i hi hmark hstep]
    generalize (s.depthMoved new).correctionClosed i s.depth.hole = t at hclosed hkeeps
    have hlast : t.recorder.closedCount < 65535 := by
      change _ = s.recorder.closedCount + _ at hclosed
      split at hclosed <;> omega
    obtain ⟨interval, extending, overdue, hrecorder, hinterval⟩ := reopen_recorder t new true
    rw [if_pos hlast] at hinterval
    have hstep' : 0 < t.settings.step := by
      unfold State.settings
      rw [hkeeps .tables (by decide)]
      exact hstep
    exact ⟨newInterval new true t, by rw [hrecorder, hinterval], rfl, rfl, lt_targetOf hstep' new,
      newInterval_corrected new t, by rw [hrecorder]; exact hclosed⟩
  · rw [hat i hi hmark hstep, reopen_banks, reopen_billing, State.correctionClosed, if_neg hnot.not_gt]
    exact ⟨rfl, rfl⟩
  · have hs' := hat i hi hmark hstep
    rw [State.correctionClosed, if_pos htop] at hs'
    refine ⟨rfl, rfl, closedRecord_interval i s.depth.hole s, ?_⟩
    obtain ⟨happended, hclass, hcount, hbilling, hlast, hopens, hrest⟩ :=
      reopen_correction hs' ⟨_, rfl⟩ hext hfill hstep
    refine ⟨happended, hclass, hcount, hbilling, hlast, fun hn => ?_, hrest⟩
    obtain ⟨j, hj, hopen⟩ := hopens hn
    exact ⟨j, hj, hopen.congr rfl hdepth.symm rfl rfl⟩

end Sys2Proof.Machine
end

section
/-! RELEASE BANK and the ends of an extension (R109, R111, R122). -/

namespace Sys2Proof.Machine

/-! ### The released bank (R122) -/

/-- Bank `b` is FREE and empty. -/
def State.freed (b : Fin 2) (s : State) : State := { s with banks := s.banks.set b ⟨.free, [], false⟩ }

/-- Bank `b` is FILLING and empty. -/
def State.refilled (b : Fin 2) (s : State) : State := { s with banks := s.banks.set b ⟨.filling, [], false⟩ }

section Release

variable {b : Fin 2} {s : State}

theorem State.refilled_bank (b : Fin 2) (s : State) : (s.refilled b).banks[b] = ⟨.filling, [], false⟩ := by
  simp [State.refilled]

theorem State.refilled_other (b : Fin 2) (s : State) :
    (s.refilled b).banks[otherBank b] = s.banks[otherBank b] :=
  (State.onBank_banks_get s b (otherBank b) fun _ => Bank.startFilling).trans
    (if_neg (otherBank_ne b).symm)

theorem State.refilled_fillingBank (hother : (s.banks[1 - b]).state ≠ .filling) :
    (s.refilled b).fillingBank = some b := by
  refine State.fillingBank_eq_some (by rw [State.refilled_bank]) fun c hc => ?_
  rw [eq_otherBank hc, State.refilled_other, ← State.bank_sub]
  exact hother

theorem State.freed_fillingBank (b : Fin 2) (s : State) :
    (s.freed b).fillingBank = none ↔ (s.banks[1 - b]).state ≠ .filling := by
  have hb : (s.freed b).banks[b] = ⟨.free, [], false⟩ := by simp [State.freed]
  have ho : (s.freed b).banks[otherBank b] = s.banks[otherBank b] :=
    (State.onBank_banks_get s b (otherBank b) fun _ => Bank.free).trans (if_neg (otherBank_ne b).symm)
  rw [State.fillingBank_eq_none_iff, forall_banks b, hb, ho, State.bank_sub]
  exact ⟨And.right, fun h => ⟨nofun, h⟩⟩

theorem releaseFullBank_of_waits (h : (s.banks[1 - b]).state = .filling ∨ s.jobInProgress = false) :
    releaseFullBank b s = s.freed b := by
  refine if_neg fun hall => ?_
  obtain ⟨hnone, hjob⟩ := hall
  rcases h with h | h
  · exact (s.freed_fillingBank b).mp hnone h
  · rw [h] at hjob
    cases hjob

theorem releaseFullBank_of_fills (hother : (s.banks[1 - b]).state ≠ .filling) (hjob : s.jobInProgress = true) :
    releaseFullBank b s = if s.recorder.extending then endExtension (s.refilled b) else s.refilled b := by
  have hset : (s.freed b).onBank b (fun _ => Bank.startFilling) = s.refilled b := by
    simp [State.freed, State.refilled, State.onBank, Bank.startFilling]
  unfold releaseFullBank
  refine (if_pos ⟨(s.freed_fillingBank b).mpr hother, hjob⟩).trans ?_
  dsimp only
  rw [show (s.onBank b fun _ => Bank.free) = s.freed b from rfl, hset]

theorem exec_releaseBank_of_ready {h : ReqHeader} {bank : Byte} {t : State} {a : Reply} (hs : s.ready)
    (hdo : doReleaseBank bank.toNat s = (t, a)) : exec (.releaseBank h bank) s = answers t h 65 a :=
  finish_serve_of_ready hs hdo

theorem doReleaseBank_eq {n : Nat} (hn : n = b.val) : doReleaseBank n s =
    if (s.banks[b]).state = .full then (releaseFullBank b s, .plain .done) else (s, .plain .refusedState) := by
  subst hn
  exact dif_pos b.isLt

end Release

/-! ### The record that a new bank takes first (R117, R118) -/

theorem recordAppended.first {r : ClosedRecord} {b : Fin 2} {s t : State} (h : recordAppended r b s t)
    (hb : s.banks[b] = ⟨.filling, [], false⟩) :
    t.banks = s.banks.set b ⟨.filling, [r], decide (s.tables.settings.fillMark = 1)⟩ ∧
    (s.tables.settings.fillMark = 1 → notified s t .bankFillMark b.val 1) := by
  have hmark : (if s.settings.fillMark = 0 then 16 else s.settings.fillMark) ≤ 0 + 1 ↔
      s.tables.settings.fillMark = 1 := by
    unfold State.settings
    split <;> omega
  obtain ⟨hrecords, hreached, hnot, hroom, -⟩ := h
  rw [hb] at hrecords hreached hnot hroom
  obtain ⟨hstate, hother⟩ := hroom (by decide : 0 + 1 < 32)
  have hmarked : (t.banks[b]).fillMarked = decide (s.tables.settings.fillMark = 1) := by
    by_cases hone : s.tables.settings.fillMark = 1
    · rw [(hreached rfl (hmark.mpr hone)).1, decide_eq_true hone]
    · rw [(hnot (.inr (not_le.mp (mt hmark.mp hone)))).1, decide_eq_false hone]
  refine ⟨?_, fun hone => (hreached rfl (hmark.mpr hone)).2⟩
  have hbank : t.banks[b] = ⟨.filling, [r], decide (s.tables.settings.fillMark = 1)⟩ := by
    rw [← hstate, ← hmarked]
    exact congrArg (fun l => (⟨_, l, _⟩ : Bank)) hrecords
  have hset : ∀ c : Fin 2, t.banks[c] =
      (s.banks.set b ⟨.filling, [r], decide (s.tables.settings.fillMark = 1)⟩)[c] := by
    rw [State.bank_sub, State.bank_sub] at hother
    refine (forall_banks b).mpr ⟨by simp [hbank], hother.trans ?_⟩
    have hne : b.val ≠ (otherBank b).val := fun he => (otherBank_ne b).symm (Fin.ext he)
    simp [Vector.getElem_set_ne, hne]
  exact Vector.ext fun k hk => hset ⟨k, hk⟩

end Sys2Proof.Machine
end

section
/-! An extension ends with the bank that becomes FILLING (R109, R111, R145). -/

namespace Sys2Proof.Machine

/-- The state in which an extension ends: bank `b` fills, and the recorder extends no more. -/
def State.resumed (b : Fin 2) (s : State) : State :=
  (s.refilled b).onRecorder fun r => { r with extending := false, overdue := false }

section Ends

variable {b : Fin 2} {s : State} {i : Interval}

theorem State.resumed_recorder (b : Fin 2) (s : State) :
    (s.resumed b).recorder = { s.recorder with extending := false, overdue := false } := rfl

theorem State.resumed_banks (b : Fin 2) (s : State) :
    (s.resumed b).banks = s.banks.set b ⟨.filling, [], false⟩ := rfl

theorem State.resumed_fillingBank (hother : (s.banks[1 - b]).state ≠ .filling) :
    (s.resumed b).fillingBank = some b := State.refilled_fillingBank hother

theorem State.resumed_keeps (b : Fin 2) (s : State) : keepsAllBut [.recorder, .banks] s (s.resumed b) := by
  change keepsAllBut _ s ((s.onBank b fun _ => Bank.startFilling).onRecorder _)
  simp

/-- A record that the new bank takes first stands alone in it. -/
theorem State.resumed_appended {r : ClosedRecord} {t : State} (h : recordAppended r b (s.resumed b) t) :
    t.banks = s.banks.set b ⟨.filling, [r], decide (s.tables.settings.fillMark = 1)⟩ ∧
    (s.tables.settings.fillMark = 1 → notified s t .bankFillMark b.val 1) := by
  obtain ⟨hbanks, hnotice⟩ := h.first (State.refilled_bank b s)
  refine ⟨hbanks.trans ?_, hnotice⟩
  rw [State.resumed_banks]
  simp
  rfl

/-! ### The three ends (R109, R111) -/

theorem endExtension_of_plain (hover : s.recorder.overdue = false) (hmark : s.recorder.closingMark = false) :
    endExtension (s.refilled b) = boundaryCheck (s.resumed b) := by
  refine (if_neg ?_).trans (if_neg ?_)
  · change ¬s.recorder.closingMark = true
    rw [hmark]
    nofun
  · change ¬s.recorder.overdue = true
    rw [hover]
    nofun

theorem endExtension_of_overdue (hi : s.recorder.interval = some i) (hover : s.recorder.overdue = true)
    (hmark : s.recorder.closingMark = false) : endExtension (s.refilled b) =
      boundaryCheck (reopen (extensionBottom i s) false (handOnRecord
        (closedRecord { i with flags := i.flags ||| 64#10 } (extensionBottom i s) s) (s.resumed b))) := by
  have hclose := closeInterval_of_interval (s := s.resumed b) hi (extensionBottom i s) flagExtended
  have hrecord : closedRecord { i with flags := i.flags ||| flagExtended } (extensionBottom i s) (s.resumed b) =
      closedRecord { i with flags := i.flags ||| 64#10 } (extensionBottom i s) s := closedRecord_congr rfl rfl _ _
  rw [hrecord] at hclose
  have hmark' : ¬(s.refilled b).recorder.closingMark = true := by
    change ¬s.recorder.closingMark = true
    rw [hmark]
    nofun
  have hover' : (s.refilled b).recorder.overdue = true := hover
  have hi' : (s.refilled b).recorder.interval = some i := hi
  have hbottom : extensionBottom i (s.refilled b) = extensionBottom i s := rfl
  rw [← hclose]
  unfold endExtension
  dsimp only
  rw [if_neg hmark', if_pos hover', hi']
  dsimp only
  rw [hbottom]
  rfl

theorem finalTicketIfDue_of_closing {t : State} (hjob : t.job.state = .closing)
    (hmark : t.job.closingInterval = true) : finalTicketIfDue t = ticketDue true t := if_pos ⟨hjob, hmark⟩

theorem endExtension_of_closing (hmark : s.recorder.closingMark = true) (hjob : s.job.state = .closing) :
    endExtension (s.refilled b) = ticketDue true
      (closeForJob (flagIf s.recorder.overdue flagExtended) (s.resumed b)) := by
  obtain ⟨mark, hclosed⟩ := closeForJob_job (flagIf s.recorder.overdue flagExtended) (s.resumed b)
  have hmark' : (s.refilled b).recorder.closingMark = true := hmark
  have hfinal : endExtension (s.refilled b) = finalTicketIfDue
      (closeForJob (flagIf s.recorder.overdue flagExtended) (s.resumed b)) := if_pos hmark'
  rw [hfinal]
  refine finalTicketIfDue_of_closing ?_ ?_
  · rw [hclosed]
    exact hjob
  · rw [hclosed]

/-! ### Where an overdue interval closes (R109) -/

/-- The next interval's target lies above D. -/
theorem hole_lt_target (hstep : 0 < s.settings.step) (htop : i.top < i.target) :
    s.depth.hole < targetOf s.settings.step (extensionBottom i s) := by
  have hfloor : s.depth.hole < stepFloor s.settings.step s.depth.hole + s.settings.step :=
    lt_targetOf hstep s.depth.hole
  unfold extensionBottom targetOf
  split
  · have hself : stepFloor s.settings.step (stepFloor s.settings.step s.depth.hole) =
        stepFloor s.settings.step s.depth.hole := by
      unfold stepFloor
      rw [Int.mul_fdiv_cancel _ (by exact_mod_cast hstep.ne')]
    rw [hself]
    exact hfloor
  · next hno =>
    have hle : stepFloor s.settings.step s.depth.hole ≤ stepFloor s.settings.step i.target := by
      have hbelow : stepFloor s.settings.step s.depth.hole ≤ i.target := by omega
      have hpos : (0 : Int) < s.settings.step := Int.natCast_pos.mpr hstep
      refine Int.mul_le_mul_of_nonneg_right ?_ hpos.le
      rw [Int.fdiv_eq_ediv_of_nonneg i.target hpos.le]
      exact (Int.le_ediv_iff_mul_le hpos).mpr hbelow
    omega

/-- The record of an overdue interval goes to the new bank, and the next interval opens (R106, R109). -/
theorem State.overdue_handedOn {bottom : Int} (hfill : (s.resumed b).fillingBank = some b)
    (hstep : 0 < s.settings.step) (hbelow : s.depth.hole < targetOf s.settings.step bottom) :
    let r := closedRecord { i with flags := i.flags ||| 64#10 } bottom s
    let n := s.recorder.closedCount + 1
    let s' := boundaryCheck (reopen bottom false (handOnRecord r (s.resumed b)))
    keepsAllBut [.recorder, .banks, .billing, .trunk] s s' ∧
    s'.banks = s.banks.set b ⟨.filling, [r], decide (s.tables.settings.fillMark = 1)⟩ ∧
    (s.tables.settings.fillMark = 1 → notified s s' .bankFillMark b.val 1) ∧
    s'.billing = (if s.job.state = .opened
      then (billFootage i.top bottom r.cls.val s).billing else s.billing) ∧
    s'.recorder = { s.recorder with
      interval := s'.recorder.interval, currentClass := r.cls, extending := false
      overdue := false, closedCount := n } ∧
    (65535 ≤ n → s'.recorder.interval = none) ∧
    (n < 65535 → ∃ j, s'.recorder.interval = some j ∧ s.depth.hole < j.target ∧
      intervalOpens (n + 1) bottom 0 s j) := by
  intro r n s'
  have happended := handOnRecord_appended r hfill
  have ht : (handOnRecord r (s.resumed b)).recorder = { s.recorder with
      interval := none, currentClass := r.cls, extending := false, overdue := false, closedCount := n } :=
    handOnRecord_recorder r (s.resumed b)
  have hopens := newInterval_handOn (s := s.resumed b) r hstep bottom false
  have hbilling : (handOnRecord r (s.resumed b)).billing = if s.job.state = .opened
      then (billFootage i.top bottom r.cls.val s).billing else s.billing := by
    rw [handOnRecord_billing]
    exact if_congr Iff.rfl (billFootage_billing_congr (s := s) (t := s.resumed b) rfl rfl _ _ _) rfl
  have hfilling : (handOnRecord r (s.resumed b)).fillingBank ≠ none :=
    happended.filling (.inl (by rw [show (s.resumed b).banks[b] = _ from State.refilled_bank b s]; decide))
  have hkeeps : keepsAllBut [.recorder, .banks, .billing, .trunk] s (handOnRecord r (s.resumed b)) :=
    keepsAllBut_trans (keepsAllBut_mono (s.resumed_keeps b) (by simp)) (handOnRecord_keeps r _)
  have hdepth : (handOnRecord r (s.resumed b)).depth = s.depth := hkeeps .depth (by decide)
  have htables : (handOnRecord r (s.resumed b)).tables = s.tables := hkeeps .tables (by decide)
  obtain ⟨hbanks, hnotice⟩ := State.resumed_appended happended
  have hs' : s' = boundaryCheck (reopen bottom false (handOnRecord r (s.resumed b))) := rfl
  generalize handOnRecord r (s.resumed b) = t at hs' ht hopens hbilling hfilling hkeeps hdepth htables hbanks hnotice
  have hcount : t.recorder.closedCount = n := by rw [ht]
  rcases Nat.lt_or_ge n 65535 with hn | hn
  · rw [reopen_of_filling (by rwa [hcount]) hfilling] at hs'
    have hcheck := boundaryCheck_of_not (s := t.onRecorder fun k => { k with
      interval := some (newInterval bottom false t) }) (i := newInterval bottom false t) rfl (.inl (by
        change t.depth.hole < targetOf t.tables.settings.step bottom
        rw [hdepth, htables]
        exact hbelow))
    rw [hcheck] at hs'
    rw [hs']
    refine ⟨by simpa using hkeeps, hbanks, fun h => (hnotice h).congr rfl rfl, hbilling, ?_,
      fun h => absurd hn h.not_gt, fun _ => ⟨_, rfl, ?_, hopens.congr rfl rfl rfl rfl⟩⟩
    · rw [State.onRecorder_recorder, ht]
    · change s.depth.hole < targetOf t.tables.settings.step bottom
      rw [htables]
      exact hbelow
  · rw [reopen_of_last (by rwa [hcount])] at hs'
    rw [boundaryCheck_of_none rfl] at hs'
    rw [hs']
    refine ⟨by simpa using hkeeps, hbanks, fun h => (hnotice h).congr rfl rfl, hbilling, ?_, fun _ => rfl,
      fun h => absurd h hn.not_gt⟩
    rw [State.onRecorder_recorder, ht]

end Ends

end Sys2Proof.Machine
end

section
/-! RELEASE BANK and a job's last interval (R109, R111, R122, R145). -/

namespace Sys2Proof.Machine

/-- The state once the bank that becomes FILLING has taken the last interval of a job in CLOSING. -/
def State.closedInto (b : Fin 2) (s : State) : State :=
  closeForJob (flagIf s.recorder.overdue flagExtended) (s.resumed b)

section Closing

variable {b : Fin 2} {s : State} {i : Interval}

theorem State.closedInto_keeps (b : Fin 2) (s : State) :
    keepsAllBut [.recorder, .banks, .billing, .trunk] s (s.closedInto b) :=
  (keepsAllBut_closeForJob _ _ _ _ (by simp)).mpr (keepsAllBut_mono (s.resumed_keeps b) (by simp))

theorem State.closedInto_now (b : Fin 2) (s : State) : (s.closedInto b).now = s.now := by
  unfold State.now
  rw [s.closedInto_keeps b .mgmt (by decide)]

theorem State.closedInto_of_interval (hi : s.recorder.interval = some i) (htop : i.top < s.depth.hole) :
    s.closedInto b = ((handOnRecord (closedRecord { i with flags := i.flags ||| 128#10 |||
        (if s.recorder.overdue = true then 64#10 else 0) } s.depth.hole s) (s.resumed b)).onRecorder fun r =>
      { r with closingMark := false }).onJob fun j => { j with closingInterval := true } := by
  have hflags : i.flags ||| (flagPartial ||| flagIf s.recorder.overdue flagExtended) =
      i.flags ||| 128#10 ||| (if s.recorder.overdue = true then 64#10 else 0) := (BitVec.or_assoc _ _ _).symm
  have hclose := closeForJob_of_interval (s := s.resumed b) (flagIf s.recorder.overdue flagExtended) hi htop
  rw [closedRecord_congr (s := s) (t := s.resumed b) rfl rfl, hflags] at hclose
  exact hclose

theorem State.closedInto_of_none (hi : s.recorder.interval = some i) (htop : s.depth.hole ≤ i.top) :
    s.closedInto b = ((s.resumed b).onRecorder fun r =>
      { r with interval := none, closingMark := false }).onJob fun j => { j with closingInterval := true } := by
  refine closeForJob_of_none (s := s.resumed b) _ fun ⟨j, hj, hlt⟩ => ?_
  obtain rfl := Option.some.inj (hi.symm.trans hj)
  exact htop.not_gt hlt

theorem State.closedInto_recorded (hfill : (s.resumed b).fillingBank = some b) (hjob : s.job.state = .closing)
    (hi : s.recorder.interval = some i) (htop : i.top < s.depth.hole) :
    let r := closedRecord { i with flags := i.flags ||| 128#10 |||
      (if s.recorder.overdue = true then 64#10 else 0) } s.depth.hole s
    (s.closedInto b).banks = s.banks.set b ⟨.filling, [r], decide (s.tables.settings.fillMark = 1)⟩ ∧
    (s.tables.settings.fillMark = 1 → notified s (s.closedInto b) .bankFillMark b.val 1) ∧
    (s.closedInto b).recorder = { s.recorder with
      interval := none, currentClass := r.cls, extending := false, overdue := false
      closingMark := false, closedCount := s.recorder.closedCount + 1 } ∧
    (s.closedInto b).billing = { s.billing with job := { s.billing.job with closingInterval := true } } := by
  intro r
  have happended := handOnRecord_appended r hfill
  have hrecorder : (handOnRecord r (s.resumed b)).recorder = { s.recorder with
      interval := none, currentClass := r.cls, extending := false, overdue := false
      closedCount := s.recorder.closedCount + 1 } := handOnRecord_recorder r (s.resumed b)
  have hbilling : (handOnRecord r (s.resumed b)).billing = s.billing := by
    rw [handOnRecord_billing]
    refine if_neg ?_
    change s.job.state ≠ .opened
    rw [hjob]
    nofun
  obtain ⟨hbanks, hnotice⟩ := State.resumed_appended happended
  rw [State.closedInto_of_interval hi htop]
  generalize handOnRecord r (s.resumed b) = t at hrecorder hbilling hbanks hnotice
  refine ⟨hbanks, fun h => (hnotice h).congr rfl rfl, ?_, ?_⟩
  · exact congrArg (fun k : Recorder => { k with closingMark := false }) hrecorder
  · exact congrArg (fun k : Billing => { k with job := { k.job with closingInterval := true } }) hbilling

theorem State.closedInto_dropped (hi : s.recorder.interval = some i) (htop : s.depth.hole ≤ i.top) :
    (s.closedInto b).trunk = s.trunk ∧ (s.closedInto b).banks = s.banks.set b ⟨.filling, [], false⟩ ∧
    (s.closedInto b).recorder = { s.recorder with
      interval := none, extending := false, overdue := false, closingMark := false } ∧
    (s.closedInto b).billing = { s.billing with job := { s.billing.job with closingInterval := true } } := by
  rw [State.closedInto_of_none hi htop]
  exact ⟨rfl, rfl, rfl, rfl⟩

theorem set_bank_sub (v : Vector Bank 2) (b : Fin 2) (k : Bank) : (v.set b k)[1 - b] = v[1 - b] := by
  fin_cases b
  · exact Vector.getElem_set_ne (by decide) (by decide) (by decide)
  · exact Vector.getElem_set_ne (by decide) (by decide) (by decide)

/-- The final ticket seals the bank with the one record it has taken, or frees it (R123). -/
theorem issueTicket_seals {t : State} {k : Bank} (hbanks : t.banks = s.banks.set b k) (hk : k.state = .filling)
    (hother : (s.banks[1 - b]).state ≠ .filling) (hnow : t.now = s.now) :
    (k.records = [] → (issueTicket true t).banks = s.banks.set b ⟨.free, [], false⟩) ∧
    (k.records ≠ [] → (issueTicket true t).banks = s.banks.set b { k with state := .full } ∧
      notified s (issueTicket true t) .bankReady b.val k.records.length) := by
  have hb : t.banks[b] = k := by
    rw [hbanks]
    simp
  have hne : b.val ≠ (otherBank b).val := fun he => (otherBank_ne b).symm (Fin.ext he)
  have hfill : t.fillingBank = some b := by
    refine State.fillingBank_eq_some (by rw [hb]; exact hk) fun c hc => ?_
    rw [State.bank_sub] at hother
    rw [eq_otherBank hc, hbanks]
    simpa [Vector.getElem_set_ne, hne] using hother
  obtain ⟨hfree, hfull⟩ := issueTicket_final_banks hfill
  rw [hb, hbanks] at hfree hfull
  refine ⟨fun h => (hfree h).trans (Vector.set_set ..), fun h => ?_⟩
  obtain ⟨hset, hready⟩ := hfull h
  exact ⟨hset.trans (Vector.set_set ..), hready.congr hnow.symm rfl⟩

/-- The bank that takes a job's last interval, once its final ticket is issued or deferred (R111, R145). -/
theorem State.closedInto_ends (hother : (s.banks[1 - b]).state ≠ .filling) (hjob : s.job.state = .closing)
    (hi : s.recorder.interval = some i) :
    let r := closedRecord { i with flags := i.flags ||| 128#10 |||
      (if s.recorder.overdue = true then 64#10 else 0) } s.depth.hole s
    let s1 := s.closedInto b
    let s' := ticketDue true s1
    (s.billing.tickets.length < 8 → s' = issueTicket true s1 ∧ s'.job.state = .closed ∧
      (s.depth.hole ≤ i.top → s'.banks = s.banks.set b ⟨.free, [], false⟩) ∧
      (i.top < s.depth.hole → (s'.banks[b]).state = .full ∧ (s'.banks[b]).records = [r] ∧
        s'.banks[1 - b] = s.banks[1 - b] ∧ notified s s' .bankReady b.val 1)) ∧
    (8 ≤ s.billing.tickets.length → s'.billing = { s1.billing with deferred := true } ∧
      notified s s' .ticketDeferred 1 (min 65535 (s.job.ticketCounter + 1) : Nat) ∧
      keepsAllBut [.billing, .trunk] s1 s') := by
  intro r s1 s'
  have hfill := s.resumed_fillingBank hother
  have hbilling : s1.billing = { s.billing with job := { s.billing.job with closingInterval := true } } := by
    rcases lt_or_ge i.top s.depth.hole with htop | htop
    · exact (State.closedInto_recorded hfill hjob hi htop).2.2.2
    · exact (State.closedInto_dropped hi htop).2.2.2
  have htickets : s1.billing.tickets = s.billing.tickets := by rw [hbilling]
  have hcounter : s1.nextTicketNumber true = min 65535 (s.job.ticketCounter + 1) := by
    change min 65535 (s1.billing.job.ticketCounter + 1) = _
    rw [hbilling]
    rfl
  refine ⟨fun hroom => ?_, fun hfull => ?_⟩
  · have hdue : s' = issueTicket true s1 := ticketDue_of_room (by rwa [htickets])
    rw [hdue]
    refine ⟨rfl, congrArg (fun k : Billing => k.job.state) (issueTicket_billing true s1), fun htop => ?_,
      fun htop => ?_⟩
    · obtain ⟨-, hbanks, -, -⟩ := State.closedInto_dropped (b := b) hi htop
      exact (issueTicket_seals hbanks rfl hother (s.closedInto_now b)).1 rfl
    · obtain ⟨hbanks, -, -, -⟩ := State.closedInto_recorded hfill hjob hi htop
      obtain ⟨hset, hready⟩ := (issueTicket_seals hbanks rfl hother (s.closedInto_now b)).2 (by simp)
      rw [hset]
      exact ⟨by simp, by simp [r], set_bank_sub _ _ _, hready⟩
  · obtain ⟨hdeferred, hnotice, hkeeps⟩ := ticketDue_of_full (final := true) (s := s1)
      (by rw [htickets]; exact hfull.not_gt)
    rw [hcounter] at hnotice
    exact ⟨hdeferred, hnotice.congr (s.closedInto_now b).symm rfl, hkeeps⟩

end Closing

/-- Settles O51: a released bank waits or fills, and with the one that fills an extension ends in its three
ways. -/
theorem releaseBankFreesTheBankAndEndsTheExtension : Obligations.ReleaseBankFreesTheBankAndEndsTheExtension := by
  intro h bank s hs
  refine ⟨fun hbank => exec_releaseBank_of_ready hs (dif_neg hbank.not_gt), fun b hb => ⟨fun hstate => ?_,
    fun hstate => ?_⟩⟩
  · exact exec_releaseBank_of_ready hs ((doReleaseBank_eq hb).trans (if_neg hstate))
  have hdo : exec (.releaseBank h bank) s = answers (releaseFullBank b s) h 65 (.plain .done) :=
    exec_releaseBank_of_ready hs ((doReleaseBank_eq hb).trans (if_pos hstate))
  refine ⟨fun hwaits => ?_, fun hother hjob => ⟨fun hext => ?_, fun i hext hi => ?_⟩⟩
  · rw [hdo, releaseFullBank_of_waits (hwaits.imp_right s.jobInProgress_eq_false_iff.mpr)]
    rfl
  · rw [hdo, releaseFullBank_of_fills hother (s.jobInProgress_iff.mpr hjob), if_neg (by rw [hext]; nofun)]
    rfl
  have hends : exec (.releaseBank h bank) s = answers (endExtension (s.refilled b)) h 65 (.plain .done) := by
    rw [hdo, releaseFullBank_of_fills hother (s.jobInProgress_iff.mpr hjob), if_pos hext]
  have hresumed : s.recorder.overdue = false → s.resumed b = { s with
      banks := s.banks.set b ⟨.filling, [], false⟩, recorder := { s.recorder with extending := false } } := by
    intro hover
    exact congrArg (fun o => { s with
      banks := s.banks.set b ⟨.filling, [], false⟩
      recorder := { s.recorder with extending := false, overdue := o } }) hover.symm
  refine ⟨fun hover hmark => ?_, fun hover hmark htarget => ?_, fun hover hmark htop hstep => ?_,
    fun hmark hclosing => ?_⟩
  · rw [hends, endExtension_of_plain hover hmark, hresumed hover]
  · rw [hends, endExtension_of_plain hover hmark, boundaryCheck_of_not (s := s.resumed b) hi (.inl htarget),
      hresumed hover]
  · intro step floor bottom n r
    refine ⟨_, hends, ?_⟩
    rw [endExtension_of_overdue hi hover hmark]
    exact State.overdue_handedOn (s.resumed_fillingBank hother) hstep (hole_lt_target hstep htop)
  · intro r
    have hfill := s.resumed_fillingBank hother
    have hbilling : (s.closedInto b).billing = { s.billing with
        job := { s.billing.job with closingInterval := true } } := by
      rcases lt_or_ge i.top s.depth.hole with htop | htop
      · exact (State.closedInto_recorded hfill hclosing hi htop).2.2.2
      · exact (State.closedInto_dropped hi htop).2.2.2
    refine ⟨s.closedInto b, ticketDue true (s.closedInto b), ?_, s.closedInto_keeps b, hbilling,
      fun htop => ?_, fun htop => ?_, State.closedInto_ends hother hclosing hi⟩
    · rw [hends, endExtension_of_closing hmark hclosing]
      rfl
    · obtain ⟨hbanks, hnotice, hrecorder, -⟩ := State.closedInto_recorded hfill hclosing hi htop
      exact ⟨hbanks, hnotice, hrecorder⟩
    · obtain ⟨htrunk, hbanks, hrecorder, -⟩ := State.closedInto_dropped (b := b) hi htop
      exact ⟨htrunk, hbanks, hrecorder⟩

end Sys2Proof.Machine
end

section
/-! The Tariff Table by key, and the footage of a closed interval (R134, R137, R138). -/

namespace Sys2Proof.Machine

/-! ### Rows by key (R131, R134) -/

section Rows

variable {s : State} {pick : Tariff → Option Nat} {mk : Nat → Tariff}

/-- The rows of one key conflict with each other, so a stored table gives the key the rate of its row. -/
theorem State.findSome_of_row (hpick : ∀ t q, pick t = some q ↔ t = mk q)
    (hclash : ∀ q r, (mk q).conflicts (mk r) = true) (hlaw : s.tables.law) {i : Fin 24} {r : Nat}
    (hrow : s.tables.tariff[i] = mk r) : s.tables.tariff.toList.findSome? pick = some r := by
  obtain ⟨-, -, -, -, -, -, -, -, -, hapart, -⟩ := hlaw
  cases hrate : s.tables.tariff.toList.findSome? pick with
  | none =>
    have hmiss := List.findSome?_eq_none_iff.mp hrate _ (Vector.mem_toList_iff.mpr (Vector.getElem_mem i.isLt))
    exact absurd (hmiss.symm.trans ((hpick _ r).mpr hrow)) nofun
  | some q =>
    obtain ⟨t, ht, hq⟩ := List.exists_of_findSome?_eq_some hrate
    obtain ⟨k, hk, rfl⟩ := List.getElem_of_mem ht
    have hk' : k < 24 := by simpa using hk
    have hj : s.tables.tariff[(⟨k, hk'⟩ : Fin 24)] = mk q := by simpa using (hpick _ q).mp hq
    have hij : i = ⟨k, hk'⟩ := by
      by_contra hne
      have := hapart i ⟨k, hk'⟩ hne
      rw [hrow, hj, hclash] at this
      cases this
    rw [hij, hj] at hrow
    rw [← (hpick _ r).mpr hrow, (hpick _ q).mpr rfl]

theorem State.findSome_of_noRow (hpick : ∀ t q, pick t = some q ↔ t = mk q)
    (h : ∀ (i : Fin 24) (q : Nat), s.tables.tariff[i] ≠ mk q) :
    s.tables.tariff.toList.findSome? pick = none := by
  refine List.findSome?_eq_none_iff.mpr fun t ht => Option.eq_none_iff_forall_ne_some.mpr fun q hq => ?_
  obtain ⟨k, hk, rfl⟩ := List.getElem_of_mem ht
  exact h ⟨k, by simpa using hk⟩ q (by simpa using (hpick _ q).mp hq)

end Rows

section Keys

variable {s : State} {key : Nat}

theorem State.activityRate_of_row (hlaw : s.tables.law) {i : Fin 24} {r : Nat}
    (hrow : s.tables.tariff[i] = .activity key r) : s.activityRate key = r := by
  unfold State.activityRate
  rw [State.findSome_of_row (mk := .activity key) (fun t q => ?_) (fun q r => ?_) hlaw hrow]
  · rfl
  · cases t <;> simp
  · simp [Tariff.conflicts]

theorem State.activityRate_of_noRow (h : ∀ (i : Fin 24) (q : Nat), s.tables.tariff[i] ≠ .activity key q) :
    s.activityRate key = 0 := by
  unfold State.activityRate
  rw [State.findSome_of_noRow (mk := .activity key) (fun t q => ?_) h]
  · rfl
  · cases t <;> simp

theorem State.surcharge_of_row (hlaw : s.tables.law) {i : Fin 24} {r : Nat}
    (hrow : s.tables.tariff[i] = .surcharge key r) : s.surcharge key = r := by
  unfold State.surcharge
  rw [State.findSome_of_row (mk := .surcharge key) (fun t q => ?_) (fun q r => ?_) hlaw hrow]
  · rfl
  · cases t <;> simp
  · simp [Tariff.conflicts]

theorem State.surcharge_of_noRow (h : ∀ (i : Fin 24) (q : Nat), s.tables.tariff[i] ≠ .surcharge key q) :
    s.surcharge key = 0 := by
  unfold State.surcharge
  rw [State.findSome_of_noRow (mk := .surcharge key) (fun t q => ?_) h]
  · rfl
  · cases t <;> simp

theorem State.mudRate_of_row (hlaw : s.tables.law) {i : Fin 24} {r : Nat}
    (hrow : s.tables.tariff[i] = .mudLost r) : s.mudRate = r := by
  unfold State.mudRate
  rw [State.findSome_of_row (mk := .mudLost) (fun t q => ?_) (fun _ _ => rfl) hlaw hrow]
  · rfl
  · cases t <;> simp

theorem State.mudRate_of_noRow (h : ∀ (i : Fin 24) (q : Nat), s.tables.tariff[i] ≠ .mudLost q) :
    s.mudRate = 0 := by
  unfold State.mudRate
  rw [State.findSome_of_noRow (mk := .mudLost) (fun t q => ?_) h]
  · rfl
  · cases t <;> simp

end Keys

/-! ### The bands in their order (R134) -/

theorem insertBand_eq (b : Band) (bs : List Band) :
    insertBand b bs = bs.orderedInsert (fun a c => a.fromM ≤ c.fromM) b := by
  induction bs with
  | nil => rfl
  | cons c cs ih => rw [insertBand, List.orderedInsert_cons, ih]

theorem State.bands_eq (s : State) : s.bands =
    (s.tables.tariff.toList.filterMap Tariff.band?).insertionSort fun a c => a.fromM ≤ c.fromM := by
  unfold State.bands
  generalize s.tables.tariff.toList.filterMap Tariff.band? = bs
  induction bs with
  | nil => rfl
  | cons b bs ih => rw [List.foldr_cons, ih, insertBand_eq, List.insertionSort_cons]

theorem Tariff.band?_eq_some_iff (t : Tariff) (b : Band) :
    t.band? = some b ↔ t = .band b.fromM b.toM b.rate := by
  cases t with
  | band f u r => exact ⟨fun h => by cases h; rfl, fun h => by cases h; rfl⟩
  | _ => exact ⟨nofun, nofun⟩

theorem State.mem_bands_iff (s : State) (b : Band) :
    b ∈ s.bands ↔ ∃ i : Fin 24, s.tables.tariff[i] = .band b.fromM b.toM b.rate := by
  rw [s.bands_eq, List.mem_insertionSort, List.mem_filterMap]
  constructor
  · rintro ⟨t, ht, hb⟩
    obtain ⟨k, hk, rfl⟩ := List.getElem_of_mem ht
    exact ⟨⟨k, by simpa using hk⟩, by simpa using (Tariff.band?_eq_some_iff _ b).mp hb⟩
  · rintro ⟨i, hi⟩
    exact ⟨_, Vector.mem_toList_iff.mpr (Vector.getElem_mem i.isLt), (Tariff.band?_eq_some_iff _ b).mpr hi⟩

/-- Two stored bands cover depths apart, so no two begin at one depth. -/
theorem State.bands_pairwise {s : State} (hlaw : s.tables.law) :
    s.bands.Pairwise fun a b => a.fromM < b.fromM := by
  obtain ⟨-, -, -, -, -, -, -, -, hrows, hapart, -⟩ := hlaw
  have hdistinct : (s.tables.tariff.toList.filterMap Tariff.band?).Pairwise fun a b => a.fromM ≠ b.fromM := by
    rw [List.pairwise_filterMap, List.pairwise_iff_getElem]
    intro m n hm hn hlt a ha b hb he
    have hm' : m < 24 := by simpa using hm
    have hn' : n < 24 := by simpa using hn
    have hrow : s.tables.tariff[(⟨m, hm'⟩ : Fin 24)] = .band a.fromM a.toM a.rate := by
      simpa using (Tariff.band?_eq_some_iff _ a).mp ha
    have hother : s.tables.tariff[(⟨n, hn'⟩ : Fin 24)] = .band b.fromM b.toM b.rate := by
      simpa using (Tariff.band?_eq_some_iff _ b).mp hb
    have hclash := hapart ⟨m, hm'⟩ ⟨n, hn'⟩ fun hmn => hlt.ne (congrArg Fin.val hmn)
    have hspan := hrows ⟨m, hm'⟩
    have hspan' := hrows ⟨n, hn'⟩
    rw [hrow] at hclash hspan
    rw [hother] at hclash hspan'
    obtain ⟨hfrom, -, -⟩ := hspan
    obtain ⟨hfrom', -, -⟩ := hspan'
    refine of_decide_eq_false hclash ⟨?_, ?_⟩ <;> omega
  have hperm := List.perm_insertionSort (fun a c : Band => a.fromM ≤ c.fromM)
    (s.tables.tariff.toList.filterMap Tariff.band?)
  have hsorted := List.pairwise_insertionSort (fun a c : Band => a.fromM ≤ c.fromM)
    (s.tables.tariff.toList.filterMap Tariff.band?)
  rw [s.bands_eq]
  have hne := (hperm.pairwise_iff (R := fun a b : Band => a.fromM ≠ b.fromM) fun h => h.symm).mpr hdistinct
  exact (hsorted.and hne).imp fun ⟨hle, hne⟩ => lt_of_le_of_ne hle hne

/-! ### The band of a depth (R134) -/

theorem bandIndex_eq {bs : List Band} (hbs : bs.Pairwise fun a b => a.fromM < b.fromM) {j : Nat} {b : Band}
    {x : Int} (hb : bs[j]? = some b) (hreached : j = 0 ∨ (b.fromM : Int) * 1000 ≤ x)
    (hnext : ∀ c : Band, bs[j + 1]? = some c → x < (c.fromM : Int) * 1000) : bandIndex bs x = j := by
  obtain ⟨hj, rfl⟩ := List.getElem?_eq_some_iff.mp hb
  have hsplit : bs = bs.take (j + 1) ++ bs.drop (j + 1) := (List.take_append_drop _ _).symm
  have hdrop : (bs.drop (j + 1)).countP (fun b => decide ((b.fromM : Int) * 1000 ≤ x)) = 0 := by
    refine List.countP_eq_zero.mpr fun c hc => ?_
    obtain ⟨n, hn, rfl⟩ := List.getElem_of_mem hc
    have hn' : j + 1 + n < bs.length := by
      rw [List.length_drop] at hn
      omega
    have hfirst := hnext _ (List.getElem?_eq_getElem (by omega : j + 1 < bs.length))
    rw [List.getElem_drop, decide_eq_true_eq, not_le]
    rcases Nat.eq_zero_or_pos n with rfl | hpos
    · exact hfirst
    · have hlt := List.pairwise_iff_getElem.mp hbs (j + 1) (j + 1 + n) (by omega) hn' (by omega)
      omega
  unfold bandIndex
  rw [hsplit, List.countP_append, hdrop, Nat.add_zero]
  by_cases hle : (bs[j].fromM : Int) * 1000 ≤ x
  · have htake : (bs.take (j + 1)).countP (fun b => decide ((b.fromM : Int) * 1000 ≤ x)) = j + 1 := by
      have hall : ∀ c ∈ bs.take (j + 1), decide ((c.fromM : Int) * 1000 ≤ x) = true := by
        intro c hc
        obtain ⟨n, hn, rfl⟩ := List.getElem_of_mem hc
        have hn' : n < j + 1 := by
          rw [List.length_take] at hn
          omega
        rw [List.getElem_take, decide_eq_true_eq]
        rcases Nat.lt_or_ge n j with hlt | hge
        · have := List.pairwise_iff_getElem.mp hbs n j (by omega) hj hlt
          omega
        · obtain rfl : n = j := by omega
          exact hle
      rw [List.countP_eq_length.mpr hall, List.length_take]
      omega
    rw [htake]
    rfl
  · obtain rfl : j = 0 := hreached.resolve_right hle
    have hfew : (bs.take (0 + 1)).countP (fun b => decide ((b.fromM : Int) * 1000 ≤ x)) ≤ 1 :=
      List.countP_le_length.trans (by simp)
    omega

end Sys2Proof.Machine
end

section
/-! Each millimetre of a closed interval is billed once, in its band (R137, R138). -/

namespace Sys2Proof.Machine

/-! ### The millimetres of a span -/

/-- The depths from `lo` up to `hi`, one for each millimetre that begins there. -/
def depthsOf (lo hi : Int) : List Int := (List.range (hi - lo).toNat).map fun k : Nat => lo + (k : Int)

theorem mem_depthsOf {lo hi x : Int} : x ∈ depthsOf lo hi ↔ lo ≤ x ∧ x < hi := by
  simp only [depthsOf, List.mem_map, List.mem_range]
  constructor
  · rintro ⟨k, hk, rfl⟩
    omega
  · rintro ⟨hlo, hhi⟩
    exact ⟨(x - lo).toNat, by omega, by omega⟩

theorem length_depthsOf (lo hi : Int) : (depthsOf lo hi).length = (hi - lo).toNat := by
  simp [depthsOf]

theorem depthsOf_append {lo c hi : Int} (hlo : lo ≤ c) (hhi : c ≤ hi) :
    depthsOf lo hi = depthsOf lo c ++ depthsOf c hi := by
  have hsplit : (hi - lo).toNat = (c - lo).toNat + (hi - c).toNat := by omega
  unfold depthsOf
  rw [hsplit, List.range_add, List.map_append, List.map_map]
  refine congrArg _ (List.map_congr_left fun k _ => ?_)
  rw [Function.comp_apply]
  omega

/-- The price of a millimetre at a depth, before the surcharge. -/
def bandRate (bs : List Band) (x : Int) : Nat := ((bs[bandIndex bs x]?).map Band.rate).getD 0

/-! ### The billing of a span -/

/-- The accumulators with every millimetre of a span billed in its band. -/
def Accumulators.footed (bs : List Band) (percent : Nat) (lo hi : Int) (a : Accumulators) : Accumulators := { a with
  bands := Vector.ofFn fun j : Fin 8 => min 4294967295 (a.bands[j] +
    (depthsOf lo hi).countP fun x => bandIndex bs x == j.val)
  footageCharge := a.footageCharge + ((depthsOf lo hi).map (bandRate bs)).sum * (100 + percent) }

section Footage

variable {bs : List Band} {percent : Nat} {lo c hi : Int}

theorem Accumulators.footed_footed (a : Accumulators) (hlo : lo ≤ c) (hhi : c ≤ hi) :
    (a.footed bs percent lo c).footed bs percent c hi = a.footed bs percent lo hi := by
  unfold Accumulators.footed
  rw [depthsOf_append hlo hhi]
  congr 1
  · refine congrArg Vector.ofFn (funext fun j => ?_)
    simp only [Fin.getElem_fin, Vector.getElem_ofFn, List.countP_append]
    omega
  · simp only [List.map_append, List.sum_append]
    ring

/-- A piece within one band is billed as its millimetres are. -/
theorem addPiece_eq {a : Accumulators} (ha : ∀ j : Fin 8, a.bands[j] ≤ 4294967295)
    (hband : ∀ x, lo ≤ x → x < hi → bandIndex bs x = bandIndex bs lo) :
    addPiece bs percent a (lo, hi) = a.footed bs percent lo hi := by
  have hcount : ∀ j, (depthsOf lo hi).countP (fun x => bandIndex bs x == j) =
      if bandIndex bs lo = j then (hi - lo).toNat else 0 := by
    intro j
    split
    · next h =>
      rw [List.countP_eq_length.mpr, length_depthsOf]
      intro x hx
      obtain ⟨hx, hx'⟩ := mem_depthsOf.mp hx
      rw [hband x hx hx', h]
      exact beq_self_eq_true j
    · next h =>
      refine List.countP_eq_zero.mpr fun x hx => ?_
      obtain ⟨hx, hx'⟩ := mem_depthsOf.mp hx
      rw [hband x hx hx']
      simpa using h
  have hsum : ((depthsOf lo hi).map (bandRate bs)).sum = (hi - lo).toNat * bandRate bs lo := by
    have hconst : (depthsOf lo hi).map (bandRate bs) = (depthsOf lo hi).map fun _ => bandRate bs lo := by
      refine List.map_congr_left fun x hx => ?_
      obtain ⟨hx, hx'⟩ := mem_depthsOf.mp hx
      unfold bandRate
      rw [hband x hx hx']
    rw [hconst, List.map_const', List.sum_replicate, length_depthsOf]
    rfl
  unfold addPiece Accumulators.footed
  rw [hsum]
  refine congrArg (fun v : Vector Nat 8 => ({ a with
    bands := v
    footageCharge := a.footageCharge + (hi - lo).toNat * bandRate bs lo * (100 + percent) } : Accumulators)) ?_
  refine Vector.ext fun k hk => ?_
  have hk' : a.bands[k] ≤ 4294967295 := ha ⟨k, hk⟩
  rw [Vector.getElem_setIfInBounds hk, Vector.getElem_ofFn, hcount]
  dsimp only
  split
  · next h =>
    subst h
    rw [Vector.getElem?_eq_getElem hk]
    rfl
  · exact (min_eq_right hk').symm

/-- Cut at the froms of the bands, a span falls into pieces that lie in one band each. -/
theorem foldl_addPiece {cuts : List Int} {a : Accumulators} (hspan : lo < hi) (hcuts : cuts.Pairwise (· < ·))
    (hbands : ∀ b ∈ bs, (b.fromM : Int) * 1000 ∈ cuts ∨ (b.fromM : Int) * 1000 ≤ lo ∨ hi ≤ (b.fromM : Int) * 1000)
    (ha : ∀ j : Fin 8, a.bands[j] ≤ 4294967295) :
    (cutPieces lo hi cuts).foldl (addPiece bs percent) a = a.footed bs percent lo hi := by
  induction cuts generalizing lo a with
  | nil =>
    refine addPiece_eq ha fun x hlo hhi => ?_
    have hsame : ∀ b ∈ bs, decide ((b.fromM : Int) * 1000 ≤ x) = decide ((b.fromM : Int) * 1000 ≤ lo) := by
      intro b hb
      have := (hbands b hb).resolve_left nofun
      exact decide_eq_decide.mpr (by omega)
    unfold bandIndex
    rw [List.countP_congr fun b hb => by rw [hsame b hb]]
  | cons c cs ih =>
    obtain ⟨hc, hcs⟩ := List.pairwise_cons.mp hcuts
    unfold cutPieces
    split
    · next hin =>
      have hpiece : addPiece bs percent a (lo, c) = a.footed bs percent lo c := by
        refine addPiece_eq ha fun x hlo hx => ?_
        have hsame : ∀ b ∈ bs, decide ((b.fromM : Int) * 1000 ≤ x) = decide ((b.fromM : Int) * 1000 ≤ lo) := by
          intro b hb
          refine decide_eq_decide.mpr ?_
          rcases hbands b hb with hmem | hmem
          · rcases List.mem_cons.mp hmem with heq | hmem
            · omega
            · have := hc _ hmem
              omega
          · omega
        unfold bandIndex
        rw [List.countP_congr fun b hb => by rw [hsame b hb]]
      rw [List.foldl_cons, hpiece, ih hin.2 hcs ?_ ?_, Accumulators.footed_footed a hin.1.le hin.2.le]
      · intro b hb
        rcases hbands b hb with hmem | hmem
        · rcases List.mem_cons.mp hmem with heq | hmem
          · exact .inr (.inl heq.le)
          · exact .inl hmem
        · omega
      · intro j
        simp [Accumulators.footed]
    · next hout =>
      refine ih hspan hcs (fun b hb => ?_) ha
      rcases hbands b hb with hmem | hmem
      · rcases List.mem_cons.mp hmem with heq | hmem
        · omega
        · exact .inl hmem
      · exact .inr hmem

end Footage

/-! ### A closed interval (R137, R138) -/

theorem addFootage_of_none {s : State} (h : s.bands = []) (lo hi : Int) (cls : Nat) (a : Accumulators) :
    addFootage s lo hi cls a = { a with unbanded := min 4294967295 (a.unbanded + (hi - lo).toNat) } := by
  unfold addFootage
  rw [h]
  rfl

theorem addFootage_of_some {s : State} (hlaw : s.tables.law) (h : s.bands ≠ []) {lo hi : Int} (hspan : lo < hi)
    (cls : Nat) {a : Accumulators} (ha : ∀ j : Fin 8, a.bands[j] ≤ 4294967295) :
    addFootage s lo hi cls a = a.footed s.bands (s.surcharge cls) lo hi := by
  have hcuts : (s.bands.map fun b => (b.fromM : Int) * 1000).Pairwise (· < ·) :=
    List.pairwise_map.mpr ((State.bands_pairwise hlaw).imp fun hlt => by omega)
  have hfold := foldl_addPiece (bs := s.bands) (percent := s.surcharge cls) hspan hcuts
    (fun b hb => .inl (List.mem_map.mpr ⟨b, hb, rfl⟩)) ha
  rw [← hfold]
  unfold addFootage
  split
  · next hnone => exact absurd hnone h
  · rfl

/-- Settles O55: the table is read by key, a depth by its band, and the pieces between the bands' froms make
up the sum over the millimetres. -/
theorem footageIsBilledByTheMillimetre : Obligations.FootageIsBilledByTheMillimetre := by
  intro s hlaw hmeter bs
  have hbs := State.bands_pairwise hlaw
  refine ⟨fun i key rate => ⟨State.activityRate_of_row hlaw, State.surcharge_of_row hlaw,
      State.productRate_of_row hlaw, State.mudRate_of_row hlaw⟩,
    fun key => ⟨State.activityRate_of_noRow, State.surcharge_of_noRow, State.mudRate_of_noRow⟩, hbs,
    s.mem_bands_iff, fun j b x => bandIndex_eq hbs, fun top bottom cls hspan => ?_⟩
  intro t lo depths rate
  refine ⟨fun hbilled => if_pos hbilled, fun hdeeper => ?_⟩
  have ht : t = s.onBilling fun b => { b with
      acc := addFootage s lo bottom cls b.acc, job := { b.job with billedMark := bottom } } :=
    if_neg hdeeper.not_ge
  have hlo : lo < bottom := max_lt hspan hdeeper
  obtain ⟨-, -, -, -, hbands, -⟩ := hmeter
  have hdepths : depths = depthsOf lo bottom := by
    simp only [depths, depthsOf, List.bind_eq_flatMap, List.pure_def, List.map_flatMap, List.map_cons,
      List.map_nil]
    exact List.map_eq_flatMap.symm
  rw [ht, hdepths]
  refine ⟨by simp, rfl, fun hnone => ?_, fun hsome => ?_⟩
  · rw [length_depthsOf]
    exact addFootage_of_none hnone lo bottom cls s.billing.acc
  · have hfooted := addFootage_of_some hlaw hsome hlo cls hbands
    rw [State.onBilling_billing]
    dsimp only
    rw [hfooted]
    refine ⟨rfl, fun j => ?_⟩
    simp only [Accumulators.footed, Fin.getElem_fin, Vector.getElem_ofFn]
    rfl

end Sys2Proof.Machine
end

section
/-! The clearing of the balance window by a load (R26, R33, R92). -/

namespace Sys2Proof.Machine

/-! ### The depth unit's tests leave the rest of the part -/

section React

variable (s : State)

theorem react_tables : (react s).tables = s.tables := react_keeps s .tables (by decide)
theorem react_inputs : (react s).inputs = s.inputs := react_keeps s .inputs (by decide)
theorem react_circ : (react s).circ = s.circ := react_keeps s .circ (by decide)
theorem react_pumpCtl : (react s).pumpCtl = s.pumpCtl := react_keeps s .pumpCtl (by decide)
theorem react_tracker : (react s).tracker = s.tracker := react_keeps s .tracker (by decide)
theorem react_mgmt : (react s).mgmt = s.mgmt := react_keeps s .mgmt (by decide)

/-- The kinds of the notices that the depth unit's tests can raise. -/
def NoticeKind.ofTests (k : NoticeKind) : Prop :=
  k = .bankFillMark ∨ k = .bankReady ∨ k = .banksExhausted ∨ k = .activity

theorem react_trunk : Trunk.Moved NoticeKind.ofTests false s.trunk (react s).trunk :=
  react_moved (.inl rfl) (.inr (.inl rfl)) (.inr (.inr (.inl rfl))) (.inr (.inr (.inr rfl))) .refl

theorem react_setpoints : (react s).trunk.setpoints = s.trunk.setpoints := (react_trunk s).setpoints_eq

theorem react_now : (react s).now = s.now := by
  unfold State.now
  rw [react_mgmt]

end React

/-- A notice of another kind stays announced through the depth unit's tests. -/
theorem notified.react {s t : State} {kind : NoticeKind} {subject : Nat} {value : Int}
    (h : notified s t kind subject value) (hk : kind.isUrgent = true ∨ ¬kind.ofTests) :
    notified s (react t) kind subject value := h.after (react_trunk t) hk

theorem Trunk.Moved.trans {K : NoticeKind → Prop} {P : Bool} {t u v : Trunk} (h : Trunk.Moved K P t u)
    (h' : Trunk.Moved K false u v) : Trunk.Moved K P t v := by
  induction h' with
  | refl => exact h
  | notice _ n hn ih => exact ih.notice n hn
  | setpoint _ hp => cases hp
  | zero _ hp => cases hp
  | drop _ hp => cases hp

/-! ### The cleared window (R26) -/

/-- The state with its window cleared and its next period begun, before the notice. -/
def State.windowEmptied (dropMean : Bool) (s : State) : State :=
  stateAfterLoad (restartMovementPeriod (beginPeriod (s.onCirc fun c =>
    { c.cleared with heldMean := if dropMean then none else c.heldMean })))

section Emptied

variable (dropMean : Bool) (s : State)

theorem State.windowEmptied_circ : (s.windowEmptied dropMean).circ = { s.circ with
    window := [], carryIn := 0, carryOut := 0, sumR := 0, sumIn := 0, sumOut := 0, flowing := 0, held := 0
    heldMean := if dropMean then none else s.circ.heldMean
    strokes1 := 0, strokes2 := 0, flowSum := 0, flowCount := 0, periodHeld := false
    pits := s.takePits
    periodDue := some (s.mgmt.clock + 1000 * s.settings.period)
    state := if s.anyRunning then .filling else .pumpsOff
    pumpsOffAt := if (if s.anyRunning then CircState.filling else .pumpsOff) = .pumpsOff ∧
        s.circ.state ≠ .pumpsOff ∧ s.circ.state ≠ .flowing then some s.mgmt.clock
      else s.circ.pumpsOffAt } := rfl

theorem State.windowEmptied_depth :
    (s.windowEmptied dropMean).depth = { s.depth with periodHead := some s.depth.head } := rfl

theorem State.windowEmptied_trunk : (s.windowEmptied dropMean).trunk = s.trunk := rfl

theorem State.windowEmptied_state :
    (s.windowEmptied dropMean).circ.state = if s.anyRunning then .filling else .pumpsOff := rfl

theorem clearByLoad_eq : clearByLoad dropMean s = notifyState s.circ.state 0 (s.windowEmptied dropMean) := rfl

/-- The notice of the state that a clearing leaves (R33). -/
theorem clearByLoad_cases :
    ((s.windowEmptied dropMean).circ.state = s.circ.state ∧ clearByLoad dropMean s = s.windowEmptied dropMean) ∨
    ((s.windowEmptied dropMean).circ.state ≠ s.circ.state ∧ clearByLoad dropMean s =
      (s.windowEmptied dropMean).raise .circulationState 0 (s.windowEmptied dropMean).circ.state.code) := by
  have hstate := s.windowEmptied_state dropMean
  rw [clearByLoad_eq]
  generalize s.windowEmptied dropMean = t at hstate
  unfold notifyState
  by_cases h : t.circ.state = s.circ.state
  · exact .inl ⟨h, if_pos h⟩
  · refine .inr ⟨h, (if_neg h).trans ?_⟩
    split at hstate <;> rw [hstate]

theorem clearByLoad_circ : (clearByLoad dropMean s).circ = (s.windowEmptied dropMean).circ := by
  rcases clearByLoad_cases dropMean s with ⟨-, he⟩ | ⟨-, he⟩ <;> rw [he]
  rfl

theorem clearByLoad_depth :
    (clearByLoad dropMean s).depth = { s.depth with periodHead := some s.depth.head } := by
  rcases clearByLoad_cases dropMean s with ⟨-, he⟩ | ⟨-, he⟩ <;> rw [he] <;> rfl

theorem clearByLoad_trunk :
    Trunk.Moved (· = .circulationState) false s.trunk (clearByLoad dropMean s).trunk := by
  rcases clearByLoad_cases dropMean s with ⟨-, he⟩ | ⟨-, he⟩ <;> rw [he]
  · exact .refl
  · exact raise_moved (K := (· = .circulationState)) (s := s.windowEmptied dropMean) rfl .refl

end Emptied

/-- The load of a row that has reached `u` clears the window, and the depth unit's tests end the event. -/
theorem windowCleared_of_load {s u : State} (dropMean : Bool)
    (hu : keepsAllBut [.tables, .inputs, .pumpCtl, .tracker, .trunk] s u)
    (hmoved : Trunk.Moved (fun _ => False) true s.trunk u.trunk) :
    windowCleared s (react (clearByLoad dropMean u)) := by
  have hcirc : u.circ = s.circ := hu .circ (by decide)
  have hmgmt : u.mgmt = s.mgmt := hu .mgmt (by decide)
  have hdepth : u.depth = s.depth := hu .depth (by decide)
  have hinputs : (react (clearByLoad dropMean u)).inputs = u.inputs :=
    (react_inputs _).trans (clearByLoad_keeps dropMean u .inputs (by decide))
  have htables : (react (clearByLoad dropMean u)).tables = u.tables :=
    (react_tables _).trans (clearByLoad_keeps dropMean u .tables (by decide))
  have hrunning : (react (clearByLoad dropMean u)).anyRunning = u.anyRunning := by
    unfold State.anyRunning State.running State.input
    rw [hinputs]
  have hperiod : (react (clearByLoad dropMean u)).settings.period = u.settings.period := by
    unfold State.settings
    rw [htables]
  have hc : (react (clearByLoad dropMean u)).circ = (u.windowEmptied dropMean).circ :=
    (react_circ _).trans (clearByLoad_circ dropMean u)
  have hpits : pitsTaken (react (clearByLoad dropMean u)) := by
    have htaken : (react (clearByLoad dropMean u)).takePits = u.takePits := by
      unfold State.takePits State.pitGood State.channel State.fresh State.smoothedOr0 State.input
      rw [hinputs, htables]
    intro k
    have hk : (react (clearByLoad dropMean u)).circ.pits = (react (clearByLoad dropMean u)).takePits := by
      rw [htaken, hc]
      rfl
    rw [hk]
    unfold State.takePits State.pitGood
    rw [Fin.getElem_fin, Vector.getElem_ofFn]
    simp only [Bool.and_eq_true]
  have htrunk : Trunk.Moved (fun k => k = .circulationState ∨ k.ofTests) true s.trunk
      (react (clearByLoad dropMean u)).trunk :=
    react_moved (.inr (.inl rfl)) (.inr (.inr (.inl rfl))) (.inr (.inr (.inr (.inl rfl))))
      (.inr (.inr (.inr (.inr rfl))))
      ((hmoved.mono fun _ => False.elim).trans ((clearByLoad_trunk dropMean u).mono fun _ => .inl))
  have hstate : (react (clearByLoad dropMean u)).circ.state = (u.windowEmptied dropMean).circ.state := by rw [hc]
  have hvalue := u.windowEmptied_state dropMean
  have hleft : keepsAllBut [.tables, .inputs, .circ, .pumpCtl, .tracker, .depth, .trunk] s
      (clearByLoad dropMean u) :=
    keepsAllBut_trans (keepsAllBut_mono hu (by simp)) (keepsAllBut_mono (clearByLoad_keeps dropMean u) (by simp))
  unfold windowCleared
  rw [hrunning, hperiod]
  refine ⟨by rw [hc]; rfl, by rw [hc]; rfl, by rw [hc]; rfl, by rw [hc]; rfl, by rw [hc]; rfl, by rw [hc]; rfl,
    by rw [hc]; rfl, by rw [hc]; rfl, by rw [hc]; rfl, by rw [hc]; rfl, by rw [hc]; rfl, by rw [hc]; rfl,
    by rw [hc]; rfl, hpits, by rw [hc, u.windowEmptied_circ, hmgmt], hstate.trans hvalue, ?_, fun hne => ?_,
    fun heq n hn hkind => ?_, fun n hn hkind => ?_, _, rfl, ?_, hleft⟩
  · rw [hc, u.windowEmptied_circ, hcirc, hmgmt]
    cases u.anyRunning <;> simp
  · rw [hstate] at hne ⊢
    rw [← hcirc] at hne
    rcases clearByLoad_cases dropMean u with ⟨heq, -⟩ | ⟨-, he⟩
    · exact absurd heq hne
    · rw [he]
      exact (State.raise_notified s (u.windowEmptied dropMean) _ _ _ (by
        unfold State.now
        rw [← hmgmt]
        rfl)).react (.inr (by simp [NoticeKind.ofTests]))
  · rw [hstate, ← hcirc] at heq
    have hquiet : (clearByLoad dropMean u).trunk = u.trunk := by
      rcases clearByLoad_cases dropMean u with ⟨-, he⟩ | ⟨hne, -⟩
      · rw [he, u.windowEmptied_trunk]
      · exact absurd heq hne
    have hbefore := (react_trunk (clearByLoad dropMean u)).mem_general hn (by
      rw [hkind]
      simp [NoticeKind.ofTests])
    rw [hquiet] at hbefore
    exact hmoved.mem_general hbefore id
  · exact htrunk.mem_urgent hn (by rcases hkind with hkind | hkind <;> simp [hkind, NoticeKind.ofTests])
  · rw [clearByLoad_depth, hdepth]

end Sys2Proof.Machine
end

section
/-! LOAD ROW of the Settings, the limits, the thresholds and the classes (R26, R34, R39, R60, R105, R167,
R176). -/

namespace Sys2Proof.Machine

/-! ### The reply of a load (R166) -/

theorem loadCode_eq {p q : Prop} [Decidable p] [Decidable q] (h : p ↔ ¬q) :
    loadCode (decide p) = if q then .done else .doneClamped := by
  unfold loadCode
  by_cases hq : q
  · rw [if_pos hq, decide_eq_false (fun hp => h.mp hp hq)]
    rfl
  · rw [if_neg hq, decide_eq_true (h.mpr hq)]
    rfl

theorem byte_eq_zero_iff (b : Byte) : b = 0 ↔ ¬1 ≤ b.toNat := by
  bv_omega

/-! ### Table 1, Settings (R26, R167) -/

section Settings

variable {h : ReqHeader} {row : Byte} {f : SettingsForm} {s : State}

theorem exec_loadRowSettings_of_ready {t : State} {a : Reply} (hs : s.ready)
    (hdo : doLoadSettings row.toNat f s = (t, a)) : exec (.loadRowSettings h row f) s = answers t h 3 a :=
  finish_serve_of_ready hs hdo

theorem doLoadSettings_of_row (hrow : row ≠ 0) : doLoadSettings row.toNat f s = (s, .plain .refusedUnknown) :=
  if_pos (not_not.mp fun hno => hrow ((byte_eq_zero_iff row).mpr hno))

theorem startModeOf_eq_none {b : Byte} (hone : b ≠ 1) (htwo : b ≠ 2) : startModeOf b = none := by
  unfold startModeOf
  split
  · next h => exact absurd (BitVec.eq_of_toNat_eq h) hone
  · next h => exact absurd (BitVec.eq_of_toNat_eq h) htwo
  · rfl

theorem startModeOf_eq_some {b : Byte} {m : Mode} (hcode : b.toNat = m.code)
    (hm : m = .monitor ∨ m = .supervised) : startModeOf b = some m := by
  unfold startModeOf
  rw [hcode]
  rcases hm with rfl | rfl <;> rfl

theorem doLoadSettings_of_mode {m : Mode} (hrow : row = 0) (hmode : startModeOf f.startMode = some m) :
    doLoadSettings row.toNat f s = (storeSettings (settingsLoaded f m).inRange s,
      .plain (loadCode (decide ((settingsLoaded f m).inRange ≠ settingsLoaded f m)))) := by
  rw [doLoadSettings, if_neg ((byte_eq_zero_iff row).mp hrow), hmode]

theorem doLoadSettings_of_noMode (hrow : row = 0) (hmode : startModeOf f.startMode = none) :
    doLoadSettings row.toNat f s = (s, .plain .refusedValue) := by
  rw [doLoadSettings, if_neg ((byte_eq_zero_iff row).mp hrow), hmode]
  rfl

theorem storeSettings_tables (r : Settings) (s : State) :
    (storeSettings r s).tables = { s.tables with settings := r } := by
  unfold storeSettings
  dsimp only
  split
  · rfl
  · rw [react_tables, clearByLoad_keeps _ _ .tables (by decide)]
    rfl

theorem storeSettings_of_same {r : Settings} (hperiod : r.period = s.settings.period)
    (hwindow : r.window = s.settings.window) :
    storeSettings r s = { s with tables := { s.tables with settings := r } } := if_pos ⟨hperiod, hwindow⟩

theorem storeSettings_of_change {r : Settings} (hchange : r.period ≠ s.settings.period ∨
    r.window ≠ s.settings.window) :
    storeSettings r s = react (clearByLoad false (s.onTables fun t => { t with settings := r })) :=
  if_neg fun hsame => hchange.elim (absurd hsame.1) (absurd hsame.2)

theorem storeSettings_clears {r : Settings} (hchange : r.period ≠ s.settings.period ∨
    r.window ≠ s.settings.window) : windowCleared s (storeSettings r s) ∧
      (storeSettings r s).circ.heldMean = s.circ.heldMean ∧
      keepsAllBut [.tables, .circ, .depth, .recorder, .banks, .billing, .trunk] s (storeSettings r s) := by
  rw [storeSettings_of_change hchange]
  refine ⟨windowCleared_of_load false (by simp) .refl, ?_, by simp⟩
  rw [react_circ, clearByLoad_circ]
  rfl

end Settings

/-- Settles O15: the stored row is the loaded one in range, and only a change of P or W clears the
window. -/
theorem loadSettingsStoresTheRowInRange : Obligations.LoadSettingsStoresTheRowInRange := by
  intro h row f s hs
  refine ⟨fun hrow => exec_loadRowSettings_of_ready hs (doLoadSettings_of_row hrow),
    fun hrow hone htwo => exec_loadRowSettings_of_ready hs
      (doLoadSettings_of_noMode hrow (startModeOf_eq_none hone htwo)),
    fun m hrow hcode hm => ?_⟩
  intro r
  have hr : (settingsLoaded f m).inRange = r := by
    simp [Settings.inRange, settingsLoaded, clampN, r]
  have hexec := exec_loadRowSettings_of_ready (h := h) hs
    (doLoadSettings_of_mode hrow (startModeOf_eq_some hcode hm))
  rw [hr, loadCode_eq (q := r.trunk = f.trunk.toNat ∧ r.period = f.period.toNat ∧ r.window = f.window.toNat ∧
    r.settle = f.settle.toNat ∧ r.step = f.step.toNat ∧ r.fillMark = f.fillMark.toNat ∧
    r.ticketBit = f.ticketBit.toNat ∧ r.flowback = f.flowback.toNat ∧ r.noiseFloor = f.noiseFloor.toNat)
    (not_congr (by simp [settingsLoaded, Settings.mk.injEq, r]))] at hexec
  exact ⟨storeSettings r s, hexec, storeSettings_tables r s, storeSettings_of_same, storeSettings_clears⟩

end Sys2Proof.Machine
end

section
/-! LOAD ROW of tables 4, 5 and 6 (R34, R39, R60, R105, R176). -/

namespace Sys2Proof.Machine

/-! ### Table 4, Interlock Limits (R39, R60) -/

section Limits

variable {h : ReqHeader} {row : Byte} {f : LimitsForm} {s : State}

theorem exec_loadRowInterlockLimits_of_ready {t : State} {a : Reply} (hs : s.ready)
    (hdo : doLoadLimits row.toNat f s = (t, a)) : exec (.loadRowInterlockLimits h row f) s = answers t h 3 a :=
  finish_serve_of_ready hs hdo

theorem State.handlerFits_iff (s : State) (node : Nat) : s.handlerFits node = true ↔
    node ≤ 62 ∧ (node = 0 ∨ ∀ p : PumpId, node ≠ (s.tables.pumps[p]).node) := by
  rw [Fin.forall_fin_two]
  simp [State.handlerFits, State.pumpRow]

theorem doLoadLimits_of_row (hrow : row ≠ 0) : doLoadLimits row.toNat f s = (s, .plain .refusedUnknown) :=
  if_pos (not_not.mp fun hno => hrow ((byte_eq_zero_iff row).mpr hno))

theorem doLoadLimits_of_fits (hrow : row = 0) (hfits : s.handlerFits f.handler.toNat = true) :
    doLoadLimits row.toNat f s = (storeLimits (limitsLoaded f).inRange s,
      .plain (loadCode (decide ((limitsLoaded f).inRange ≠ limitsLoaded f)))) := by
  rw [doLoadLimits, if_neg ((byte_eq_zero_iff row).mp hrow)]
  exact if_pos hfits

theorem doLoadLimits_of_not (hrow : row = 0) (hfits : ¬s.handlerFits f.handler.toNat = true) :
    doLoadLimits row.toNat f s = (s, .plain .refusedValue) := by
  rw [doLoadLimits, if_neg ((byte_eq_zero_iff row).mp hrow)]
  exact if_neg hfits

/-- The state with the limits stored, before the depth unit's tests. -/
def State.limitsStored (r : Limits) (s : State) : State :=
  if r.handler = s.limits.handler then s.onTables fun t => { t with limits := r }
  else clearCommand (s.onTables fun t => { t with limits := r })

theorem storeLimits_eq (r : Limits) (s : State) : storeLimits r s = react (s.limitsStored r) := rfl

theorem State.limitsStored_keeps (r : Limits) (s : State) : keepsAllBut [.tables, .tracker] s (s.limitsStored r) := by
  unfold State.limitsStored
  split <;> simp

theorem State.limitsStored_tables (r : Limits) (s : State) :
    (s.limitsStored r).tables = { s.tables with limits := r } := by
  unfold State.limitsStored
  split <;> rfl

theorem State.limitsStored_tracker (r : Limits) (s : State) : (s.limitsStored r).tracker = { s.tracker with
    command := if r.handler = s.tables.limits.handler then s.tracker.command else none } := by
  unfold State.limitsStored
  split
  · next h =>
    rw [if_pos (by exact h)]
    rfl
  · next h =>
    rw [if_neg (by exact h)]
    rfl

end Limits

/-! ### Tables 5 and 6 (R34, R105, R176) -/

theorem setIfInBounds_fin {α : Type} {n : Nat} (v : Vector α n) (i : Fin n) (a : α) :
    v.setIfInBounds i a = v.set i a := by
  simp [Vector.setIfInBounds, Vector.set, Array.setIfInBounds]

section Rows

variable {h : ReqHeader} {row : Byte} {s : State}

theorem exec_loadRowCirculationThresholds_of_ready {f : ThresholdForm} {t : State} {a : Reply} (hs : s.ready)
    (hdo : doLoadThresholds row.toNat f s = (t, a)) :
    exec (.loadRowCirculationThresholds h row f) s = answers t h 3 a := finish_serve_of_ready hs hdo

theorem exec_loadRowStrataClassTable_of_ready {f : ClassForm} {t : State} {a : Reply} (hs : s.ready)
    (hdo : doLoadClass row.toNat f s = (t, a)) :
    exec (.loadRowStrataClassTable h row f) s = answers t h 3 a := finish_serve_of_ready hs hdo

theorem doLoadThresholds_of_row {f : ThresholdForm} (hrow : 15 < row.toNat) :
    doLoadThresholds row.toNat f s = (s, .plain .refusedUnknown) := if_neg (by omega)

theorem doLoadClass_of_row {f : ClassForm} (hrow : 15 < row.toNat) :
    doLoadClass row.toNat f s = (s, .plain .refusedUnknown) := if_neg (by omega)

theorem doLoadThresholds_of_index {f : ThresholdForm} {n : Nat} {i : Fin 16} (hrow : n = i.val) :
    doLoadThresholds n f s = ({ s with tables := { s.tables with
        thresholds := s.tables.thresholds.set i (thresholdsLoaded f).inRange } },
      .plain (loadCode (decide ((thresholdsLoaded f).inRange ≠ thresholdsLoaded f)))) := by
  subst hrow
  rw [doLoadThresholds, if_pos i.isLt]
  dsimp only [State.onTables]
  rw [setIfInBounds_fin]

theorem doLoadClass_of_index {f : ClassForm} {n : Nat} {i : Fin 16} (hrow : n = i.val) :
    doLoadClass n f s = ({ s with tables := { s.tables with
        classes := s.tables.classes.set i (classStored f) } }, .plain (loadCode (classChanged f))) := by
  subst hrow
  rw [doLoadClass, if_pos i.isLt]
  dsimp only [State.onTables]
  rw [setIfInBounds_fin]

end Rows

/-- Settles O18: the rows of the three tables in range, and the depth unit's tests after the limits. -/
theorem loadLimitsThresholdsAndClasses : Obligations.LoadLimitsThresholdsAndClasses := by
  refine ⟨fun h row f s hs => ⟨fun hrow => exec_loadRowInterlockLimits_of_ready hs (doLoadLimits_of_row hrow),
      fun hrow hbad => exec_loadRowInterlockLimits_of_ready hs (doLoadLimits_of_not hrow fun hfits => ?_),
      fun hrow hnode happart => ?_⟩,
    fun h row th cl s hs => ⟨fun hrow => ⟨exec_loadRowCirculationThresholds_of_ready hs
        (doLoadThresholds_of_row hrow), exec_loadRowStrataClassTable_of_ready hs (doLoadClass_of_row hrow)⟩,
      fun i hrow => ?_⟩⟩
  · obtain ⟨hnode, happart⟩ := (s.handlerFits_iff _).mp hfits
    rcases hbad with hbad | ⟨hne, p, hp⟩
    · exact hnode.not_gt hbad
    · exact happart.elim (fun hzero => hne (BitVec.eq_of_toNat_eq hzero)) fun happart => happart p hp
  · intro trip r
    have hr : (limitsLoaded f).inRange = r := by
      simp [Limits.inRange, limitsLoaded, clampN, r, trip]
    have hexec := exec_loadRowInterlockLimits_of_ready (h := h) hs (doLoadLimits_of_fits hrow
      ((s.handlerFits_iff _).mpr ⟨hnode, happart.imp_left (congrArg BitVec.toNat)⟩))
    rw [hr, loadCode_eq (q := r.trip = f.trip.toNat ∧ r.hysteresis = f.hysteresis.toNat ∧
      r.warn = f.warn.toNat ∧ r.bleed = f.bleed.toNat ∧ r.stop = f.stop.toNat ∧ r.wob = f.wob.toNat ∧
      r.distance = f.distance.toNat ∧ r.timeout = f.timeout.toNat)
      (not_congr (by simp [limitsLoaded, Limits.mk.injEq, r]))] at hexec
    refine ⟨storeLimits r s, hexec, ?_, ?_, ⟨s.limitsStored r, s.limitsStored_keeps r, storeLimits_eq r s⟩,
      storeLimits_keeps r s⟩
    · rw [storeLimits_eq, react_tables, s.limitsStored_tables]
    · rw [storeLimits_eq, react_tracker, s.limitsStored_tracker]
  · intro lossWatch gainWatch r k
    have hr : (thresholdsLoaded th).inRange = r := by
      simp [Thresholds.inRange, thresholdsLoaded, clampN, r, lossWatch, gainWatch]
    have hk : classStored cl = k := by
      simp [classStored, yesNo, k, BitVec.setWidth_and, min_comm]
    have hthresholds := exec_loadRowCirculationThresholds_of_ready (h := h) hs
      (doLoadThresholds_of_index (f := th) hrow)
    have hclass := exec_loadRowStrataClassTable_of_ready (h := h) hs (doLoadClass_of_index (f := cl) hrow)
    rw [hr, loadCode_eq (q := r.lossWatch = th.lossWatch.toNat ∧ r.lossLevel = th.lossLevel.toNat ∧
      r.gainWatch = th.gainWatch.toNat ∧ r.gainLevel = th.gainLevel.toNat ∧ r.ratio = th.ratio.toNat)
      (not_congr (by simp [thresholdsLoaded, Thresholds.mk.injEq, r]))] at hthresholds
    have hchanged : classChanged cl = decide (¬(k.code = cl.code.toNat ∧ k.piHigh = cl.piHigh.toNat ∧
        k.trHigh = cl.trHigh.toNat ∧ k.mask.toNat = cl.mask.toNat ∧ k.value.toNat = cl.value.toNat)) := by
      rw [Bool.eq_iff_iff]
      simp [classChanged, hk, or_assoc]
    rw [hk, hchanged, loadCode_eq Iff.rfl] at hclass
    exact ⟨hthresholds, hclass⟩

end Sys2Proof.Machine
end

section
/-! LOAD ROW of table 2, the Channel Map (R3 to R5, R26). -/

namespace Sys2Proof.Machine

theorem feedsBalance_iff : ∀ i : InputId, feedsBalance i = true ↔ i.val ∈ [5, 6, 7, 9, 10, 11, 12] := by
  decide

theorem clearByLoad_heldMean (dropMean : Bool) (u : State) :
    (clearByLoad dropMean u).circ.heldMean = if dropMean = true then none else u.circ.heldMean := by
  rw [clearByLoad_circ]
  cases dropMean <;> rfl

section Channel

variable {h : ReqHeader} {row : Byte} {f : ChannelForm} {s : State} {i : InputId}

theorem exec_loadRowChannelMap_of_ready {t : State} {a : Reply} (hs : s.ready)
    (hdo : doLoadChannel row.toNat f s = (t, a)) : exec (.loadRowChannelMap h row f) s = answers t h 3 a :=
  finish_serve_of_ready hs hdo

theorem doLoadChannel_of_row (hrow : 12 < row.toNat) :
    doLoadChannel row.toNat f s = (s, .plain .refusedUnknown) := dif_neg (by omega)

theorem doLoadChannel_of_fits {n : Nat} (hrow : n = i.val) (hfits : s.channelFits i (channelLoaded f) = true) :
    doLoadChannel n f s = (storeChannel i ((channelLoaded f).inRange i) s,
      .plain (loadCode (decide ((channelLoaded f).inRange i ≠ channelLoaded f)))) := by
  subst hrow
  exact (dif_pos i.isLt).trans (if_pos hfits)

theorem doLoadChannel_of_not {n : Nat} (hrow : n = i.val)
    (hfits : ¬s.channelFits i (channelLoaded f) = true) : doLoadChannel n f s = (s, .plain .refusedValue) := by
  subst hrow
  exact (dif_pos i.isLt).trans (if_neg hfits)

theorem byte_toNat_eq_iff {b : Byte} {n : Nat} (hn : n < 256) : b.toNat = n ↔ b = BitVec.ofNat 8 n := by
  rw [← BitVec.toNat_inj, BitVec.toNat_ofNat, Nat.mod_eq_of_lt hn]

/-- The identity a row of the Channel Map may have (R3). -/
theorem State.channelFits_iff : s.channelFits i (channelLoaded f) = true ↔
    (1 ≤ f.node.toNat ∧ f.node.toNat ≤ 62) ∧ (f.kind = 1 ∨ f.kind = 2) ∧ f.channel.toNat ≤ 15 ∧
    (f.enabled = 0 ∨ ∀ j : InputId, j ≠ i → (s.tables.channels[j]).enabled = true →
      ¬((s.tables.channels[j]).node = f.node.toNat ∧ (s.tables.channels[j]).kind = f.kind.toNat ∧
        (s.tables.channels[j]).channel = f.channel.toNat)) := by
  unfold State.channelFits
  simp only [Bool.and_eq_true, decide_eq_true_iff, and_assoc]
  simp [channelLoaded, State.channel, ChannelRow.sameStream, yesNo, byte_toNat_eq_iff]

/-- The state with the row stored and its input in the load state (R5). -/
def State.channelStored (i : InputId) (r : ChannelRow) (s : State) : State :=
  (s.onTables fun t => { t with channels := t.channels.set i r }).onInput i fun _ => Input.afterLoad

theorem State.channelStored_keeps (r : ChannelRow) :
    keepsAllBut [.tables, .inputs] s (s.channelStored i r) := by
  unfold State.channelStored
  simp

theorem State.channelStored_trunk (r : ChannelRow) : (s.channelStored i r).trunk = s.trunk := rfl

theorem State.channelStored_circ (r : ChannelRow) : (s.channelStored i r).circ = s.circ := rfl

theorem storeChannel_feeding (r : ChannelRow) (hfeeds : feedsBalance i = true) :
    storeChannel i r s = react (clearByLoad (i == inFlowOut) (s.channelStored i r)) :=
  congrArg react (if_pos hfeeds)

theorem storeChannel_notFeeding (r : ChannelRow) (hfeeds : ¬feedsBalance i = true) :
    storeChannel i r s = react (s.channelStored i r) := congrArg react (if_neg hfeeds)

theorem storeChannel_tables (r : ChannelRow) :
    (storeChannel i r s).tables = { s.tables with channels := s.tables.channels.set i r } := by
  by_cases hfeeds : feedsBalance i = true
  · rw [storeChannel_feeding r hfeeds, react_tables, clearByLoad_keeps _ _ .tables (by decide)]
    rfl
  · rw [storeChannel_notFeeding r hfeeds, react_tables]
    rfl

theorem storeChannel_inputs (r : ChannelRow) :
    (storeChannel i r s).inputs = s.inputs.set i { Input.afterReset with historyDropped := true } := by
  by_cases hfeeds : feedsBalance i = true
  · rw [storeChannel_feeding r hfeeds, react_inputs, clearByLoad_keeps _ _ .inputs (by decide)]
    rfl
  · rw [storeChannel_notFeeding r hfeeds, react_inputs]
    rfl

theorem storeChannel_clears (r : ChannelRow) (hfeeds : feedsBalance i = true) :
    windowCleared s (storeChannel i r s) ∧
      (storeChannel i r s).circ.heldMean = if i = inFlowOut then none else s.circ.heldMean := by
  rw [storeChannel_feeding r hfeeds]
  refine ⟨windowCleared_of_load _ (keepsAllBut_mono (State.channelStored_keeps r) (by simp)) .refl, ?_⟩
  rw [react_circ, clearByLoad_heldMean, State.channelStored_circ]
  simp

end Channel

/-- Settles O16: the identity is judged first, then the row in range is stored, and an input that feeds the
balance clears the window. -/
theorem loadChannelMapStoresTheRowAndResetsTheInput :
    Obligations.LoadChannelMapStoresTheRowAndResetsTheInput := by
  intro h row f s hs
  refine ⟨fun hrow => exec_loadRowChannelMap_of_ready hs (doLoadChannel_of_row hrow), fun i hrow =>
    ⟨fun hbad => exec_loadRowChannelMap_of_ready hs (doLoadChannel_of_not hrow fun hfits => ?_),
      fun hlow hhigh hkind hchannel hfree => ?_⟩⟩
  · obtain ⟨hnode, hkind, hchannel, hfree⟩ := State.channelFits_iff.mp hfits
    rcases hbad with hbad | hbad | hbad | ⟨hon, j, hj, hen, hsame⟩
    · exact hbad hnode
    · exact hbad hkind
    · exact hchannel.not_gt hbad
    · exact hfree.elim hon fun hfree => hfree j hj hen hsame
  · intro low r
    have hr : (channelLoaded f).inRange i = r := by
      simp [ChannelRow.inRange, channelLoaded, clampZ, clampN, depthStored, auxStored, yesNo, bvInt_eq_toInt,
        r, low, inHeadPos]
    have hexec := exec_loadRowChannelMap_of_ready (h := h) hs (doLoadChannel_of_fits hrow
      (State.channelFits_iff.mpr ⟨⟨hlow, hhigh⟩, hkind, hchannel, hfree⟩))
    rw [hr, loadCode_eq (q := r.offset = f.offset.toInt ∧ r.low = f.low.toInt ∧ r.high = f.high.toInt ∧
      r.depth = f.depth.toNat ∧ r.stale = f.stale.toNat ∧ r.aux = f.aux.toNat)
      (not_congr (by simp [channelLoaded, ChannelRow.mk.injEq, r, yesNo, bvInt_eq_toInt]))] at hexec
    refine ⟨storeChannel i r s, hexec, storeChannel_tables r, storeChannel_inputs r, storeChannel_keeps i r s,
      fun hmem => storeChannel_clears r ((feedsBalance_iff i).mpr hmem), fun hmem => ?_⟩
    have hfeeds : ¬feedsBalance i = true := fun hno => hmem ((feedsBalance_iff i).mp hno)
    rw [storeChannel_notFeeding r hfeeds]
    exact ⟨react_circ _, s.channelStored i r, State.channelStored_keeps r, rfl⟩

end Sys2Proof.Machine
end

section
/-! LOAD ROW of table 3, the Pump Table (R26, R38, R158). -/

namespace Sys2Proof.Machine

/-! ### A pump's record after its rates change (R41) -/

section ChangeRates

variable {p : PumpId} {requested commanded : Nat} {s : State}

theorem getElem_set_self_fin {α : Type} {n : Nat} (v : Vector α n) (i : Fin n) (a : α) : (v.set i a)[i] = a := by
  simp

theorem set_set_fin {α : Type} {n : Nat} (v : Vector α n) (i : Fin n) (a b : α) :
    (v.set i a).set i b = v.set i b := by
  simp [Vector.set]

theorem State.onPump_congr {f g : Pump → Pump} (hfg : f (s.pump p) = g (s.pump p)) :
    s.onPump p f = s.onPump p g :=
  congrArg (fun u => s.onPumpCtl fun c => { c with pumps := c.pumps.set p u }) hfg

theorem State.onPump_onPump (f g : Pump → Pump) : (s.onPump p f).onPump p g = s.onPump p fun u => g (f u) := by
  unfold State.onPump State.onPumpCtl
  dsimp only
  rw [set_set_fin, getElem_set_self_fin]

theorem State.queueSetpoint_onPump (f : Pump → Pump) (v : Nat) : (s.onPump p f).queueSetpoint p v =
    (s.onTrunk fun t => t.queueSetpoint ⟨(s.pumpRow p).node, v, s.trunkAddr⟩).onPump p
      fun u => { f u with nodeRate := some v } :=
  State.onPump_onPump (s := s.onTrunk fun t => t.queueSetpoint ⟨(s.pumpRow p).node, v, s.trunkAddr⟩) f _

/-- A pump at the rates given, with the control state that follows from them. -/
def State.atRates (s : State) (requested commanded : Nat) (u : Pump) : Pump :=
  { u with
    requested := requested
    commanded := commanded
    control := if s.heldAtZero then .forcedOff else controlOf requested commanded s.riseHeld }

theorem changeRates_of_queued (hcommanding : s.commanding = true) (hne : commanded ≠ (s.pump p).commanded) :
    changeRates p requested commanded s =
      (s.onTrunk fun t => t.queueSetpoint ⟨(s.pumpRow p).node, commanded, s.trunkAddr⟩).onPump p
        fun u => { s.atRates requested commanded u with nodeRate := some commanded } :=
  (if_pos ⟨hcommanding, hne⟩).trans (State.queueSetpoint_onPump (s.atRates requested commanded) commanded)

theorem changeRates_of_not (h : s.commanding = false ∨ commanded = (s.pump p).commanded) :
    changeRates p requested commanded s = s.onPump p (s.atRates requested commanded) :=
  if_neg fun hboth => h.elim (fun hno => absurd hboth.1 (by simp [hno])) fun heq => hboth.2 heq

variable {g : Pump → Pump}

theorem State.onPump_pump_self : (s.onPump p g).pump p = g (s.pump p) := getElem_set_self_fin _ _ _

theorem changeRates_onPump_of_queued (hcommanding : s.commanding = true)
    (hne : commanded ≠ (g (s.pump p)).commanded) : changeRates p requested commanded (s.onPump p g) =
      (s.onTrunk fun t => t.queueSetpoint ⟨(s.pumpRow p).node, commanded, s.trunkAddr⟩).onPump p
        fun u => { s.atRates requested commanded (g u) with nodeRate := some commanded } :=
  (changeRates_of_queued (s := s.onPump p g) hcommanding (by rwa [State.onPump_pump_self])).trans
    (State.onPump_onPump (s := s.onTrunk fun t =>
      t.queueSetpoint ⟨(s.pumpRow p).node, commanded, s.trunkAddr⟩) g _)

theorem changeRates_onPump_of_not (h : s.commanding = false ∨ commanded = (g (s.pump p)).commanded) :
    changeRates p requested commanded (s.onPump p g) =
      s.onPump p fun u => s.atRates requested commanded (g u) :=
  (changeRates_of_not (s := s.onPump p g) (by rwa [State.onPump_pump_self])).trans (State.onPump_onPump g _)

end ChangeRates

/-! ### The row and its pump (R38) -/

section PumpTable

variable {h : ReqHeader} {row : Byte} {f : PumpForm} {s : State} {p : PumpId}

theorem exec_loadRowPumpTable_of_ready {t : State} {a : Reply} (hs : s.ready)
    (hdo : doLoadPump row.toNat f s = (t, a)) : exec (.loadRowPumpTable h row f) s = answers t h 3 a :=
  finish_serve_of_ready hs hdo

theorem doLoadPump_of_row (hrow : 1 < row.toNat) : doLoadPump row.toNat f s = (s, .plain .refusedUnknown) :=
  dif_neg (by omega)

theorem doLoadPump_of_fits {n : Nat} (hrow : n = p.val) (hfits : s.pumpNodeFits p (pumpLoaded f).node = true) :
    doLoadPump n f s = (storePump p (pumpLoaded f).inRange s,
      .plain (loadCode (decide ((pumpLoaded f).inRange ≠ pumpLoaded f)))) := by
  subst hrow
  exact (dif_pos p.isLt).trans (if_pos hfits)

theorem doLoadPump_of_not {n : Nat} (hrow : n = p.val) (hfits : ¬s.pumpNodeFits p (pumpLoaded f).node = true) :
    doLoadPump n f s = (s, .plain .refusedValue) := by
  subst hrow
  exact (dif_pos p.isLt).trans (if_neg hfits)

theorem otherPump_eq : ∀ p : PumpId, otherPump p = 1 - p := by
  decide

theorem State.pumpNodeFits_iff : s.pumpNodeFits p (pumpLoaded f).node = true ↔
    f.node.toNat ≤ 62 ∧ (f.node = 0 ∨ f.node.toNat ≠ (s.tables.pumps[1 - p]).node ∧
      f.node.toNat ≠ s.tables.limits.handler) := by
  have hzero : f.node = 0 ↔ f.node.toNat = 0 := by bv_omega
  rw [State.pumpNodeFits, otherPump_eq, hzero, Bool.and_eq_true, decide_eq_true_iff]
  simp [pumpLoaded, State.pumpRow, State.limits]

/-- The state with the row of pump `p` stored. -/
def State.pumpStored (p : PumpId) (r : PumpRow) (s : State) : State :=
  s.onTables fun t => { t with pumps := t.pumps.set p r }

theorem State.pumpStored_pumpRow (r : PumpRow) : (s.pumpStored p r).pumpRow p = r :=
  getElem_set_self_fin _ _ _

theorem State.pumpStored_used (r : PumpRow) : (s.pumpStored p r).used p = (r.node != 0) := by
  rw [State.used, State.pumpStored_pumpRow]

theorem storePump_eq (r : PumpRow) :
    storePump p r s = react (clearByLoad false (onPumpRow p (s.pumpRow p).node (s.pumpStored p r))) := rfl

theorem State.pumpStored_keeps (r : PumpRow) :
    keepsAllBut [.tables, .pumpCtl, .trunk] s (onPumpRow p (s.pumpRow p).node (s.pumpStored p r)) := by
  unfold State.pumpStored
  simp

theorem storePump_tables (r : PumpRow) :
    (storePump p r s).tables = { s.tables with pumps := s.tables.pumps.set p r } := by
  rw [storePump_eq, react_tables, clearByLoad_keeps _ _ .tables (by decide),
    onPumpRow_keeps _ _ _ .tables (by decide)]
  rfl

theorem storePump_clears (r : PumpRow) : windowCleared s (storePump p r s) ∧
    (storePump p r s).circ.heldMean = s.circ.heldMean := by
  rw [storePump_eq]
  refine ⟨windowCleared_of_load false (keepsAllBut_mono (State.pumpStored_keeps r) (by simp))
    (onPumpRow_moved .refl), ?_⟩
  rw [react_circ, clearByLoad_heldMean, State.pumpStored_keeps r .circ (by decide)]
  rfl

theorem storePump_pumpCtl (r : PumpRow) : (storePump p r s).pumpCtl =
    (onPumpRow p (s.pumpRow p).node (s.pumpStored p r)).pumpCtl := by
  rw [storePump_eq, react_pumpCtl, clearByLoad_keeps _ _ .pumpCtl (by decide)]

theorem storePump_setpoints (r : PumpRow) : (storePump p r s).trunk.setpoints =
    (onPumpRow p (s.pumpRow p).node (s.pumpStored p r)).trunk.setpoints := by
  rw [storePump_eq, react_setpoints, (clearByLoad_trunk _ _).setpoints_eq]

variable {r : PumpRow}

theorem onPumpRow_of_changed (hnode : r.node ≠ (s.pumpRow p).node) :
    onPumpRow p (s.pumpRow p).node (s.pumpStored p r) = pumpNodeChanged p (s.pumpRow p).node (s.pumpStored p r) := by
  rw [onPumpRow, State.pumpStored_pumpRow, if_neg hnode]

theorem onPumpRow_of_same (hnode : r.node = (s.pumpRow p).node) :
    onPumpRow p (s.pumpRow p).node (s.pumpStored p r) = pumpMaxLowered p (s.pumpStored p r) := by
  rw [onPumpRow, State.pumpStored_pumpRow, if_pos hnode]

theorem pumpMaxLowered_of_within (hrequested : (s.pump p).requested ≤ r.maxRate)
    (hcommanded : (s.pump p).commanded ≤ r.maxRate) :
    pumpMaxLowered p (s.pumpStored p r) = s.pumpStored p r := by
  rw [pumpMaxLowered, State.pumpStored_pumpRow]
  exact if_neg fun h => h.elim hrequested.not_gt hcommanded.not_gt

theorem pumpMaxLowered_of_above (hrequested : r.maxRate < (s.pump p).requested) :
    pumpMaxLowered p (s.pumpStored p r) = changeRates p r.maxRate (min (s.pump p).commanded r.maxRate)
      ((s.pumpStored p r).onPump p fun u => { u with saturated := true }) := by
  rw [pumpMaxLowered, State.pumpStored_pumpRow]
  refine (if_pos (Or.inl hrequested)).trans ?_
  have hpump : (s.pumpStored p r).pump p = s.pump p := rfl
  rw [hpump, min_eq_right hrequested.le]
  refine congrArg (changeRates p _ _) (State.onPump_congr ?_)
  simp [hpump, hrequested]

/-- The pump of a row whose node has changed (R38). -/
def State.nodeChanged (r : PumpRow) (s : State) (u : Pump) : Pump := { u with
  requested := 0, commanded := 0, notFollowing := 0, saturated := false, nodeRate := none,
  control := if r.node ≠ 0 ∧ s.heldAtZero = true then .forcedOff else .stopped }

theorem pumpNodeChanged_stored (node : Nat) : pumpNodeChanged p node (s.pumpStored p r) =
    ((s.pumpStored p r).onTrunk fun t => t.dropSetpoint node).onPump p (s.nodeChanged r) := by
  refine State.onPump_congr ?_
  have hheld : (s.pumpStored p r).heldAtZero = s.heldAtZero := rfl
  rw [State.pumpStored_used, hheld]
  simp [State.nodeChanged, Pump.atZero]

/-- The pump of a row that has taken its requested rate to the new max rate (R38). -/
def State.maxLowered (r : PumpRow) (s : State) (u : Pump) : Pump := { u with
  requested := r.maxRate, commanded := min u.commanded r.maxRate, saturated := true,
  control := if s.heldAtZero = true then .forcedOff else if r.maxRate ≤ u.commanded then .steady
    else if s.riseHeld = true then .rampHeld else .ramping }

theorem controlOf_lowered {c m : Nat} {held : Bool} (hm : 0 < m) : controlOf m (min c m) held =
    if m ≤ c then .steady else if held = true then .rampHeld else .ramping := by
  rcases le_or_gt m c with h | h
  · simp [controlOf, hm.ne', h]
  · simp [controlOf, hm.ne', h, h.le, h.not_ge]

theorem atRates_lowered (hm : 0 < r.maxRate) : (s.atRates r.maxRate (min (s.pump p).commanded r.maxRate)
    { s.pump p with saturated := true }) = s.maxLowered r (s.pump p) := by
  simp [State.atRates, State.maxLowered, controlOf_lowered hm]

variable (hm : 0 < r.maxRate) (hrequested : r.maxRate < (s.pump p).requested)
include hm hrequested

theorem pumpMaxLowered_queued (hcommanding : s.commanding = true) (habove : r.maxRate < (s.pump p).commanded) :
    pumpMaxLowered p (s.pumpStored p r) =
      ((s.pumpStored p r).onTrunk fun t => t.queueSetpoint ⟨r.node, r.maxRate, s.trunkAddr⟩).onPump p
        fun u => { s.maxLowered r u with nodeRate := some r.maxRate } := by
  have hmin := min_eq_right habove.le
  have hrates := atRates_lowered (s := s) (p := p) hm
  rw [hmin] at hrates
  rw [pumpMaxLowered_of_above hrequested, hmin, changeRates_onPump_of_queued (by exact hcommanding)
    (by exact habove.ne), State.pumpStored_pumpRow]
  exact State.onPump_congr (congrArg (fun u : Pump => { u with nodeRate := some r.maxRate }) hrates)

theorem pumpMaxLowered_plain (h : s.commanding = false ∨ (s.pump p).commanded ≤ r.maxRate) :
    pumpMaxLowered p (s.pumpStored p r) = (s.pumpStored p r).onPump p (s.maxLowered r) := by
  rw [pumpMaxLowered_of_above hrequested, changeRates_onPump_of_not (by exact h.imp_right min_eq_left)]
  exact State.onPump_congr (atRates_lowered hm)

end PumpTable

/-- Settles O17: the row in range clears the window, and its pump is reset where the node changes and
lowered to the max rate where it stands. -/
theorem loadPumpTableStoresTheRowAndBoundsThePump : Obligations.LoadPumpTableStoresTheRowAndBoundsThePump := by
  intro h row f s hs
  refine ⟨fun hrow => exec_loadRowPumpTable_of_ready hs (doLoadPump_of_row hrow), fun p hrow =>
    ⟨fun hbad => exec_loadRowPumpTable_of_ready hs (doLoadPump_of_not hrow fun hfits => ?_),
      fun hnode hfree => ?_⟩⟩
  · obtain ⟨hnode, hfree⟩ := State.pumpNodeFits_iff.mp hfits
    rcases hbad with hbad | ⟨hne, hbad⟩
    · exact hnode.not_gt hbad
    · exact hfree.elim hne fun ⟨hother, hhandler⟩ => hbad.elim hother hhandler
  · intro r u held
    have hr : (pumpLoaded f).inRange = r := by
      have hbyte : f.plausibility.toNat ≤ 255 := by omega
      simp [PumpRow.inRange, pumpLoaded, clampN, r, hbyte]
    have hexec := exec_loadRowPumpTable_of_ready (h := h) hs
      (doLoadPump_of_fits hrow (State.pumpNodeFits_iff.mpr ⟨hnode, hfree⟩))
    rw [hr, loadCode_eq (q := r.displacement = f.displacement.toNat ∧ r.efficiency = f.efficiency.toNat ∧
      r.maxRate = f.maxRate.toNat ∧ r.rampRate = f.rampRate.toNat ∧ r.plausibility = f.plausibility.toNat)
      (not_congr (by simp [pumpLoaded, PumpRow.mk.injEq, r]))] at hexec
    have hm : 0 < r.maxRate := by simp [r]
    refine ⟨storePump p r s, hexec, storePump_tables r, (storePump_clears r).1, (storePump_clears r).2,
      storePump_keeps p r s, ?_⟩
    rw [storePump_pumpCtl, storePump_setpoints]
    refine ⟨fun hchanged => ?_, fun hsame hrequested hcommanded => ?_, fun hsame hrequested hle => ?_⟩
    · rw [onPumpRow_of_changed hchanged, pumpNodeChanged_stored]
      exact ⟨rfl, rfl⟩
    · rw [onPumpRow_of_same hsame, pumpMaxLowered_of_within hrequested hcommanded]
      exact ⟨rfl, rfl⟩
    · intro lowered
      rw [onPumpRow_of_same hsame]
      refine ⟨fun hcommanding habove => ?_, fun hquiet => ?_⟩
      · rw [pumpMaxLowered_queued hm hrequested hcommanding habove]
        exact ⟨rfl, rfl⟩
      · rw [pumpMaxLowered_plain hm hrequested hquiet]
        exact ⟨rfl, rfl⟩

end Sys2Proof.Machine
end

section
/-! CLEAR TABLES (R5, R26, R38, R60, R169). -/

namespace Sys2Proof.Machine

/-! ### The row of a pump that becomes unused (R38) -/

section Row

variable {p : PumpId} {old n : Nat} {t : State}

theorem onPumpRow_unlike (hne : (t.pumpRow p).node ≠ old) : onPumpRow p old t = pumpNodeChanged p old t :=
  if_neg hne

theorem onPumpRow_dropped (hne : (t.pumpRow p).node ≠ old) :
    ∀ e ∈ (onPumpRow p old t).trunk.setpoints, e.node ≠ old := by
  rw [onPumpRow_unlike hne]
  intro e he
  simpa using (List.mem_filter.mp (show e ∈ t.trunk.setpoints.filter (·.node != old) from he)).2

theorem Trunk.queueSetpoint_avoids {u : Trunk} {e : SetpointEntry} (hne : e.node ≠ n)
    (h : ∀ q ∈ u.setpoints, q.node ≠ n) : ∀ q ∈ (u.queueSetpoint e).setpoints, q.node ≠ n := by
  intro q hq hnode
  have hmem : n ∈ (u.queueSetpoint e).setpoints.map SetpointEntry.node :=
    hnode ▸ List.mem_map_of_mem hq
  have hnot : n ∉ u.setpoints.map SetpointEntry.node := fun hno => by
    obtain ⟨q, hq, hnode⟩ := List.mem_map.mp hno
    exact h q hq hnode
  rw [Trunk.queueSetpoint_nodes] at hmem
  split at hmem
  · exact hnot hmem
  · rcases List.mem_append.mp hmem with hmem | hmem
    · exact hnot hmem
    · exact hne (List.mem_singleton.mp hmem).symm

/-- The load of a row queues no setpoint for a node other than the one it stores. -/
theorem onPumpRow_avoids (hne : (t.pumpRow p).node ≠ n) (h : ∀ e ∈ t.trunk.setpoints, e.node ≠ n) :
    ∀ e ∈ (onPumpRow p old t).trunk.setpoints, e.node ≠ n := by
  unfold onPumpRow pumpMaxLowered changeRates
  dsimp only
  split
  · split
    · split
      · exact Trunk.queueSetpoint_avoids hne h
      · exact h
    · exact h
  · exact fun e he => h e (List.mem_of_mem_filter he)

theorem onPumpRow_pump (hne : (t.pumpRow p).node ≠ old) (hunused : t.used p = false) :
    (onPumpRow p old t).pump p = { t.pump p with
      requested := 0, commanded := 0, control := .stopped, notFollowing := 0, saturated := false,
      nodeRate := none } := by
  rw [onPumpRow_unlike hne, pumpNodeChanged, State.onPump_pump_self, hunused]
  rfl

theorem onPumpRow_trip (old : Nat) (t : State) :
    (onPumpRow p old t).pumpCtl.tripLatch = t.pumpCtl.tripLatch ∧
      (onPumpRow p old t).pumpCtl.tripPressure = t.pumpCtl.tripPressure := by
  unfold onPumpRow pumpMaxLowered changeRates
  dsimp only
  repeat' split
  all_goals exact ⟨rfl, rfl⟩

end Row

/-! ### The default tables -/

section Defaults

variable {s : State}

/-- The state with the default tables, the inputs in their load state and no pending command, before the
rows of the pumps take effect. -/
def State.defaultsStored (s : State) : State :=
  clearCommand { s with tables := .default, inputs := Vector.replicate 13 .afterLoad }

theorem storeDefaults_eq (s : State) : storeDefaults s =
    onPumpRow 1 (s.pumpRow 1).node (onPumpRow 0 (s.pumpRow 0).node s.defaultsStored) := rfl

theorem State.pumpRow_of_defaults {t : State} (ht : t.tables = .default) (p : PumpId) :
    (t.pumpRow p).node = 0 := by
  rw [State.pumpRow, ht]
  revert p
  decide

theorem State.used_of_defaults {t : State} (ht : t.tables = .default) (p : PumpId) : t.used p = false := by
  rw [State.used, State.pumpRow_of_defaults ht]
  rfl

theorem firstRow_tables (s : State) : (onPumpRow 0 (s.pumpRow 0).node s.defaultsStored).tables = .default :=
  (onPumpRow_view 0 _ _).1

theorem storeDefaults_tables (s : State) : (storeDefaults s).tables = .default :=
  (onPumpRow_view 1 _ _).1.trans (firstRow_tables s)

theorem storeDefaults_inputs (s : State) : (storeDefaults s).inputs = Vector.replicate 13 .afterLoad := by
  rw [storeDefaults_eq, onPumpRow_keeps _ _ _ .inputs (by decide), onPumpRow_keeps _ _ _ .inputs (by decide)]
  rfl

theorem storeDefaults_tracker (s : State) : (storeDefaults s).tracker = { s.tracker with command := none } := by
  rw [storeDefaults_eq, onPumpRow_keeps _ _ _ .tracker (by decide), onPumpRow_keeps _ _ _ .tracker (by decide)]
  rfl

theorem storeDefaults_trip (s : State) : (storeDefaults s).pumpCtl.tripLatch = s.pumpCtl.tripLatch ∧
    (storeDefaults s).pumpCtl.tripPressure = s.pumpCtl.tripPressure := by
  obtain ⟨hlatch, hpressure⟩ := onPumpRow_trip (p := 0) (s.pumpRow 0).node s.defaultsStored
  rw [storeDefaults_eq, (onPumpRow_trip _ _).1, (onPumpRow_trip _ _).2, hlatch, hpressure]
  exact ⟨rfl, rfl⟩

/-- A pump that was used is reset, and no setpoint waits for its node. -/
theorem storeDefaults_pump (p : PumpId) (hnode : (s.pumpRow p).node ≠ 0) :
    (storeDefaults s).pump p = { s.pump p with
      requested := 0, commanded := 0, control := .stopped, notFollowing := 0, saturated := false,
      nodeRate := none } ∧
    ∀ e ∈ (storeDefaults s).trunk.setpoints, e.node ≠ (s.pumpRow p).node := by
  have hfirst := firstRow_tables s
  have hdefault : ∀ {t : State} (q : PumpId), t.tables = .default → (t.pumpRow q).node ≠ (s.pumpRow p).node :=
    fun q ht => by
      rw [State.pumpRow_of_defaults ht]
      exact hnode.symm
  rw [storeDefaults_eq]
  fin_cases p
  · exact ⟨(onPumpRow_other_pump (by decide) _ _).trans
        (onPumpRow_pump (t := s.defaultsStored) (hdefault 0 rfl) (State.used_of_defaults rfl 0)),
      onPumpRow_avoids (hdefault 1 hfirst) (onPumpRow_dropped (t := s.defaultsStored) (hdefault 0 rfl))⟩
  · refine ⟨(onPumpRow_pump (hdefault 1 hfirst) (State.used_of_defaults hfirst 1)).trans ?_,
      onPumpRow_dropped (hdefault 1 hfirst)⟩
    rw [onPumpRow_other_pump (by decide)]
    rfl

end Defaults

/-! ### The request (R169) -/

section Request

variable {h : ReqHeader} {s : State}

theorem exec_clearTables_of_ready {t : State} {a : Reply} (hs : s.ready) (hdo : doClearTables s = (t, a)) :
    exec (.clearTables h) s = answers t h 5 a := finish_serve_of_ready hs hdo

theorem doClearTables_of_job (hjob : s.jobInProgress = true) : doClearTables s = (s, .plain .refusedState) :=
  if_pos hjob

theorem doClearTables_of_noJob (hjob : s.jobInProgress = false) :
    doClearTables s = (react (clearByLoad true (storeDefaults s)), .plain .done) :=
  if_neg (by simp [hjob])

end Request

/-- Settles O20: the defaults are stored, each used pump is reset with its row, and the window is cleared
once with the held mean. -/
theorem clearTablesRestoresTheDefaults : Obligations.ClearTablesRestoresTheDefaults := by
  refine fun h s hs => ⟨fun hjob => exec_clearTables_of_ready hs (doClearTables_of_job hjob), fun hjob =>
    ⟨_, exec_clearTables_of_ready hs (doClearTables_of_noJob hjob), ?_⟩⟩
  have htables : (react (clearByLoad true (storeDefaults s))).tables = .default := by
    rw [react_tables, clearByLoad_keeps _ _ .tables (by decide), storeDefaults_tables]
  have hctl : (react (clearByLoad true (storeDefaults s))).pumpCtl = (storeDefaults s).pumpCtl := by
    rw [react_pumpCtl, clearByLoad_keeps _ _ .pumpCtl (by decide)]
  refine ⟨htables, ?_, ?_, windowCleared_of_load true (storeDefaults_keeps s) (storeDefaults_moved .refl), ?_, ?_,
    fun p hnode => ?_, ?_, ?_, by simp⟩
  · rw [State.trunkAddr, State.settings, htables]
    rfl
  · rw [react_inputs, clearByLoad_keeps _ _ .inputs (by decide), storeDefaults_inputs]
    rfl
  · rw [react_circ, clearByLoad_heldMean, if_pos rfl]
  · rw [react_tracker, clearByLoad_keeps _ _ .tracker (by decide), storeDefaults_tracker]
  · rw [hctl, react_setpoints, (clearByLoad_trunk _ _).setpoints_eq]
    exact storeDefaults_pump p hnode
  · rw [hctl]
    exact (storeDefaults_trip s).1
  · rw [hctl]
    exact (storeDefaults_trip s).2

end Sys2Proof.Machine
end

section
/-! The setpoints that a forced zero puts into the queue (R43, R44, R51, R158), and TRIP RESET (R46). -/

namespace Sys2Proof.Machine

/-! ### Zeros in the normal place (R43, R51) -/

section Queue

variable {s : State}

/-- The trunk with a zero queued for each pump that `zeroed` picks, pump 1's first (R158, log 40). -/
def State.zerosQueued (s : State) (zeroed : PumpId → Bool) : Trunk :=
  (List.finRange 2).foldl (fun t p =>
    if zeroed p then t.queueSetpoint ⟨(s.pumpRow p).node, 0, s.trunkAddr⟩ else t) s.trunk

theorem State.trunkAddr_congr {s t : State} (h : t.tables = s.tables) : t.trunkAddr = s.trunkAddr := by
  rw [State.trunkAddr, State.trunkAddr, State.settings, State.settings, h]

theorem forceZero_trunk (p : PumpId) (s : State) : (forceZero p s).trunk =
    if s.used p = true ∧ 0 < (s.pump p).commanded then
      s.trunk.queueSetpoint ⟨(s.pumpRow p).node, 0, s.trunkAddr⟩ else s.trunk := by
  unfold forceZero
  by_cases hused : s.used p = true
  · by_cases hcommanded : 0 < (s.pump p).commanded
    · rw [if_pos hused, if_pos hcommanded, if_pos ⟨hused, hcommanded⟩]
      rfl
    · rw [if_pos hused, if_neg hcommanded, if_neg fun h => hcommanded h.2]
      rfl
  · rw [if_neg hused, if_neg fun h => hused h.1]

theorem standbyPump_trunk (p : PumpId) (s : State) : (standbyPump p s).trunk =
    if s.used p = true then s.trunk.queueSetpoint ⟨(s.pumpRow p).node, 0, s.trunkAddr⟩ else s.trunk := by
  unfold standbyPump
  split <;> rfl

theorem State.used_iff (s : State) (p : PumpId) : s.used p = true ↔ (s.tables.pumps[p]).node ≠ 0 := by
  simp [State.used, State.pumpRow]

/-- Pump 1's zero joins first, and pump 2's then, each where its pump asks for one. -/
theorem eachPump_zerosQueued {f : PumpId → State → State} {zeroed : PumpId → Bool} {u : State}
    (hf : ∀ p t, t.tables = s.tables → t.pump p = s.pump p → (f p t).trunk =
      if zeroed p = true then t.trunk.queueSetpoint ⟨(s.pumpRow p).node, 0, s.trunkAddr⟩ else t.trunk)
    (htables : u.tables = s.tables) (hpump : ∀ p, u.pump p = s.pump p) (htrunk : u.trunk = s.trunk)
    (hkeeps : (f 0 u).tables = u.tables) (hother : (f 0 u).pump 1 = u.pump 1) :
    (eachPump f u).trunk = s.zerosQueued zeroed := by
  have hfirst := hf 0 u htables (hpump 0)
  have hsecond := hf 1 (f 0 u) (hkeeps.trans htables) (hother.trans (hpump 1))
  rw [eachPump, hsecond, hfirst, htrunk]
  rfl

theorem eachPump_forceZero_trunk (s : State) : (eachPump forceZero s).trunk =
    s.zerosQueued fun p => decide ((s.tables.pumps[p]).node ≠ 0 ∧ 0 < (s.pump p).commanded) := by
  refine eachPump_zerosQueued (fun p t ht hp => ?_) rfl (fun _ => rfl) rfl
    (forceZero_keeps 0 s .tables (by decide)) (by simp [forceZero_pump])
  rw [forceZero_trunk, State.used_congr p ht, State.pumpRow_congr p ht, State.trunkAddr_congr ht, hp]
  simp only [State.used_iff, decide_eq_true_iff]

theorem standbyPump_keeps (p : PumpId) (s : State) : keepsAllBut [.pumpCtl, .trunk] s (standbyPump p s) := by
  unfold standbyPump
  split <;> simp

theorem enterStandby_trunk (s : State) : (enterStandby s).trunk =
    s.zerosQueued fun p => decide ((s.tables.pumps[p]).node ≠ 0) := by
  refine eachPump_zerosQueued (f := standbyPump) (fun p t ht hp => ?_) rfl (fun _ => rfl) rfl
    (standbyPump_keeps 0 s .tables (by decide)) (by simp [standbyPump_pump])
  rw [standbyPump_trunk, State.used_congr p ht, State.pumpRow_congr p ht, State.trunkAddr_congr ht]
  simp only [State.used_iff, decide_eq_true_iff]

/-! ### Zeros at the head (R44) -/

theorem forceHead_setpoints_eq (p : PumpId) (s : State) : (forceHead p s).trunk.setpoints =
    if s.used p = true then ⟨(s.pumpRow p).node, 0, s.trunkAddr⟩ ::
      s.trunk.setpoints.filter (·.node != (s.pumpRow p).node) else s.trunk.setpoints := by
  unfold forceHead
  split <;> rfl

/-- Pump 1's zero stands first, then pump 2's, then the setpoints for other nodes (R158). -/
theorem forceBothHead_pairs (s : State)
    (hnodes : (s.tables.pumps[0]).node = 0 ∨ (s.tables.pumps[0]).node ≠ (s.tables.pumps[1]).node) :
    let nodes := ((List.finRange 2).filter fun p => (s.tables.pumps[p]).node ≠ 0).map
      fun p => (s.tables.pumps[p]).node
    (forceBothHead s).trunk.setpoints.map (fun e => (e.node, e.rate)) = nodes.map (fun n => (n, 0)) ++
      (s.trunk.setpoints.filter fun e => e.node ∉ nodes).map fun e => (e.node, e.rate) := by
  intro nodes
  have htables := forceHead_keeps 1 s .tables (by decide)
  rw [forceBothHead, forceHead_setpoints_eq, forceHead_setpoints_eq, forceHead_used,
    State.pumpRow_congr 0 htables]
  have hpumps : nodes = ([0, 1].filter fun p : PumpId => (s.tables.pumps[p]).node ≠ 0).map
      fun p => (s.tables.pumps[p]).node := rfl
  have hbne : ∀ a b : Nat, (a != b) = !decide (a = b) := fun _ _ => rfl
  by_cases h0 : (s.tables.pumps[0]).node = 0 <;> by_cases h1 : (s.tables.pumps[1]).node = 0
  · simp [hpumps, State.used, State.pumpRow, h0, h1]
  · simp [hpumps, State.used, State.pumpRow, h0, h1, hbne]
  · simp [hpumps, State.used, State.pumpRow, h0, h1, hbne]
  · have hne : ¬(s.tables.pumps[1]).node = (s.tables.pumps[0]).node := fun h => hnodes.elim h0 fun hne => hne h.symm
    simp [hpumps, State.used, State.pumpRow, h0, h1, hbne, hne]

end Queue

/-! ### TRIP RESET (R46) -/

section TripReset

variable {s : State}

theorem exec_tripReset_of_ready {h : ReqHeader} {t : State} {a : Reply} (hs : s.ready)
    (hdo : doTripReset s = (t, a)) : exec (.tripReset h) s = answers t h 24 a := finish_serve_of_ready hs hdo

theorem State.pressureBled_iff : s.pressureBled = true ↔ s.inputs[inPressure].state = .fresh ∧
    ∃ v, s.inputs[inPressure].lastConditioned = some v ∧
      v < (s.tables.limits.trip : Int) - s.tables.limits.hysteresis := by
  unfold State.pressureBled State.fresh State.input
  cases h : s.inputs[inPressure].lastConditioned with
  | none => simp
  | some v =>
    rw [Bool.and_eq_true, beq_iff_eq]
    dsimp only
    rw [decide_eq_true_iff]
    simp [State.limits]

theorem doTripReset_of_bled (hbled : s.pressureBled = true) : doTripReset s = (resetTrip s, .plain .done) :=
  if_pos hbled

theorem doTripReset_of_not (hbled : ¬s.pressureBled = true) : doTripReset s = (s, .plain .refusedState) :=
  if_neg hbled

/-- The state in which the trip latch is clear, before the pumps take their state. -/
def State.unlatched (s : State) : State := s.onPumpCtl fun c => { c with tripLatch := false }

theorem resetTrip_of_clear (hlatch : s.pumpCtl.tripLatch = false) : resetTrip s = s := if_neg (by simp [hlatch])

theorem resetTrip_of_standby (hlatch : s.pumpCtl.tripLatch = true) (hmode : s.mode = .standby) :
    resetTrip s = s.unlatched := (if_pos hlatch).trans (if_pos hmode)

theorem resetTrip_of_mode (hlatch : s.pumpCtl.tripLatch = true) (hmode : s.mode ≠ .standby) :
    resetTrip s = eachPump stopAfterReset s.unlatched := (if_pos hlatch).trans (if_neg hmode)

theorem stopAfterReset_trip (p : PumpId) (s : State) :
    (stopAfterReset p s).pumpCtl.tripLatch = s.pumpCtl.tripLatch ∧
    (stopAfterReset p s).pumpCtl.tripPressure = s.pumpCtl.tripPressure ∧
    (stopAfterReset p s).pumpCtl.badSetpoints = s.pumpCtl.badSetpoints := by
  unfold stopAfterReset
  split <;> exact ⟨rfl, rfl, rfl⟩

theorem stopAfterReset_heldAtZero (p : PumpId) (s : State) : (stopAfterReset p s).heldAtZero = s.heldAtZero := by
  unfold stopAfterReset
  split <;> rfl

theorem stopAfterReset_used (p q : PumpId) (s : State) : (stopAfterReset p s).used q = s.used q :=
  State.used_congr q (stopAfterReset_keeps p s .tables (by decide))

theorem eachPump_stopAfterReset_pump (q : PumpId) (s : State) : (eachPump stopAfterReset s).pump q =
    if s.used q = true then (s.pump q).atZero (if s.heldAtZero then .forcedOff else .stopped)
    else s.pump q := by
  simp only [eachPump, stopAfterReset_pump, stopAfterReset_used, stopAfterReset_heldAtZero]
  fin_cases q <;> simp

/-- Outside STANDBY the holds that are left with the latch clear are those of an open string. -/
theorem State.unlatched_heldAtZero (hmode : s.mode ≠ .standby) : s.unlatched.heldAtZero = true ↔
    s.mode = .supervised ∧ s.tracker.conn ≠ .headOn := by
  have hm : s.unlatched.mode = s.mode := rfl
  unfold State.heldAtZero
  rw [hm]
  split
  · next h => simp [h, State.unlatched, State.onPumpCtl]
  · next h => exact absurd h hmode
  · next h _ =>
    have hm : s.mode ≠ .supervised := h
    simp [hm]

theorem resetTrip_trip (hlatch : s.pumpCtl.tripLatch = true) : (resetTrip s).pumpCtl.tripLatch = false ∧
    (resetTrip s).pumpCtl.tripPressure = s.pumpCtl.tripPressure ∧
    (resetTrip s).pumpCtl.badSetpoints = s.pumpCtl.badSetpoints := by
  by_cases hmode : s.mode = .standby
  · rw [resetTrip_of_standby hlatch hmode]
    exact ⟨rfl, rfl, rfl⟩
  · rw [resetTrip_of_mode hlatch hmode]
    obtain ⟨hl1, hp1, hb1⟩ := stopAfterReset_trip 0 s.unlatched
    obtain ⟨hl2, hp2, hb2⟩ := stopAfterReset_trip 1 (stopAfterReset 0 s.unlatched)
    exact ⟨hl2.trans hl1, hp2.trans hp1, hb2.trans hb1⟩

theorem resetTrip_pump (hlatch : s.pumpCtl.tripLatch = true) (p : PumpId) : (resetTrip s).pump p =
    if s.mode = .standby ∨ (s.tables.pumps[p]).node = 0 then s.pump p
    else (s.pump p).atZero (if s.mode = .supervised ∧ s.tracker.conn ≠ .headOn then .forcedOff else .stopped) := by
  by_cases hmode : s.mode = .standby
  · rw [resetTrip_of_standby hlatch hmode, if_pos (.inl hmode)]
    rfl
  · rw [resetTrip_of_mode hlatch hmode, eachPump_stopAfterReset_pump]
    have hused : s.unlatched.used p = s.used p := rfl
    have hpump : s.unlatched.pump p = s.pump p := rfl
    rw [hused, hpump]
    by_cases hnode : (s.tables.pumps[p]).node = 0
    · rw [if_neg (c := s.used p = true) fun h => (s.used_iff p).mp h hnode, if_pos (.inr hnode)]
    · rw [if_pos (c := s.used p = true) ((s.used_iff p).mpr hnode), if_neg (c := s.mode = .standby ∨ _)
        fun h => h.elim hmode hnode]
      simp only [State.unlatched_heldAtZero hmode]

end TripReset

/-- Settles O28: the pressure test first, and then the latch, the trip pressure and the pumps' states. -/
theorem tripResetClearsTheLatch : Obligations.TripResetClearsTheLatch := by
  intro h s hs limit
  refine ⟨fun hbad => exec_tripReset_of_ready hs (doTripReset_of_not fun hbled => ?_),
    fun v hfresh hvalue hlow => ?_⟩
  · obtain ⟨hfresh, v, hvalue, hlow⟩ := State.pressureBled_iff.mp hbled
    rcases hbad with hbad | ⟨w, hw, hhigh⟩
    · exact hbad hfresh
    · obtain rfl := Option.some.inj (hvalue.symm.trans hw)
      exact hhigh.not_gt hlow
  · have hexec := exec_tripReset_of_ready (h := h) hs
      (doTripReset_of_bled (State.pressureBled_iff.mpr ⟨hfresh, v, hvalue, hlow⟩))
    refine ⟨fun hlatch => ?_, fun hlatch => ⟨resetTrip s, hexec, resetTrip_keeps s, ?_⟩⟩
    · rwa [resetTrip_of_clear hlatch] at hexec
    · obtain ⟨hclear, hpressure, hbad⟩ := resetTrip_trip hlatch
      exact ⟨hclear, hpressure, hbad, resetTrip_pump hlatch⟩

end Sys2Proof.Machine
end

section
/-! SET MODE and wakes: what each change of mode does to the pumps (R49 to R51, R171, R172). -/

namespace Sys2Proof.Machine

/-! ### Events that change the pumps' records alone in Pump Control -/

/-- Of Pump Control only the pumps' records differ. -/
def State.pumpsOnly (s t : State) : Prop := t.pumpCtl = { s.pumpCtl with pumps := t.pumpCtl.pumps }

section PumpsOnly

variable {s t u : State}

theorem State.pumpsOnly_refl (s : State) : s.pumpsOnly s := rfl

theorem State.pumpsOnly.trans (h : s.pumpsOnly t) (h' : t.pumpsOnly u) : s.pumpsOnly u := by
  unfold State.pumpsOnly at h h' ⊢
  rw [h', h]

theorem State.pumpsOnly.latch (h : s.pumpsOnly t) : t.pumpCtl.tripLatch = s.pumpCtl.tripLatch := by
  rw [h]

theorem State.pumpsOnly.pressure (h : s.pumpsOnly t) : t.pumpCtl.tripPressure = s.pumpCtl.tripPressure := by
  rw [h]

theorem State.pumpsOnly_of_keeps {l : List Block} (h : keepsAllBut l s t) (hl : Block.pumpCtl ∉ l) :
    s.pumpsOnly t := by
  have hctl : t.pumpCtl = s.pumpCtl := h .pumpCtl hl
  unfold State.pumpsOnly
  rw [hctl]

theorem State.pumpsOnly_eachPump {f : PumpId → State → State} (hf : ∀ (p : PumpId) (t : State), t.pumpsOnly (f p t)) (s : State) :
    s.pumpsOnly (eachPump f s) := (hf 0 s).trans (hf 1 _)

theorem forceZero_pumpsOnly (p : PumpId) (s : State) : s.pumpsOnly (forceZero p s) := by
  unfold forceZero
  dsimp only
  repeat' split
  all_goals exact rfl

theorem forceHead_pumpsOnly (p : PumpId) (s : State) : s.pumpsOnly (forceHead p s) := by
  unfold forceHead
  split <;> exact rfl

theorem forceBothHead_pumpsOnly (s : State) : s.pumpsOnly (forceBothHead s) :=
  (forceHead_pumpsOnly 1 s).trans (forceHead_pumpsOnly 0 _)

theorem adoptRecord_pumpsOnly (p : PumpId) (s : State) : s.pumpsOnly (adoptRecord p s) := by
  unfold adoptRecord
  split <;> exact rfl

theorem endOpenString_pumpsOnly (p : PumpId) (s : State) : s.pumpsOnly (endOpenString p s) := by
  rw [endOpenString_eq]
  split <;> exact rfl

theorem enterSupervised_pumpsOnly (s : State) : s.pumpsOnly (enterSupervised s) := by
  have hadopt := State.pumpsOnly_eachPump adoptRecord_pumpsOnly s
  unfold enterSupervised
  dsimp only
  split
  · exact hadopt.trans (forceBothHead_pumpsOnly _)
  · split
    · exact hadopt.trans (State.pumpsOnly_eachPump forceZero_pumpsOnly _)
    · exact hadopt

theorem enterMonitor_pumpsOnly (s : State) : s.pumpsOnly (enterMonitor s) := by
  unfold enterMonitor
  refine State.pumpsOnly_eachPump (fun p t => ?_) s
  exact rfl

theorem enterStandby_pumpsOnly (s : State) : s.pumpsOnly (enterStandby s) :=
  State.pumpsOnly_eachPump (fun p t => by
    split <;> exact rfl) s

theorem leaveStandby_pumpsOnly (s : State) : s.pumpsOnly (leaveStandby s) := by
  rw [leaveStandby_eq]
  refine State.pumpsOnly_eachPump (fun p t => ?_) s
  unfold leavePump
  split
  · split <;> exact rfl
  · exact rfl

end PumpsOnly

/-! ### SUPERVISED is entered (R49) -/

section Supervised

variable {s : State}

/-- A pump at its node rate record (R49). -/
def State.adopted (s : State) (p : PumpId) : Pump :=
  let record := (s.pump p).nodeRate.getD 0
  let top := (s.pumpRow p).maxRate
  { s.pump p with
    requested := min record top
    commanded := min record top
    saturated := decide (top < record)
    notFollowing := 0
    control := if min record top = 0 then .stopped else .steady }

theorem allAdopted_pump (p : PumpId) :
    (eachPump adoptRecord s).pump p = if s.used p = true then s.adopted p else s.pump p :=
  eachPump_adoptRecord_pump s p

theorem allAdopted_tables : (eachPump adoptRecord s).tables = s.tables :=
  eachPump_keeps adoptRecord_keeps s .tables (by decide)

theorem allAdopted_trunk : (eachPump adoptRecord s).trunk = s.trunk := by
  rw [eachPump, adoptRecord_trunk, adoptRecord_trunk]

theorem enterSupervised_of_tripped (hlatch : s.pumpCtl.tripLatch = true) :
    enterSupervised s = forceBothHead (eachPump adoptRecord s) := if_pos hlatch

theorem enterSupervised_of_open (hlatch : s.pumpCtl.tripLatch = false) (hconn : s.tracker.conn ≠ .headOn) :
    enterSupervised s = eachPump forceZero (eachPump adoptRecord s) :=
  (if_neg (by simp [hlatch])).trans (if_pos hconn)

theorem enterSupervised_of_free (hlatch : s.pumpCtl.tripLatch = false) (hconn : s.tracker.conn = .headOn) :
    enterSupervised s = eachPump adoptRecord s :=
  (if_neg (by simp [hlatch])).trans (if_neg (not_not.mpr hconn))

theorem enterSupervised_tripped_pump (hlatch : s.pumpCtl.tripLatch = true) (p : PumpId) :
    (enterSupervised s).pump p = if s.used p = true then
      { (s.adopted p).atZero .forcedOff with nodeRate := some 0 } else s.pump p := by
  rw [enterSupervised_of_tripped hlatch, forceBothHead_pump, State.used_congr p allAdopted_tables, allAdopted_pump]
  split <;> rfl

theorem enterSupervised_open_pump (hlatch : s.pumpCtl.tripLatch = false) (hconn : s.tracker.conn ≠ .headOn)
    (p : PumpId) : (enterSupervised s).pump p = if s.used p = true then
      { (s.adopted p).atZero .forcedOff with
        nodeRate := if (s.adopted p).requested = 0 then (s.pump p).nodeRate else some 0 } else s.pump p := by
  rw [enterSupervised_of_open hlatch hconn, eachPump_forceZero_pump, State.used_congr p allAdopted_tables,
    allAdopted_pump]
  split
  · rcases Nat.eq_zero_or_pos (s.adopted p).requested with h | h
    · have hc : (s.adopted p).commanded = 0 := h
      rw [if_pos h, hc]
      rfl
    · have hc : 0 < (s.adopted p).commanded := h
      rw [if_neg h.ne', if_pos hc]
  · rfl

theorem enterSupervised_free_pump (hlatch : s.pumpCtl.tripLatch = false) (hconn : s.tracker.conn = .headOn)
    (p : PumpId) : (enterSupervised s).pump p = if s.used p = true then s.adopted p else s.pump p := by
  rw [enterSupervised_of_free hlatch hconn, allAdopted_pump]

theorem enterSupervised_unused_pump {p : PumpId} (hused : ¬s.used p = true) :
    (enterSupervised s).pump p = s.pump p := by
  by_cases hlatch : s.pumpCtl.tripLatch = true
  · rw [enterSupervised_tripped_pump hlatch, if_neg hused]
  · have hlatch := Bool.eq_false_iff.mpr hlatch
    by_cases hconn : s.tracker.conn = .headOn
    · rw [enterSupervised_free_pump hlatch hconn, if_neg hused]
    · rw [enterSupervised_open_pump hlatch hconn, if_neg hused]

theorem State.zerosQueued_congr {t : State} {f g : PumpId → Bool} (htables : t.tables = s.tables)
    (htrunk : t.trunk = s.trunk) (hfg : ∀ p, f p = g p) : t.zerosQueued f = s.zerosQueued g := by
  unfold State.zerosQueued
  rw [State.trunkAddr_congr htables, htrunk, funext hfg]
  refine List.foldl_ext _ _ _ fun a p _ => ?_
  rw [State.pumpRow_congr p htables]

theorem enterSupervised_open_trunk (hlatch : s.pumpCtl.tripLatch = false) (hconn : s.tracker.conn ≠ .headOn) :
    (enterSupervised s).trunk = s.zerosQueued fun p => decide ((s.tables.pumps[p]).node ≠ 0 ∧
      min ((s.pump p).nodeRate.getD 0) (s.pumpRow p).maxRate ≠ 0) := by
  rw [enterSupervised_of_open hlatch hconn, eachPump_forceZero_trunk]
  refine State.zerosQueued_congr allAdopted_tables allAdopted_trunk fun p => ?_
  rw [allAdopted_tables, allAdopted_pump]
  by_cases hnode : (s.tables.pumps[p]).node = 0
  · simp only [hnode, ne_eq, not_true, false_and, decide_false]
  · rw [if_pos ((s.used_iff p).mpr hnode)]
    exact decide_eq_decide.mpr (and_congr_right fun _ => Nat.pos_iff_ne_zero)

theorem enterSupervised_tripped_pairs (hlatch : s.pumpCtl.tripLatch = true)
    (hnodes : (s.tables.pumps[0]).node = 0 ∨ (s.tables.pumps[0]).node ≠ (s.tables.pumps[1]).node) :
    let nodes := ((List.finRange 2).filter fun p => (s.tables.pumps[p]).node ≠ 0).map
      fun p => (s.tables.pumps[p]).node
    (enterSupervised s).trunk.setpoints.map (fun e => (e.node, e.rate)) = nodes.map (fun n => (n, 0)) ++
      (s.trunk.setpoints.filter fun e => e.node ∉ nodes).map fun e => (e.node, e.rate) := by
  have h := forceBothHead_pairs (eachPump adoptRecord s) (by rwa [allAdopted_tables])
  rw [allAdopted_tables, allAdopted_trunk] at h
  rwa [enterSupervised_of_tripped hlatch]

end Supervised

end Sys2Proof.Machine
end

section
/-! SET MODE: the tests, and the part after each change of mode (R49 to R51, R91, R171). -/

namespace Sys2Proof.Machine

/-! ### The activity after a change (R91, R93) -/

section Activity

variable {s : State}

theorem reindicate_of_same (h : s.mode = .starting ∨ s.activityNow = s.depth.indicated) : reindicate s = s :=
  if_pos h

theorem reindicate_of_change (hmode : s.mode ≠ .starting) (hne : s.activityNow ≠ s.depth.indicated) :
    reindicate s = onIndicated s.depth.indicated s.activityNow
      (s.onDepth fun d => { d with indicated := s.activityNow }) :=
  if_neg fun h => h.elim hmode hne

theorem reindicate_indicated (hmode : s.mode ≠ .starting) : (reindicate s).depth.indicated = s.activityNow := by
  by_cases hne : s.activityNow = s.depth.indicated
  · rw [reindicate_of_same (.inr hne), hne]
  · obtain ⟨a, due, h⟩ := onIndicated_depth s.depth.indicated s.activityNow
      (s.onDepth fun d => { d with indicated := s.activityNow })
    rw [reindicate_of_change hmode hne, h]
    rfl

/-- A shut-down is taken as it is indicated (R93). -/
theorem reindicate_taken_shutDown (hmode : s.mode ≠ .starting) (hnow : s.activityNow = .shutDown)
    (hne : s.depth.indicated ≠ .shutDown) : (reindicate s).depth.taken = .shutDown := by
  rw [reindicate_of_change hmode (by rw [hnow]; exact hne.symm), hnow, onIndicated, if_pos (.inr (.inl rfl)),
    takeActivity_depth]

theorem advanceHole_mode (s : State) : (advanceHole s).mode = s.mode :=
  congrArg Management.mode (advanceHole_keeps s .mgmt (by decide))

theorem advanceHole_indicated (s : State) : (advanceHole s).depth.indicated = s.depth.indicated := by
  rw [advanceHole_depth]

/-- In STANDBY the tests leave SHUT_DOWN indicated (R91). -/
theorem react_of_standby (hmode : s.mode = .standby) : (react s).depth.indicated = .shutDown ∧
    (s.depth.indicated ≠ .shutDown → (react s).depth.taken = .shutDown) := by
  have hmode' : (advanceHole s).mode = .standby := (advanceHole_mode s).trans hmode
  have hstart : (advanceHole s).mode ≠ .starting := by simp [hmode']
  have hnow : (advanceHole s).activityNow = .shutDown := if_pos hmode'
  exact ⟨(reindicate_indicated hstart).trans hnow, fun hne =>
    reindicate_taken_shutDown hstart hnow (by rwa [advanceHole_indicated])⟩

end Activity

/-! ### The request, test by test (R171) -/

section SetMode

variable {h : ReqHeader} {s : State}

theorem exec_setMode_of_ready {mode : Byte} {t : State} {a : Reply} (hs : s.ready)
    (hdo : doSetMode mode.toNat s = (t, a)) : exec (.setMode h mode) s = answers t h 6 a :=
  finish_serve_of_ready hs hdo

theorem Mode.ofCode_code (m : Mode) : Mode.ofCode m.code = some m := by
  cases m <;> rfl

theorem doSetMode_of_unknown {n : Nat} (hn : n = 0 ∨ 3 < n) : doSetMode n s = (s, .plain .refusedValue) := by
  rcases hn with rfl | hn
  · rfl
  · have hnone : Mode.ofCode n = none := by
      unfold Mode.ofCode
      split <;> first | omega | rfl
    rw [doSetMode, hnone]
    rfl

theorem doSetMode_of_same (hmode : s.mode ≠ .starting) : doSetMode s.mode.code s = (s, .plain .done) := by
  rw [doSetMode, Mode.ofCode_code]
  split
  · next h => exact absurd h (by simp)
  · next h => exact absurd (Option.some.inj h) hmode
  · next h => exact if_pos (Option.some.inj h)
  · next h => exact if_pos (Option.some.inj h)

theorem doSetMode_standby_refused (hmode : s.mode ≠ .standby)
    (hwork : s.rotationAbove = true ∨ s.anyRunning = true) : doSetMode 3 s = (s, .plain .refusedState) :=
  (if_neg hmode).trans (if_pos (by simpa using hwork))

theorem doSetMode_standby (hmode : s.mode ≠ .standby) (hrotation : s.rotationAbove = false)
    (hrunning : s.anyRunning = false) : doSetMode 3 s = (react (goStandby s), .plain .done) :=
  (if_neg hmode).trans (if_neg (by simp [hrotation, hrunning]))

theorem doSetMode_change {m : Mode} (hm : m = .monitor ∨ m = .supervised) (hmode : s.mode ≠ m) :
    doSetMode m.code s = (react (changeMode m (wake .request s)), .plain .done) := by
  rcases hm with rfl | rfl <;> exact if_neg hmode

theorem wake_of_awake {cause : WakeCause} (hmode : s.mode ≠ .standby) : wake cause s = s := if_neg hmode

theorem changeMode_supervised (hmode : s.mode ≠ .supervised) :
    changeMode .supervised s = enterSupervised (setModeTo .supervised s) :=
  (if_neg hmode).trans (if_pos rfl)

theorem changeMode_monitor (hmode : s.mode ≠ .monitor) :
    changeMode .monitor s = enterMonitor (setModeTo .monitor s) :=
  (if_neg hmode).trans (if_neg (by decide))

theorem State.rotationAbove_iff : s.rotationAbove = true ↔ s.fresh inRotary = true ∧
    ∃ v, (s.input inRotary).smoothed = some v ∧ (s.tables.limits.stop : Int) < v := by
  unfold State.rotationAbove
  cases h : (s.input inRotary).smoothed with
  | none => simp
  | some v =>
    rw [Bool.and_eq_true]
    dsimp only
    rw [decide_eq_true_iff]
    simp [State.limits]

/-! ### The part after the change -/

theorem react_pump (p : PumpId) (t : State) : (react t).pump p = t.pump p :=
  congrArg (fun c : PumpControl => c.pumps[p]) (react_pumpCtl t)

/-- SUPERVISED is in force with the pumps at their records, before the depth unit's tests. -/
def State.supervised (s : State) : State := enterSupervised (setModeTo .supervised s)

theorem State.supervised_keeps (s : State) : keepsAllBut [.mgmt, .pumpCtl, .trunk] s s.supervised := by
  unfold State.supervised
  simp

theorem State.supervised_mgmt (s : State) : s.supervised.mgmt = { s.mgmt with mode := .supervised } :=
  enterSupervised_keeps _ .mgmt (by decide)

theorem State.supervised_pumpsOnly (s : State) : s.pumpsOnly s.supervised :=
  enterSupervised_pumpsOnly (setModeTo .supervised s)

/-- MONITOR is in force with the rates in the records, before the depth unit's tests. -/
def State.monitoring (s : State) : State := enterMonitor (setModeTo .monitor s)

theorem State.monitoring_keeps (s : State) : keepsAllBut [.mgmt, .pumpCtl] s s.monitoring := by
  unfold State.monitoring
  simp

theorem State.monitoring_mgmt (s : State) : s.monitoring.mgmt = { s.mgmt with mode := .monitor } :=
  enterMonitor_keeps _ .mgmt (by decide)

theorem State.monitoring_pump (s : State) (p : PumpId) : s.monitoring.pump p = { s.pump p with
    notFollowing := 0
    nodeRate := if (s.tables.pumps[p]).node = 0 then (s.pump p).nodeRate else some (s.pump p).commanded } := by
  rw [State.monitoring, enterMonitor_pump]
  have hused : (setModeTo .monitor s).used p = s.used p := rfl
  have hpump : (setModeTo .monitor s).pump p = s.pump p := rfl
  rw [hused, hpump]
  have hif : (if s.used p = true then some (s.pump p).commanded else (s.pump p).nodeRate) =
      if (s.tables.pumps[p]).node = 0 then (s.pump p).nodeRate else some (s.pump p).commanded := by
    by_cases hnode : (s.tables.pumps[p]).node = 0
    · rw [if_pos hnode, if_neg fun h => (s.used_iff p).mp h hnode]
    · rw [if_neg hnode, if_pos ((s.used_iff p).mpr hnode)]
  rw [hif]

theorem goStandby_mgmt (s : State) :
    (goStandby s).mgmt = { s.mgmt with mode := .standby, remembered := some s.mode } :=
  enterStandby_keeps _ .mgmt (by decide)

theorem goStandby_pump (s : State) (p : PumpId) : (goStandby s).pump p = if s.used p = true then
    { (s.pump p).atZero .forcedOff with saturated := false, nodeRate := some 0 } else s.pump p :=
  enterStandby_pump _ p

theorem goStandby_setpoints (s : State) : (goStandby s).trunk.setpoints =
    (s.zerosQueued fun p => decide ((s.tables.pumps[p]).node ≠ 0)).setpoints :=
  congrArg Trunk.setpoints (enterStandby_trunk _)

end SetMode

/-- Settles O21: the tests in their order, and each change of mode by what it does to the pumps' records and to
the setpoint queue. -/
theorem setModeKeepsChangesOrRefuses : Obligations.SetModeKeepsChangesOrRefuses := by
  refine ⟨fun h mode s hs => ⟨fun hn => exec_setMode_of_ready hs (doSetMode_of_unknown ?_), fun hsame =>
      exec_setMode_of_ready hs ?_, fun hmode hawake hwork => exec_setMode_of_ready hs ?_⟩, fun h s hs => ?_⟩
  · exact hn.imp_left fun hzero => congrArg BitVec.toNat hzero
  · rw [hsame]
    exact doSetMode_of_same hs.2
  · subst hmode
    refine doSetMode_standby_refused hawake ?_
    rw [State.rotationAbove_iff, State.anyRunning, Bool.or_eq_true]
    exact hwork
  intro node pairs nodes queued
  refine ⟨fun hmode => ?_, fun hmode => ?_, fun hmode hrotation hrunning => ?_⟩
  · have hdo := doSetMode_change (s := s) (m := .supervised) (.inr rfl) (by simp [hmode])
    rw [wake_of_awake (by simp [hmode]), changeMode_supervised (by simp [hmode])] at hdo
    refine ⟨react s.supervised, exec_setMode_of_ready hs hdo, ?_, ⟨_, s.supervised_keeps, rfl⟩,
      fun hlatch hnodes => ?_, fun hlatch hconn => ?_, ?_, ?_, ?_, fun p => ?_⟩
    · rw [react_mgmt, s.supervised_mgmt]
    · rw [react_setpoints]
      exact enterSupervised_tripped_pairs (s := setModeTo .supervised s) hlatch hnodes
    · rw [react_setpoints]
      exact congrArg Trunk.setpoints (enterSupervised_open_trunk (s := setModeTo .supervised s) hlatch hconn)
    · exact keepsAllBut_trans (keepsAllBut_mono s.supervised_keeps (by simp)) (by simp)
    · rw [react_pumpCtl, s.supervised_pumpsOnly.latch]
    · rw [react_pumpCtl, s.supervised_pumpsOnly.pressure]
    · intro u rate adopted
      have hpump := react_pump p s.supervised
      refine ⟨fun hnode => hpump.trans ?_, fun hnode hlatch hconn => ⟨hpump.trans ?_, ?_⟩,
        fun hnode hlatch => hpump.trans ?_, fun hnode hlatch hconn => hpump.trans ?_⟩
      · exact enterSupervised_unused_pump (s := setModeTo .supervised s) fun h => (s.used_iff p).mp h hnode
      · exact (enterSupervised_free_pump (s := setModeTo .supervised s) hlatch hconn p).trans
          (if_pos ((s.used_iff p).mpr hnode))
      · rw [react_setpoints, State.supervised,
          enterSupervised_of_free (s := setModeTo .supervised s) hlatch hconn, allAdopted_trunk]
        rfl
      · exact (enterSupervised_tripped_pump (s := setModeTo .supervised s) hlatch p).trans
          (if_pos ((s.used_iff p).mpr hnode))
      · exact (enterSupervised_open_pump (s := setModeTo .supervised s) hlatch hconn p).trans
          (if_pos ((s.used_iff p).mpr hnode))
  · have hdo := doSetMode_change (s := s) (m := .monitor) (.inl rfl) (by simp [hmode])
    rw [wake_of_awake (by simp [hmode]), changeMode_monitor (by simp [hmode])] at hdo
    refine ⟨react s.monitoring, exec_setMode_of_ready hs hdo, ?_, ⟨_, s.monitoring_keeps, rfl⟩, ?_, ?_, ?_,
      fun p => (react_pump p s.monitoring).trans (s.monitoring_pump p)⟩
    · rw [react_mgmt, s.monitoring_mgmt]
    · exact keepsAllBut_trans (keepsAllBut_mono s.monitoring_keeps (by simp)) (by simp)
    · rw [react_pumpCtl]
      exact (enterMonitor_pumpsOnly (setModeTo .monitor s)).latch
    · rw [react_setpoints, State.monitoring, enterMonitor_trunk]
      rfl
  · have hawake : s.mode ≠ .standby := fun h => by simp [h] at hmode
    obtain ⟨hindicated, htaken⟩ := react_of_standby (s := goStandby s) (congrArg Management.mode (goStandby_mgmt s))
    have hkeeps : keepsAllBut [.mgmt, .pumpCtl, .trunk] s (goStandby s) :=
      keepsAllBut_mono (goStandby_keeps s) (by simp)
    have hdepth : (goStandby s).depth = s.depth := hkeeps .depth (by decide)
    refine ⟨react (goStandby s), exec_setMode_of_ready hs (doSetMode_standby hawake hrotation hrunning), ?_,
      ⟨_, hkeeps, rfl⟩, ?_, ?_, ?_, hindicated, fun hne => htaken (by rwa [hdepth]), fun p => ?_⟩
    · rw [react_mgmt, goStandby_mgmt]
    · rw [react_setpoints, goStandby_setpoints]
      rfl
    · exact keepsAllBut_trans (keepsAllBut_mono (hkeeps) (by simp)) (by simp)
    · rw [react_pumpCtl]
      exact (enterStandby_pumpsOnly (s.onMgmt fun g => { g with mode := .standby, remembered := some s.mode })).latch
    · have hpump := (react_pump p (goStandby s)).trans (goStandby_pump s p)
      exact ⟨fun hnode => hpump.trans (if_neg fun h => (s.used_iff p).mp h hnode),
        fun hnode => hpump.trans (if_pos ((s.used_iff p).mpr hnode))⟩

end Sys2Proof.Machine
end

section
/-! A field frame at the conditioner: the row that takes it, the refused length, and what an acceptance by a
value input leaves (R1, R2, R6 to R10, R20). -/

namespace Sys2Proof.Machine

/-! ### The input that takes a frame (R1) -/

section Input

variable {f : Frame} {i : InputId} {s : State}

theorem State.takes_of_inputOf (h : s.inputOf f = some i) : (s.channel i).takes f = true :=
  List.find?_some (p := fun j => (s.channel j).takes f) h

/-- Over stored tables no two enabled rows take one frame (R3). -/
theorem State.inputOf_eq_some_iff (hlaw : s.tables.law) :
    s.inputOf f = some i ↔ (s.channel i).takes f = true := by
  refine ⟨State.takes_of_inputOf, fun htakes => ?_⟩
  obtain ⟨-, -, -, -, -, -, -, hstream, -⟩ := hlaw
  obtain ⟨j, hj⟩ : ∃ j, s.inputOf f = some j := by
    rw [← Option.isSome_iff_exists, State.inputOf, List.find?_isSome]
    exact ⟨i, List.mem_finRange i, htakes⟩
  have hother := State.takes_of_inputOf hj
  by_cases hji : j = i
  · rw [hj, hji]
  · rw [ChannelRow.takes_iff] at htakes hother
    obtain ⟨hen, hnode, hkind, hchannel⟩ := htakes
    obtain ⟨hen', hnode', hkind', hchannel'⟩ := hother
    have hno := hstream j i hji hen' hen
    have hyes : (s.channel j).sameStream (s.channel i) = true := by
      simp [ChannelRow.sameStream, ← hnode, ← hkind, ← hchannel, ← hnode', ← hkind', ← hchannel']
    exact absurd hyes (by rw [State.channel, State.channel, hno]; decide)

theorem rawOf_head {payload : List Byte} : rawOf inHeadPos payload =
    if payload.length = 4 then some (intOfBytes payload) else none := rfl

theorem rawOf_strokes {p : PumpId} {payload : List Byte} : rawOf (strokeInput p) payload =
    if payload.length = 2 then some (natOfBytes payload : Int) else none := by
  fin_cases p <;> rfl

theorem rawOf_value {payload : List Byte} (hhead : i ≠ inHeadPos) (hpump : pumpOf i = none) :
    rawOf i payload = if payload.length = 2 ∨ payload.length = 4 then some (intOfBytes payload) else none := by
  rw [rawOf, if_neg hhead, hpump]
  rfl

theorem rawOf_eq_none_iff (i : InputId) (payload : List Byte) : rawOf i payload = none ↔
    payload.length ∉ (if i = 0 then [4] else if i = 6 ∨ i = 7 then [2] else [2, 4]) := by
  by_cases hhead : i = 0
  · subst hhead
    have hraw : rawOf 0 payload = if payload.length = 4 then some (intOfBytes payload) else none := rawOf_head
    rw [hraw, if_pos rfl]
    simp
  · rw [if_neg hhead]
    cases hpump : pumpOf i with
    | some p =>
      have hi : i = strokeInput p := eq_strokeInput_of_pumpOf hpump
      subst hi
      have hp : strokeInput p = 6 ∨ strokeInput p = 7 := by
        revert p
        decide
      rw [rawOf_strokes, if_pos hp]
      simp
    | none =>
      have hi : ¬(i = 6 ∨ i = 7) := by
        rintro (rfl | rfl) <;> exact absurd hpump (by decide)
      rw [rawOf_value hhead hpump, if_neg hi]
      simp

/-! ### The frame at the field port (R2, R154) -/

theorem condition_of_some {x : Int} (hin : s.inputOf f = some i) (hraw : rawOf i f.payload = some x) :
    condition f s = accept i x s := by
  rw [condition, hin]
  dsimp only
  rw [hraw]

theorem condition_of_refused (hin : s.inputOf f = some i) (hraw : rawOf i f.payload = none) :
    condition f s = countRefused i s := by
  rw [condition, hin]
  dsimp only
  rw [hraw]

/-- A frame that is no handler report and does not end STARTING is the conditioner's alone. -/
theorem fieldArrival_conditioned (hreport : s.isHandlerReport f = false)
    (hmode : (condition f (s.offerCab f)).mode ≠ .starting ∨
      (condition f (s.offerCab f)).mgmt.checksDone = false) :
    fieldArrival f s = condition f (s.offerCab f) := by
  unfold fieldArrival
  rw [hreport]
  exact checkStarting_of_not hmode

theorem exec_fieldFrame_conditioned (hlen : f.payload.length ≤ 48) (hreport : s.isHandlerReport f = false)
    (hmode : (condition f (s.offerCab f)).mode ≠ .starting ∨
      (condition f (s.offerCab f)).mgmt.checksDone = false) :
    exec (.fieldFrame f.bytes) s = .next (transmit (condition f (s.offerCab f))) := by
  rw [exec_fieldFrame_bytes hlen, fieldArrival_conditioned hreport hmode]
  rfl

end Input

/-- Settles O36: over stored tables the first row that takes the frame is the only one, and a payload of
another length raises one count. -/
theorem fieldFrameIsTakenByItsRowOrRefused : Obligations.FieldFrameIsTakenByItsRowOrRefused := by
  refine fun f i s => ⟨fun hlaw => (State.inputOf_eq_some_iff hlaw).trans (ChannelRow.takes_iff _ _),
    rawOf_eq_none_iff i f.payload, fun hlen hin hraw hreport hmode => ?_⟩
  have hcondition : condition f (s.offerCab f) = countRefused i (s.offerCab f) :=
    condition_of_refused (s := s.offerCab f) hin hraw
  rw [exec_fieldFrame_conditioned hlen hreport (by rw [hcondition]; exact hmode), hcondition]
  rfl

/-! ### An acceptance by a value input (R6, R7, R9, R10) -/

section Value

variable {f : Frame} {i : InputId} {x : Int} {s : State}

/-- The ring a value input has after it takes the raw value `x` (R7, R10). -/
def State.ringAfter (s : State) (i : InputId) (x : Int) : List Int :=
  pushRing (s.channel i).depth (if (s.input i).state = .stale then [] else (s.input i).ring)
    (conditioned (s.channel i) x)

/-- A value input after it has accepted the raw value `x` now (R6, R7, R9). -/
def State.inputAfter (s : State) (i : InputId) (x : Int) : Input := { s.input i with
  state := .fresh
  staleDue := some (s.dueIn (s.channel i).stale)
  acceptedAt := some s.mgmt.clock
  lastRaw := some x
  lastConditioned := some (conditioned (s.channel i) x)
  clamped := decide (conditioned (s.channel i) x ≠ unlimited (s.channel i) x)
  ring := s.ringAfter i x
  smoothed := smoothedOf (s.ringAfter i x) }

/-- The part after a value input has accepted, before the value is handed on. -/
def State.valueTaken (i : InputId) (x : Int) (s : State) : State := freshen i (takeValue i x s)

theorem State.valueTaken_eq (i : InputId) (x : Int) (s : State) :
    s.valueTaken i x = { s with inputs := s.inputs.set i (s.inputAfter i x) } := by
  unfold State.valueTaken freshen takeValue State.onInput
  dsimp only
  rw [set_set_fin, getElem_set_self_fin]
  rfl

theorem State.valueTaken_keeps (i : InputId) (x : Int) (s : State) : keepsAllBut [.inputs] s (s.valueTaken i x) := by
  unfold State.valueTaken
  simp

theorem State.valueTaken_input (i : InputId) (x : Int) (s : State) :
    (s.valueTaken i x).input i = s.inputAfter i x := by
  rw [State.valueTaken_eq]
  exact getElem_set_self_fin _ _ _

theorem pushRing_ne_nil (n : Nat) (ring : List Int) (v : Int) : pushRing n ring v ≠ [] := by
  unfold pushRing
  split <;> simp

theorem smoothedOf_pushRing (n : Nat) (ring : List Int) (v : Int) : smoothedOf (pushRing n ring v) =
    some ((pushRing n ring v).sum.tdiv (pushRing n ring v).length) :=
  if_neg (by simp [List.isEmpty_iff, pushRing_ne_nil])

theorem condition_of_value (hin : s.inputOf f = some i) (hraw : rawOf i f.payload = some x)
    (hhead : i ≠ inHeadPos) (hpump : pumpOf i = none) :
    condition f s = deliver i (conditioned (s.channel i) x) (s.valueTaken i x) := by
  rw [condition_of_some hin hraw, accept, hpump]
  exact if_neg hhead

theorem deliver_other {v : Int} {t : State} (hhook : i ≠ inHookload) (hrotary : i ≠ inRotary)
    (hpressure : i ≠ inPressure) (hflow : i ≠ inFlowOut) (hslips : i ≠ inSlips) : deliver i v t = t := by
  rw [deliver, if_neg hhook, if_neg hrotary, if_neg hpressure, if_neg hflow, if_neg hslips]

theorem deliver_flow (v : Int) (t : State) : deliver inFlowOut v t = collectFlow t := rfl

/-- The inputs after the frame's event, whatever else hears it. -/
theorem fieldArrival_inputs : (fieldArrival f s).inputs = (condition f (s.offerCab f)).inputs := by
  unfold fieldArrival
  dsimp only
  rw [checkStarting_keeps _ .inputs (by decide)]
  split
  · exact handlerReport_keeps _ _ .inputs (by decide)
  · rfl

theorem condition_tables (f : Frame) (s : State) : (condition f s).tables = s.tables := by
  unfold condition
  split
  · rfl
  · split
    · exact accept_keeps _ _ _ .tables (by decide)
    · exact countRefused_keeps _ _ .tables (by decide)

theorem fieldArrival_tables : (fieldArrival f s).tables = s.tables := by
  unfold fieldArrival
  dsimp only
  rw [checkStarting_keeps _ .tables (by decide)]
  split
  · exact (handlerReport_keeps _ _ .tables (by decide)).trans (condition_tables _ _)
  · exact condition_tables _ _

theorem conditioned_eq (r : ChannelRow) (x : Int) :
    conditioned r x = max r.low (min ((x * r.gain).fdiv 1024 + r.offset) r.high) := rfl

end Value

/-- Settles O37: the acceptance leaves the input as the rules say, and of the inputs with no test of their own
only FLOW_OUT goes on, into the period. -/
theorem valueInputConditionsAndSmooths : Obligations.ValueInputConditionsAndSmooths := by
  intro f i x s hlen hin hkind hraw u row free c kept ring mean
  have hhead : i ≠ inHeadPos := fun h => hkind (by simp [h, inHeadPos])
  have hpump : pumpOf i = none := (pumpOf_eq_none_iff i).mpr ⟨fun h => hkind (by simp [h]), fun h => hkind (by simp [h])⟩
  have hcondition : condition f (s.offerCab f) =
      deliver i (conditioned (s.channel i) x) ((s.offerCab f).valueTaken i x) :=
    condition_of_value (s := s.offerCab f) hin hraw hhead hpump
  have hsmoothed : smoothedOf (s.ringAfter i x) = some mean := smoothedOf_pushRing _ _ _
  refine ⟨fieldArrival f s, exec_fieldFrame_bytes hlen s, fieldArrival_tables, ?_, fun hmode hreport => ?_⟩
  · rw [fieldArrival_inputs, hcondition, deliver_keeps _ _ _ .inputs (by decide), State.valueTaken_eq]
    have hafter : (s.offerCab f).inputAfter i x = s.inputAfter i x := rfl
    rw [hafter, State.inputAfter, hsmoothed]
    rfl
  · have htaken : keepsAllBut [.inputs, .trunk] s ((s.offerCab f).valueTaken i x) :=
      keepsAllBut_trans (keepsAllBut_mono (offerCab_keeps f s) (by simp))
        (keepsAllBut_mono (State.valueTaken_keeps i x _) (by simp))
    refine ⟨fun hi => ?_, fun hi => ?_⟩
    · have hdone : condition f (s.offerCab f) = (s.offerCab f).valueTaken i x := by
        rw [hcondition]
        have hval : i.val = 3 ∨ 9 ≤ i.val := hi.imp_left (congrArg Fin.val)
        refine deliver_other ?_ ?_ ?_ ?_ ?_ <;> rintro rfl <;> revert hval <;> decide
      rw [fieldArrival_conditioned hreport (.inl (by rw [hdone]; exact hmode)), hdone]
      exact htaken
    · subst hi
      have hdone : condition f (s.offerCab f) = collectFlow ((s.offerCab f).valueTaken inFlowOut x) := hcondition
      have hcollect : collectFlow ((s.offerCab f).valueTaken inFlowOut x) =
          ((s.offerCab f).valueTaken inFlowOut x).onCirc fun c => { c with
            flowSum := c.flowSum + ((s.offerCab f).valueTaken inFlowOut x).smoothedOr0 inFlowOut
            flowCount := c.flowCount + 1 } := if_neg hmode
      have hmean : ((s.offerCab f).valueTaken inFlowOut x).smoothedOr0 inFlowOut = mean := by
        rw [State.smoothedOr0, State.valueTaken_input]
        exact congrArg (Option.getD · 0) hsmoothed
      rw [fieldArrival_conditioned hreport (.inl (by rw [hdone, hcollect]; exact hmode)), hdone, hcollect, hmean]
      refine ⟨keepsAllBut_trans (keepsAllBut_mono htaken (by simp)) (by simp), rfl⟩

end Sys2Proof.Machine
end

section
/-! A wake from STANDBY: by a request and by rotation (R48, R51, R171, R172). -/

namespace Sys2Proof.Machine

/-! ### A wake (R51, R172) -/

section Wake

variable {s : State} {r : Mode} {cause : WakeCause}

/-- The remembered mode is in force again, and STANDBY left. -/
def State.awakened (r : Mode) (s : State) : State :=
  leaveStandby (s.onMgmt fun g => { g with mode := r, remembered := none })

theorem State.awakened_keeps (r : Mode) (s : State) : keepsAllBut [.mgmt, .pumpCtl] s (s.awakened r) := by
  unfold State.awakened
  simp

theorem State.awakened_mgmt (r : Mode) (s : State) :
    (s.awakened r).mgmt = { s.mgmt with mode := r, remembered := none } :=
  leaveStandby_keeps _ .mgmt (by decide)

theorem State.awakened_trunk (r : Mode) (s : State) : (s.awakened r).trunk = s.trunk :=
  leaveStandby_trunk _

theorem State.awakened_pump (r : Mode) (s : State) (p : PumpId) : (s.awakened r).pump p =
    (s.pump p).left r (s.used p) (State.heldAtZero (s.onMgmt fun g => { g with mode := r, remembered := none })) :=
  leaveStandby_pump _ p

theorem wake_of_standby (hmode : s.mode = .standby) (hr : s.mgmt.remembered = some r) :
    wake cause s = (s.awakened r).raise .wake cause.code r.code := by
  unfold wake
  rw [if_pos hmode, hr]
  rfl

theorem raise_mgmt (t : State) (k : NoticeKind) (n : Nat) (v : Int) : (t.raise k n v).mgmt = t.mgmt :=
  raise_keeps k n v t .mgmt (by decide)

theorem wake_mgmt (hmode : s.mode = .standby) (hr : s.mgmt.remembered = some r) :
    (wake cause s).mgmt = { s.mgmt with mode := r, remembered := none } := by
  rw [wake_of_standby hmode hr, raise_mgmt, State.awakened_mgmt]

theorem wake_pumpsOnly (hmode : s.mode = .standby) (hr : s.mgmt.remembered = some r) :
    s.pumpsOnly (wake cause s) := by
  rw [wake_of_standby hmode hr]
  exact (leaveStandby_pumpsOnly (s.onMgmt fun g => { g with mode := r, remembered := none })).trans
    (State.pumpsOnly_of_keeps (raise_keeps _ _ _ _) (by decide))

theorem wake_pump (hmode : s.mode = .standby) (hr : s.mgmt.remembered = some r) (p : PumpId) :
    (wake cause s).pump p = (s.awakened r).pump p := by
  rw [wake_of_standby hmode hr]
  exact congrArg (fun c : PumpControl => c.pumps[p]) (raise_keeps _ _ _ _ .pumpCtl (by decide))

theorem wake_notified (hmode : s.mode = .standby) (hr : s.mgmt.remembered = some r) :
    notified s (wake cause s) .wake cause.code r.code := by
  rw [wake_of_standby hmode hr]
  refine State.raise_notified _ _ _ _ _ ?_
  rw [State.now, State.awakened_mgmt]
  rfl

end Wake

/-! ### The change to the mode named (R171) -/

section Change

variable {s : State} {m : Mode}

theorem changeMode_cases (hm : m = .monitor ∨ m = .supervised) (s : State) :
    (s.mode = m ∧ changeMode m s = s) ∨ (m = .supervised ∧ changeMode m s = s.supervised) ∨
    (m = .monitor ∧ changeMode m s = s.monitoring) := by
  by_cases hmode : s.mode = m
  · exact .inl ⟨hmode, if_pos hmode⟩
  · rcases hm with rfl | rfl
    · exact .inr (.inr ⟨rfl, changeMode_monitor hmode⟩)
    · exact .inr (.inl ⟨rfl, changeMode_supervised hmode⟩)

theorem changeMode_mgmt (hm : m = .monitor ∨ m = .supervised) (s : State) :
    (changeMode m s).mgmt = { s.mgmt with mode := m } := by
  rcases changeMode_cases hm s with ⟨rfl, he⟩ | ⟨rfl, he⟩ | ⟨rfl, he⟩ <;> rw [he]
  · rfl
  · exact s.supervised_mgmt
  · exact s.monitoring_mgmt

theorem changeMode_pumpsOnly (hm : m = .monitor ∨ m = .supervised) (s : State) :
    s.pumpsOnly (changeMode m s) := by
  rcases changeMode_cases hm s with ⟨-, he⟩ | ⟨-, he⟩ | ⟨-, he⟩ <;> rw [he]
  · exact s.pumpsOnly_refl
  · exact s.supervised_pumpsOnly
  · exact enterMonitor_pumpsOnly (setModeTo .monitor s)

theorem changeMode_trunk (hm : m = .monitor ∨ m = .supervised) (s : State) :
    Trunk.Moved (fun _ => False) true s.trunk (changeMode m s).trunk := by
  rcases changeMode_cases hm s with ⟨-, he⟩ | ⟨-, he⟩ | ⟨-, he⟩ <;> rw [he]
  · exact .refl
  · exact enterSupervised_moved (s := setModeTo .supervised s) .refl
  · rw [State.monitoring, enterMonitor_trunk]
    exact .refl

end Change

/-! ### The pumps after STANDBY (R48, R51) -/

section Left

variable {s : State} {r : Mode} {p : PumpId}

theorem State.awakened_unused_pump (hr : r = .monitor ∨ r = .supervised) (hnode : (s.tables.pumps[p]).node = 0) :
    (s.awakened r).pump p =
      { s.pump p with notFollowing := if r = .monitor then 0 else (s.pump p).notFollowing } := by
  have hused : s.used p = false := Bool.eq_false_iff.mpr fun h => (s.used_iff p).mp h hnode
  rw [State.awakened_pump, hused]
  rcases hr with rfl | rfl <;> rfl

theorem State.awakened_monitor_pump (hnode : (s.tables.pumps[p]).node ≠ 0) : (s.awakened .monitor).pump p =
    { (s.pump p).atZero .stopped with nodeRate := some 0, notFollowing := 0 } := by
  rw [State.awakened_pump, (s.used_iff p).mpr hnode]
  rfl

theorem State.awakened_supervised_pump (hnode : (s.tables.pumps[p]).node ≠ 0) :
    (s.awakened .supervised).pump p = if s.pumpCtl.tripLatch = true ∨ s.tracker.conn ≠ .headOn then s.pump p
      else (s.pump p).atZero .stopped := by
  have hheld : State.heldAtZero (s.onMgmt fun g => { g with mode := .supervised, remembered := none }) =
      (s.pumpCtl.tripLatch || s.tracker.conn != .headOn) := rfl
  rw [State.awakened_pump, (s.used_iff p).mpr hnode, hheld]
  by_cases h : s.pumpCtl.tripLatch = true ∨ s.tracker.conn ≠ .headOn
  · rw [if_pos h]
    have hor : (s.pumpCtl.tripLatch || s.tracker.conn != .headOn) = true := by simpa using h
    rw [hor]
    rfl
  · rw [if_neg h]
    have hor : (s.pumpCtl.tripLatch || s.tracker.conn != .headOn) = false := by simpa using h
    rw [hor]
    rfl

end Left

/-! ### A rotary speed in STANDBY (R172) -/

section Rotary

variable {f : Frame} {s : State} {x v : Int}

theorem deliver_rotary (w : Int) (t : State) : deliver inRotary w t = react (wakeByRotation t) := rfl

theorem State.valueTaken_rotationAbove (hv : smoothedOf (s.ringAfter inRotary x) = some v) :
    (s.valueTaken inRotary x).rotationAbove = decide ((s.tables.limits.stop : Int) < v) := by
  have hinput : ((s.valueTaken inRotary x).input inRotary).smoothed = some v := by
    rw [State.valueTaken_input]
    exact hv
  have hfresh : (s.valueTaken inRotary x).fresh inRotary = true := by
    rw [State.fresh, State.valueTaken_input]
    rfl
  have htables := State.valueTaken_keeps inRotary x s .tables (by decide)
  unfold State.rotationAbove State.limits
  rw [hfresh, hinput, htables]
  rfl

theorem wakeByRotation_of_not (h : s.rotationAbove = false) : wakeByRotation s = s := if_neg (by simp [h])

theorem wakeByRotation_of_above (h : s.rotationAbove = true) : wakeByRotation s = wake .rotation s := if_pos h

end Rotary

/-- Settles O22: a request and a rotation wake by one operation, and a request names the mode that follows. -/
theorem wakesReturnToTheRememberedMode : Obligations.WakesReturnToTheRememberedMode := by
  refine ⟨fun h mode m r s hs hmode hr hlegal hcode hm => ?_,
    fun f x v r s hlen hmode hr hlegal hin hraw hreport hv => ?_⟩
  · have hdo := doSetMode_change (s := s) hm (by rw [hmode]; rcases hm with rfl | rfl <;> decide)
    have hwm := wake_mgmt (cause := .request) hmode hr
    have hmoved := changeMode_trunk hm (wake .request s)
    have hkeeps : keepsAllBut [.mgmt, .pumpCtl, .trunk] s (changeMode m (wake .request s)) := by simp
    have hpump : m = r → ∀ p, (react (changeMode m (wake .request s))).pump p = (s.awakened r).pump p := by
      rintro rfl p
      have hsame : changeMode m (wake .request s) = wake .request s := if_pos (congrArg Management.mode hwm)
      rw [react_pump, hsame, wake_pump hmode hr]
    refine ⟨_, exec_setMode_of_ready hs (by rw [hcode]; exact hdo), ?_, ?_, ⟨_, hkeeps, rfl⟩, ?_, ?_,
      fun hmr p hnode => (hpump hmr p).trans (State.awakened_unused_pump hlegal hnode),
      fun hmr p hnode => ⟨?_, ?_, ?_⟩⟩
    · rw [react_mgmt, changeMode_mgmt hm, hwm]
    · exact ((wake_notified hmode hr).after hmoved (.inr id)).react (.inr (by simp [NoticeKind.ofTests]))
    · exact keepsAllBut_trans (keepsAllBut_mono hkeeps (by simp)) (by simp)
    · rw [react_pumpCtl]
      exact ((wake_pumpsOnly hmode hr).trans (changeMode_pumpsOnly hm _)).latch
    · rintro rfl
      exact (hpump hmr p).trans (State.awakened_monitor_pump hnode)
    · rintro rfl hlatch hconn
      exact (hpump hmr p).trans ((State.awakened_supervised_pump hnode).trans (if_neg (by simp [hlatch, hconn])))
    · rintro rfl hheld
      exact (hpump hmr p).trans ((State.awakened_supervised_pump hnode).trans (if_pos hheld))
  · have hcondition : condition f (s.offerCab f) =
        react (wakeByRotation ((s.offerCab f).valueTaken inRotary x)) :=
      condition_of_value (s := s.offerCab f) hin hraw (by decide) (by decide)
    have hsmoothed : smoothedOf ((s.offerCab f).ringAfter inRotary x) = some v := hv
    generalize ht : (s.offerCab f).valueTaken inRotary x = t at hcondition
    have habove : t.rotationAbove = decide ((s.tables.limits.stop : Int) < v) := by
      rw [← ht]
      exact State.valueTaken_rotationAbove hsmoothed
    have hinput : t.input inRotary = (s.offerCab f).inputAfter inRotary x := by
      rw [← ht, State.valueTaken_input]
    have hkeeps : keepsAllBut [.inputs, .trunk] s t := by
      rw [← ht]
      exact keepsAllBut_trans (keepsAllBut_mono (offerCab_keeps f s) (by simp))
        (keepsAllBut_mono (State.valueTaken_keeps inRotary x _) (by simp))
    have hmgmt : t.mgmt = s.mgmt := hkeeps .mgmt (by decide)
    have hmode' : t.mode = .standby := (congrArg Management.mode hmgmt).trans hmode
    have hr' : t.mgmt.remembered = some r := (congrArg Management.remembered hmgmt).trans hr
    have hnow : s.now = t.now := by rw [State.now, State.now, hmgmt]
    have hinputs : (react (wakeByRotation t)).inputs = t.inputs := by
      rw [react_inputs, wakeByRotation_keeps _ .inputs (by decide)]
    have hinput' : (react (wakeByRotation t)).input inRotary = (s.offerCab f).inputAfter inRotary x :=
      (congrArg (fun u : Vector Input 13 => u[inRotary]) hinputs).trans hinput
    have hwoken : ((s.tables.limits.stop : Int) < v →
        (react (wakeByRotation t)).mgmt = { s.mgmt with mode := r, remembered := none } ∧
        notified s (react (wakeByRotation t)) .wake 1 r.code) ∧
        (v ≤ (s.tables.limits.stop : Int) → (react (wakeByRotation t)).mgmt = s.mgmt) := by
      refine ⟨fun hlow => ?_, fun hhigh => ?_⟩
      · rw [wakeByRotation_of_above (habove.trans (decide_eq_true hlow))]
        refine ⟨by rw [react_mgmt, wake_mgmt hmode' hr', hmgmt], ?_⟩
        exact ((wake_notified (cause := .rotation) hmode' hr').congr hnow rfl).react
          (.inr (by simp [NoticeKind.ofTests]))
      · rw [wakeByRotation_of_not (habove.trans (decide_eq_false hhigh.not_gt)), react_mgmt, hmgmt]
    have hawake : (react (wakeByRotation t)).mode ≠ .starting := by
      rcases lt_or_ge (s.tables.limits.stop : Int) v with hlow | hhigh
      · rw [State.mode, (hwoken.1 hlow).1]
        rcases hlegal with rfl | rfl <;> simp
      · rw [State.mode, hwoken.2 hhigh]
        exact fun h => by simp [show s.mgmt.mode = .standby from hmode] at h
    refine ⟨_, exec_fieldFrame_conditioned hlen hreport (.inl (by rw [hcondition]; exact hawake)), ?_⟩
    rw [hcondition]
    refine ⟨congrArg Input.state hinput', (congrArg Input.smoothed hinput').trans hsmoothed,
      ⟨wakeByRotation t, keepsAllBut_trans (keepsAllBut_mono hkeeps (by simp)) (by simp), rfl⟩, hwoken⟩

end Sys2Proof.Machine
end

section
/-! An accepted standpipe pressure: the trip (R44, R158). -/

namespace Sys2Proof.Machine

section Trip

variable {s : State} {v : Int}

theorem raise_setpoints (t : State) (k : NoticeKind) (n : Nat) (w : Int) :
    (t.raise k n w).trunk.setpoints = t.trunk.setpoints := Trunk.join_setpoints _ _

theorem raise_pumpCtl (t : State) (k : NoticeKind) (n : Nat) (w : Int) : (t.raise k n w).pumpCtl = t.pumpCtl :=
  raise_keeps k n w t .pumpCtl (by decide)

/-- The latch is set with its pressure (R44). -/
def State.latched (v : Int) (s : State) : State :=
  s.onPumpCtl fun c => { c with tripLatch := true, tripPressure := some v }

theorem onPressure_of_not (h : v < (s.tables.limits.trip : Int) ∨ s.pumpCtl.tripLatch = true) :
    onPressure v s = s := by
  refine if_neg fun ⟨_, hclear, hhigh⟩ => h.elim (fun hlow => ?_) fun hlatch => by simp [hlatch] at hclear
  exact hhigh.not_gt hlow

variable (hmode : s.mode ≠ .starting) (hclear : s.pumpCtl.tripLatch = false)
  (hhigh : (s.tables.limits.trip : Int) ≤ v)
include hmode hclear hhigh

theorem onPressure_of_trip : onPressure v s =
    ((if s.commanding = true then forceBothHead (s.latched v) else s.latched v).raise .pressureTrip 0 v) :=
  if_pos ⟨hmode, hclear, hhigh⟩

theorem onPressure_latched : (onPressure v s).pumpCtl.tripLatch = true ∧
    (onPressure v s).pumpCtl.tripPressure = some v := by
  rw [onPressure_of_trip hmode hclear hhigh, raise_pumpCtl]
  split
  · have hpumps := forceBothHead_pumpsOnly (s.latched v)
    exact ⟨hpumps.latch, hpumps.pressure⟩
  · exact ⟨rfl, rfl⟩

theorem onPressure_notified : notified s (onPressure v s) .pressureTrip 0 v := by
  rw [onPressure_of_trip hmode hclear hhigh]
  refine State.raise_notified _ _ _ _ _ ?_
  split
  · rw [State.now, forceBothHead_keeps _ .mgmt (by decide)]
    rfl
  · rfl

theorem onPressure_monitor (hmonitor : s.mode = .monitor) : (onPressure v s).pumpCtl.pumps = s.pumpCtl.pumps ∧
    (onPressure v s).trunk.setpoints = s.trunk.setpoints := by
  have hno : ¬s.commanding = true := by simp [State.commanding, hmonitor]
  rw [onPressure_of_trip hmode hclear hhigh, if_neg hno, raise_pumpCtl, raise_setpoints]
  exact ⟨rfl, rfl⟩

theorem onPressure_forced (hmonitor : s.mode ≠ .monitor) :
    onPressure v s = (forceBothHead (s.latched v)).raise .pressureTrip 0 v := by
  have hcommanding : s.commanding = true := by
    unfold State.commanding
    cases h : s.mode <;> simp_all
  rw [onPressure_of_trip hmode hclear hhigh, if_pos hcommanding]

theorem onPressure_pump (hmonitor : s.mode ≠ .monitor) (p : PumpId) : (onPressure v s).pump p =
    if s.used p = true then { (s.pump p).atZero .forcedOff with nodeRate := some 0 } else s.pump p := by
  rw [onPressure_forced hmode hclear hhigh hmonitor, State.pump, raise_pumpCtl]
  exact forceBothHead_pump (s.latched v) p

theorem onPressure_pairs (hmonitor : s.mode ≠ .monitor)
    (hnodes : (s.tables.pumps[0]).node = 0 ∨ (s.tables.pumps[0]).node ≠ (s.tables.pumps[1]).node) :
    let nodes := ((List.finRange 2).filter fun p => (s.tables.pumps[p]).node ≠ 0).map
      fun p => (s.tables.pumps[p]).node
    (onPressure v s).trunk.setpoints.map (fun e => (e.node, e.rate)) = nodes.map (fun n => (n, 0)) ++
      (s.trunk.setpoints.filter fun e => e.node ∉ nodes).map fun e => (e.node, e.rate) := by
  rw [onPressure_forced hmode hclear hhigh hmonitor, raise_setpoints]
  exact forceBothHead_pairs (s.latched v) hnodes

end Trip

/-! ### A value input hears a frame -/

section Heard

variable {f : Frame} {i : InputId} {x : Int} {s : State}

theorem State.offerCab_setpoints (f : Frame) (s : State) :
    (s.offerCab f).trunk.setpoints = s.trunk.setpoints := by
  unfold State.offerCab
  dsimp only [State.onTrunk]
  split <;> rfl

/-- The part after the frame is offered toward the cab and taken by its value input, before the value is
handed on. -/
def State.valueHeard (f : Frame) (i : InputId) (x : Int) (s : State) : State := (s.offerCab f).valueTaken i x

theorem State.valueHeard_keeps (f : Frame) (i : InputId) (x : Int) (s : State) :
    keepsAllBut [.inputs, .trunk] s (s.valueHeard f i x) :=
  keepsAllBut_trans (keepsAllBut_mono (offerCab_keeps f s) (by simp))
    (keepsAllBut_mono (State.valueTaken_keeps i x _) (by simp))

theorem State.valueHeard_setpoints : (s.valueHeard f i x).trunk.setpoints = s.trunk.setpoints := by
  rw [State.valueHeard, State.valueTaken_eq]
  exact State.offerCab_setpoints f s

theorem State.valueHeard_input : (s.valueHeard f i x).input i = s.inputAfter i x :=
  State.valueTaken_input i x (s.offerCab f)

theorem State.valueHeard_inputs : (s.valueHeard f i x).inputs = s.inputs.set i (s.inputAfter i x) := by
  rw [State.valueHeard, State.valueTaken_eq]
  rfl

theorem State.valueHeard_mgmt : (s.valueHeard f i x).mgmt = s.mgmt := s.valueHeard_keeps f i x .mgmt (by decide)

theorem State.valueHeard_tables : (s.valueHeard f i x).tables = s.tables :=
  s.valueHeard_keeps f i x .tables (by decide)

theorem State.valueHeard_mode : (s.valueHeard f i x).mode = s.mode := congrArg Management.mode State.valueHeard_mgmt

theorem State.valueHeard_now : (s.valueHeard f i x).now = s.now := by
  rw [State.now, State.now, State.valueHeard_mgmt]

theorem condition_heard (hin : s.inputOf f = some i) (hraw : rawOf i f.payload = some x)
    (hhead : i ≠ inHeadPos) (hpump : pumpOf i = none) :
    condition f (s.offerCab f) = deliver i (conditioned (s.channel i) x) (s.valueHeard f i x) :=
  condition_of_value (s := s.offerCab f) hin hraw hhead hpump

end Heard

/-- Settles O27: the acceptance reaches Pump Control with the value as conditioned, and the trip forces the
pumps from the head of the queue. -/
theorem pressureTripForcesThePumpsToZero : Obligations.PressureTripForcesThePumpsToZero := by
  intro f x s hlen hmode hin hraw hreport v
  have hcondition : condition f (s.offerCab f) = onPressure v (s.valueHeard f inPressure x) :=
    condition_heard hin hraw (by decide) (by decide)
  have htaken := s.valueHeard_keeps f inPressure x
  have hnow := State.valueHeard_now (s := s) (f := f) (i := inPressure) (x := x)
  have hset := State.valueHeard_setpoints (s := s) (f := f) (i := inPressure) (x := x)
  generalize s.valueHeard f inPressure x = t at hcondition htaken hnow hset
  have htables : t.tables = s.tables := htaken .tables (by decide)
  have hctl : t.pumpCtl = s.pumpCtl := htaken .pumpCtl (by decide)
  have hmode' : t.mode = s.mode := congrArg Management.mode (htaken .mgmt (by decide))
  refine ⟨_, exec_fieldFrame_conditioned hlen hreport (.inl ?_), ?_⟩
  · rw [hcondition, State.mode, onPressure_keeps v t .mgmt (by decide)]
    exact hmode'.trans_ne hmode
  rw [hcondition]
  refine ⟨keepsAllBut_trans (keepsAllBut_mono htaken (by simp)) (keepsAllBut_mono (onPressure_keeps v t) (by simp)),
    fun hhigh hclear => ?_, fun h => ?_⟩
  · have hhigh' : (t.tables.limits.trip : Int) ≤ v := by rwa [htables]
    have hclear' : t.pumpCtl.tripLatch = false := by rwa [hctl]
    have hstart : t.mode ≠ .starting := hmode'.trans_ne hmode
    obtain ⟨hlatch, hpressure⟩ := onPressure_latched hstart hclear' hhigh'
    refine ⟨hlatch, hpressure, (onPressure_notified hstart hclear' hhigh').congr hnow.symm rfl, fun hmonitor => ?_,
      fun hmonitor => ⟨fun p => ?_, fun hnodes => ?_⟩⟩
    · obtain ⟨hpumps, hsets⟩ := onPressure_monitor hstart hclear' hhigh' (hmode'.trans hmonitor)
      exact ⟨hpumps.trans (congrArg PumpControl.pumps hctl), hsets.trans hset⟩
    · have hpump := onPressure_pump hstart hclear' hhigh' (hmode'.trans_ne hmonitor) p
      rw [State.used_congr p htables, State.pump, State.pump, hctl] at hpump
      exact ⟨fun hnode => hpump.trans (if_neg fun h => (s.used_iff p).mp h hnode),
        fun hnode => hpump.trans (if_pos ((s.used_iff p).mpr hnode))⟩
    · have hpairs := onPressure_pairs hstart hclear' hhigh' (hmode'.trans_ne hmonitor) (by rwa [htables])
      rw [htables, hset] at hpairs
      exact hpairs
  · have h' : v < (t.tables.limits.trip : Int) ∨ t.pumpCtl.tripLatch = true := by rwa [htables, hctl]
    rw [onPressure_of_not h']
    exact ⟨hctl, hset⟩

end Sys2Proof.Machine
end

section
/-! The depth unit's tests: the hole advance, the free hookload and the activity (R86 to R88, R91 to R94). -/

namespace Sys2Proof.Machine

section Tests

variable {s : State}

/-! ### The on-bottom condition and the advance (R86, R87) -/

theorem State.fresh_iff (s : State) (i : InputId) : s.fresh i = true ↔ s.inputs[i].state = .fresh := by
  rw [State.fresh, beq_iff_eq]
  rfl

theorem State.anyRunning_iff (s : State) : s.anyRunning = true ↔ s.running 0 = true ∨ s.running 1 = true := by
  rw [State.anyRunning, Bool.or_eq_true]

theorem State.onBottom_iff (s : State) : s.onBottom = true ↔ s.inputs[inRotary].state = .fresh ∧
    (∃ v, s.inputs[inRotary].smoothed = some v ∧ (s.tables.limits.stop : Int) < v) ∧
    (s.running 0 = true ∨ s.running 1 = true) ∧ s.inputs[inHookload].state = .fresh ∧
    (s.tables.limits.wob : Int) ≤ s.wob ∧ s.inputs[inHeadPos].state = .fresh ∧
    s.depth.hole - s.tables.limits.distance ≤ s.depth.bit := by
  unfold State.onBottom
  rw [Bool.and_eq_true, Bool.and_eq_true, Bool.and_eq_true, Bool.and_eq_true, Bool.and_eq_true,
    State.rotationAbove_iff, State.anyRunning_iff, State.fresh_iff, State.fresh_iff, State.fresh_iff,
    decide_eq_true_iff, decide_eq_true_iff]
  simp only [and_assoc]
  rfl

theorem react_of_notAdvance (h : s.mode = .starting ∨ s.onBottom = false ∨ s.depth.bit ≤ s.depth.hole) :
    react s = reindicate s := by
  refine congrArg reindicate (if_neg fun ⟨hmode, hbottom, hbelow⟩ => ?_)
  rcases h with h | h | h
  · exact hmode h
  · simp [h] at hbottom
  · exact h.not_gt hbelow

theorem react_hole : (react s).depth.hole =
    if s.mode ≠ .starting ∧ s.onBottom = true ∧ s.depth.hole < s.depth.bit then s.depth.bit
    else s.depth.hole := by
  obtain ⟨i, a, due, h⟩ := react_depth s
  rw [h, advanceHole_depth]

theorem react_depth_rest : { (react s).depth with
    hole := s.depth.hole, indicated := s.depth.indicated, taken := s.depth.taken,
    settleDue := s.depth.settleDue } = s.depth := by
  obtain ⟨i, a, due, h⟩ := react_depth s
  rw [h, advanceHole_depth]

/-! ### The free hookload (R88) -/

theorem State.slipsReadsOne_iff (s : State) : s.slipsReadsOne = true ↔ s.inputs[inSlips].smoothed = some 1 := by
  rw [State.slipsReadsOne, beq_iff_eq]
  rfl

theorem State.slipsReadsOne_eq_false_iff (s : State) :
    s.slipsReadsOne = false ↔ s.inputs[inSlips].smoothed ≠ some 1 := by
  rw [← Bool.not_eq_true, State.slipsReadsOne_iff]

theorem onHookload_freeHookload : (onHookload s).depth.freeHookload =
    if s.inputs[inSlips].state = .fresh ∧ s.inputs[inSlips].smoothed ≠ some 1 ∧ s.depth.freeze = none ∧
      s.depth.bit < s.depth.hole - 500 then (s.inputs[inHookload].smoothed).getD 0
    else s.depth.freeHookload := by
  have hcond : (s.fresh inSlips = true ∧ s.slipsReadsOne = false ∧ s.depth.freeze = none ∧
      s.depth.bit < s.depth.hole - Config.freeHookloadDistance) ↔ s.inputs[inSlips].state = .fresh ∧
      s.inputs[inSlips].smoothed ≠ some 1 ∧ s.depth.freeze = none ∧ s.depth.bit < s.depth.hole - 500 := by
    rw [State.fresh_iff, State.slipsReadsOne_eq_false_iff]
    rfl
  unfold onHookload
  split
  · next h => exact (if_pos (hcond.mp h)).symm
  · next h => exact (if_neg fun h' => h (hcond.mpr h')).symm

/-! ### The events of the two inputs (R8, R91) -/

section Events

variable {f : Frame} {x : Int}

/-- A field frame whose conditioning leaves Management as it was, in a state in which it cannot end STARTING. -/
theorem exec_fieldFrame_quiet (hlen : f.payload.length ≤ 48) (hreport : s.isHandlerReport f = false)
    (hmode : s.mode ≠ .starting ∨ s.mgmt.checksDone = false)
    (hmgmt : (condition f (s.offerCab f)).mgmt = s.mgmt) :
    exec (.fieldFrame f.bytes) s = .next (transmit (condition f (s.offerCab f))) :=
  exec_fieldFrame_conditioned hlen hreport (by rwa [State.mode, hmgmt])

theorem condition_rotary (hin : s.inputOf f = some inRotary) (hraw : rawOf inRotary f.payload = some x)
    (hmode : s.mode ≠ .standby) : condition f (s.offerCab f) = react (s.valueHeard f inRotary x) := by
  rw [condition_heard hin hraw (by decide) (by decide), deliver_rotary]
  unfold wakeByRotation
  split
  · rw [wake_of_awake (by rwa [State.valueHeard_mode])]
  · rfl

theorem condition_hookload (hin : s.inputOf f = some inHookload) (hraw : rawOf inHookload f.payload = some x) :
    condition f (s.offerCab f) = react (onHookload (s.valueHeard f inHookload x)) :=
  condition_heard hin hraw (by decide) (by decide)

theorem getElem_set_ne_fin {α : Type} {n : Nat} (v : Vector α n) {i j : Fin n} (h : j ≠ i) (a : α) :
    (v.set i a)[j] = v[j] := by
  have hne : (i : Nat) ≠ j := fun e => h (Fin.ext e.symm)
  simp [hne]

theorem State.valueHeard_other {i j : InputId} (h : j ≠ i) : (s.valueHeard f i x).inputs[j] = s.inputs[j] := by
  rw [State.valueHeard_inputs, getElem_set_ne_fin _ h]

end Events

end Tests

/-- Settles O41: the advance by its five conditions, what the tests leave alone, the free hookload, and the
events of the two inputs that end in the tests. -/
theorem holeAdvancesOnBottomOnly : Obligations.HoleAdvancesOnBottomOnly := by
  intro s wob onBottom
  have hbottom : s.onBottom = true ↔ onBottom := s.onBottom_iff
  refine ⟨fun hmode hon hbelow => ?_, fun hno => ?_, react_keeps s, react_depth_rest, onHookload_freeHookload,
    onHookload_keeps s, fun f x hlen hin hraw hreport hawake hmode => ?_, fun f x hlen hin hraw hreport hmode => ?_⟩
  · rw [react_hole, if_pos ⟨hmode, hbottom.mpr hon, hbelow⟩]
  · have hsame : react s = reindicate s := react_of_notAdvance
      (hno.imp_right fun h => h.imp_left fun hoff => Bool.eq_false_iff.mpr fun h => hoff (hbottom.mp h))
    obtain ⟨i, a, due, hdepth⟩ := reindicate_depth s
    rw [hsame, hdepth]
    exact ⟨rfl, reindicate_keeps s .recorder (by decide), reindicate_keeps s .banks (by decide),
      reindicate_keeps s .billing (by decide)⟩
  · have hcondition := condition_rotary hin hraw hawake
    refine ⟨_, exec_fieldFrame_quiet hlen hreport hmode ?_, ?_⟩
    · rw [hcondition, react_mgmt, State.valueHeard_mgmt]
    · have hinput : (react (s.valueHeard f inRotary x)).input inRotary = s.inputAfter inRotary x := by
        rw [State.input, react_inputs]
        exact State.valueHeard_input
      rw [hcondition]
      exact ⟨⟨_, s.valueHeard_keeps f inRotary x, rfl⟩, congrArg Input.state hinput, congrArg Input.lastRaw hinput⟩
  · intro row
    have hcondition := condition_hookload hin hraw
    have hexec := exec_fieldFrame_quiet hlen hreport hmode (by
      rw [hcondition, react_mgmt, onHookload_keeps _ .mgmt (by decide), State.valueHeard_mgmt])
    rw [hcondition] at hexec
    have hinput := State.valueHeard_input (s := s) (f := f) (i := inHookload) (x := x)
    exact ⟨_, hexec, s.valueHeard_keeps f inHookload x, congrArg Input.state hinput,
      congrArg Input.smoothed hinput, fun j hj => State.valueHeard_other hj⟩

end Sys2Proof.Machine
end

section
/-! The activity: its table, what a change of it does, and the settle timer (R91 to R94). -/

namespace Sys2Proof.Machine

section Table

variable {s : State}

theorem State.slipsSet_iff (s : State) : s.slipsSet = true ↔
    s.inputs[inSlips].state = .fresh ∧ s.inputs[inSlips].smoothed = some 1 := by
  rw [State.slipsSet, Bool.and_eq_true, State.fresh_iff, State.slipsReadsOne_iff]

theorem lt_getD_zero_iff (n : Option Int) : (200 : Int) < n.getD 0 ↔ n.any (fun m => decide (200 < m)) = true := by
  cases n <;> simp

theorem Depth.moving_iff (d : Depth) : d.moving = true ↔
    d.lastMovement.any (fun m => decide (200 < m)) = true ∨
    d.periodHead.any (fun h => decide (200 < |d.head - h|)) = true := by
  have hmovement : d.movement.any (fun m => decide (200 < m)) = d.periodHead.any fun h => decide (200 < |d.head - h|) := by
    rw [Depth.movement]
    cases d.periodHead <;> rfl
  rw [← hmovement, ← lt_getD_zero_iff, ← lt_getD_zero_iff, Depth.moving, Bool.or_eq_true, decide_eq_true_iff,
    decide_eq_true_iff]
  rfl

/-- The table of R91, line by line. -/
theorem State.activityNow_eq (s : State) : s.activityNow =
    if s.mode = .standby then .shutDown
    else if s.inputs[inSlips].state = .fresh ∧ s.inputs[inSlips].smoothed = some 1 then .connection
    else if s.rotationAbove = true ∧ s.onBottom = true then .drilling
    else if s.rotationAbove = true then .reaming
    else if s.running 0 = true ∨ s.running 1 = true then .circulating
    else if s.depth.lastMovement.any (fun m => decide (200 < m)) = true ∨
      s.depth.periodHead.any (fun h => decide (200 < |s.depth.head - h|)) = true then .tripping
    else .idle := by
  simp only [← State.slipsSet_iff, ← State.anyRunning_iff, ← Depth.moving_iff]
  unfold State.activityNow
  by_cases hrotation : s.rotationAbove = true <;> by_cases hbottom : s.onBottom = true <;>
    simp [hrotation, hbottom]

/-! ### What a change does (R93, R94) -/

theorem takeActivity_same {a : Activity} (h : s.depth.taken = a) :
    takeActivity a s = s.onDepth fun d => { d with taken := a, settleDue := none } := if_pos h

theorem takeActivity_notified {a : Activity} (h : s.depth.taken ≠ a) :
    notified s (takeActivity a s) .activity 0 a.code.val := by
  have hraise : takeActivity a s = ((s.onDepth fun d => { d with taken := a, settleDue := none }).raise .activity 0
    a.code.val) := if_neg h
  rw [hraise]
  exact State.raise_notified _ _ _ _ _ rfl

variable {a : Activity}

theorem onIndicated_atOnce {old : Activity} (h : a = .connection ∨ a = .shutDown ∨ old = .shutDown) :
    onIndicated old a s = takeActivity a s := if_pos h

theorem onIndicated_later {old : Activity} (h : ¬(a = .connection ∨ a = .shutDown ∨ old = .shutDown)) :
    onIndicated old a s = s.onDepth fun d => { d with
      settleDue := if a = s.depth.taken then none else some (s.dueIn (1000 * s.settings.settle)) } := by
  unfold onIndicated
  rw [if_neg h]
  split <;> rfl

theorem exec_settleTimerExpiry_stopped (h : s.depth.settleDue = none) :
    exec .settleTimerExpiry s = .next (transmit s) := by
  have hexec : exec .settleTimerExpiry s = finish (onExpiry s.depth.settleDue (takeActivity s.depth.indicated) s) := rfl
  rw [hexec, h]
  rfl

theorem exec_settleTimerExpiry_due {due : Nat} (h : s.depth.settleDue = some due) :
    exec .settleTimerExpiry s = .next (transmit (takeActivity s.depth.indicated (s.reach due))) := by
  have hexec : exec .settleTimerExpiry s = finish (onExpiry s.depth.settleDue (takeActivity s.depth.indicated) s) := rfl
  rw [hexec, h]
  rfl

end Table

/-- Settles O42: the table by its lines, and a change of the indicated activity by whether it is taken at
once. -/
theorem activityIsIndicatedAndTaken : Obligations.ActivityIsIndicatedAndTaken := by
  intro s d indicated t atOnce
  have hnow : s.activityNow = indicated := s.activityNow_eq
  have hkeeps := reindicate_keeps s
  refine ⟨fun h => ?_, react_of_notAdvance, fun hmode hne => ?_, exec_settleTimerExpiry_stopped, fun due hdue => ?_⟩
  · exact reindicate_of_same (h.imp_right fun hsame => hnow.trans hsame.symm)
  · have hne' : s.activityNow ≠ s.depth.indicated := by
      rw [hnow]
      exact hne.symm
    have ht : t = onIndicated d.indicated indicated (s.onDepth fun d => { d with indicated := indicated }) := by
      rw [← hnow]
      exact reindicate_of_change hmode hne'
    refine ⟨(reindicate_indicated hmode).trans hnow, hkeeps, fun h => ?_, fun h => ?_⟩
    · rw [ht, onIndicated_atOnce h]
      refine ⟨?_, ?_, fun hne => ?_⟩
      · rw [takeActivity_depth]
      · rw [takeActivity_depth]
      · exact (takeActivity_notified (s := s.onDepth fun d => { d with indicated := indicated }) hne).congr rfl rfl
    · rw [ht, onIndicated_later h]
      exact ⟨rfl, rfl, rfl⟩
  · refine ⟨_, exec_settleTimerExpiry_due hdue, ?_, ?_, ?_, fun hsame => ?_, fun hne => ?_⟩
    · rw [takeActivity_depth]
      rfl
    · rw [takeActivity_keeps _ _ .mgmt (by decide)]
      rfl
    · refine keepsAllBut_trans ?_ (keepsAllBut_mono (takeActivity_keeps _ _) (by simp))
      unfold State.reach
      simp
    · rw [takeActivity_same (by exact hsame)]
      rfl
    · exact (takeActivity_notified (s := s.reach due) hne).congr rfl rfl

end Sys2Proof.Machine
end

section
/-! What an acceptance by a counter input leaves of the inputs (R9, R12 to R14), and field frames in STARTING
(R173). -/

namespace Sys2Proof.Machine

/-! ### HEAD_POS (R13, R82) -/

section Counters

variable {s : State} {p : PumpId}

theorem State.onInput_onInput (i : InputId) (f g : Input → Input) :
    (s.onInput i f).onInput i g = s.onInput i fun u => g (f u) := by
  unfold State.onInput
  dsimp only
  rw [set_set_fin, getElem_set_self_fin]

/-- HEAD_POS after it has accepted the count `n` (R9, R13). -/
def State.headInput (n : Int) (s : State) : Input := { s.input inHeadPos with
  state := .fresh
  staleDue := some (s.dueIn (s.channel inHeadPos).stale)
  acceptedAt := some s.mgmt.clock
  lastRaw := some n
  historyDropped := false }

/-- The part with the count taken, before the depth unit has it. -/
def State.headTaken (n : Int) (s : State) : State := s.onInput inHeadPos fun _ => s.headInput n

theorem acceptHead_eq (n : Int) (s : State) : acceptHead n s =
    react (if (s.input inHeadPos).historyDropped = true then onHeadResync n (s.headTaken n)
      else onHeadReport n (s.headTaken n)) := by
  have htaken : freshen inHeadPos (s.onInput inHeadPos fun u =>
      { u with lastRaw := some n, historyDropped := false }) = s.headTaken n := s.onInput_onInput inHeadPos _ _
  rw [← htaken]
  rfl

theorem State.headTaken_inputs (n : Int) : (s.headTaken n).inputs = s.inputs.set inHeadPos (s.headInput n) := rfl

theorem acceptHead_inputs (n : Int) (s : State) :
    (acceptHead n s).inputs = s.inputs.set inHeadPos (s.headInput n) := by
  rw [acceptHead_eq, react_inputs]
  split
  · exact onHeadResync_keeps n _ .inputs (by decide)
  · exact onHeadReport_keeps n _ .inputs (by decide)

/-! ### Stroke counts (R12, R14) -/

/-- A stroke input after it has accepted the count `c` (R9, R12). -/
def State.strokeInputTaken (p : PumpId) (c : Nat) (s : State) : Input := { s.input (strokeInput p) with
  state := .fresh
  staleDue := some (s.dueIn (s.channel (strokeInput p)).stale)
  acceptedAt := some s.mgmt.clock
  lastRaw := some (c : Int)
  lastCount := some c }

/-- The part with the count taken, before its strokes are counted. -/
def State.strokesTaken (p : PumpId) (c : Nat) (s : State) : State :=
  s.onInput (strokeInput p) fun _ => s.strokeInputTaken p c

theorem acceptStrokes_eq (p : PumpId) (c : Nat) (s : State) : acceptStrokes p c s =
    match (s.input (strokeInput p)).lastCount with
    | none => s.strokesTaken p c
    | some last =>
      react (if 0 < strokeDelta c last then startRunning p (collectStrokes p (strokeDelta c last) (s.strokesTaken p c))
        else collectStrokes p (strokeDelta c last) (s.strokesTaken p c)) := by
  have htaken : freshen (strokeInput p) (s.onInput (strokeInput p) fun u =>
      { u with lastRaw := some (c : Int), lastCount := some c }) = s.strokesTaken p c :=
    s.onInput_onInput (strokeInput p) _ _
  rw [← htaken]
  rfl

theorem acceptStrokes_first {c : Nat} (h : (s.input (strokeInput p)).lastCount = none) :
    acceptStrokes p c s = s.strokesTaken p c := by
  rw [acceptStrokes_eq, h]

theorem acceptStrokes_next {c last : Nat} (h : (s.input (strokeInput p)).lastCount = some last) :
    acceptStrokes p c s = react (if 0 < strokeDelta c last then
      startRunning p (collectStrokes p (strokeDelta c last) (s.strokesTaken p c))
      else collectStrokes p (strokeDelta c last) (s.strokesTaken p c)) := by
  rw [acceptStrokes_eq, h]

theorem startRunning_inputs (p : PumpId) (t : State) : (startRunning p t).inputs = t.inputs.set (strokeInput p)
    { t.input (strokeInput p) with runningDue := some (t.dueIn 2000) } := by
  unfold startRunning
  dsimp only
  split
  · rfl
  · rw [wake_keeps _ _ .inputs (by decide)]
    rfl

theorem State.strokesTaken_inputs (p : PumpId) (c : Nat) (s : State) :
    (s.strokesTaken p c).inputs = s.inputs.set (strokeInput p) (s.strokeInputTaken p c) := rfl

/-- The inputs after the strokes of a count are counted: a delta above 0 restarts the running timer. -/
theorem acceptStrokes_inputs (p : PumpId) (c : Nat) (s : State) : (acceptStrokes p c s).inputs =
    s.inputs.set (strokeInput p) { s.strokeInputTaken p c with
      runningDue := if (s.input (strokeInput p)).lastCount.any (fun last => decide (0 < strokeDelta c last)) = true
        then some (s.mgmt.clock + 2000) else (s.input (strokeInput p)).runningDue } := by
  cases h : (s.input (strokeInput p)).lastCount with
  | none =>
    rw [acceptStrokes_first h]
    rfl
  | some last =>
    rw [acceptStrokes_next h, react_inputs]
    have hcollect : (collectStrokes p (strokeDelta c last) (s.strokesTaken p c)).inputs =
        s.inputs.set (strokeInput p) (s.strokeInputTaken p c) :=
      collectStrokes_keeps p (strokeDelta c last) _ .inputs (by decide)
    have hclock : (collectStrokes p (strokeDelta c last) (s.strokesTaken p c)).mgmt = s.mgmt :=
      collectStrokes_keeps p (strokeDelta c last) _ .mgmt (by decide)
    by_cases hpos : 0 < strokeDelta c last
    · rw [if_pos hpos, startRunning_inputs, State.input, State.dueIn, hcollect, hclock, set_set_fin,
        getElem_set_self_fin]
      simp [hpos]
    · rw [if_neg hpos, hcollect]
      simp [hpos, State.strokeInputTaken]

end Counters

/-! ### The inputs after a field frame (R9) -/

section Accept

variable {s : State} {i : InputId} {x : Int}

theorem accept_inputs (i : InputId) (x : Int) (s : State) :
    ∃ u : Input, (accept i x s).inputs = s.inputs.set i u ∧ u.state = .fresh := by
  unfold accept
  split
  · next p hp =>
    obtain rfl := eq_strokeInput_of_pumpOf hp
    exact ⟨_, acceptStrokes_inputs p x.toNat s, rfl⟩
  · split
    · next hhead =>
      subst hhead
      exact ⟨_, acceptHead_inputs x s, rfl⟩
    · refine ⟨s.inputAfter i x, ?_, rfl⟩
      have hvalue : acceptValue i x s = deliver i (conditioned (s.channel i) x) (s.valueTaken i x) := rfl
      rw [hvalue, deliver_keeps _ _ _ .inputs (by decide), State.valueTaken_eq]

end Accept

/-! ### In STARTING (R173) -/

section Starting

variable {s : State}

theorem react_of_starting (h : s.mode = .starting) : react s = s :=
  (react_of_notAdvance (.inl h)).trans (reindicate_of_same (.inl h))

theorem handUncertain_of_starting (changed : Bool) (h : s.mode = .starting) : handUncertain changed s = s :=
  if_neg fun hno => hno.2 h

theorem setAnchorUncertain_of_starting (h : s.mode = .starting) :
    setAnchorUncertain s = s.onDepth fun d => { d with anchorUncertain := true } :=
  handUncertain_of_starting (s := s.onDepth fun d => { d with anchorUncertain := true }) _ h

theorem setEncoderUncertain_of_starting (h : s.mode = .starting) :
    setEncoderUncertain s = s.onDepth fun d => { d with encoderUncertain := true } :=
  handUncertain_of_starting (s := s.onDepth fun d => { d with encoderUncertain := true }) _ h

theorem onSlips_starting (readsOne : Bool) (h : s.mode = .starting) : keepsAllBut [.depth] s (onSlips readsOne s) := by
  unfold onSlips
  dsimp only
  split
  · split
    · rw [setAnchorUncertain_of_starting (by exact h)]
      simp
    · simp
  · split <;> simp

theorem onHeadReport_starting (n : Int) (h : s.mode = .starting) :
    keepsAllBut [.depth, .trunk] s (onHeadReport n s) := by
  unfold onHeadReport rejectReport
  dsimp only
  split
  · simp
  · rw [setEncoderUncertain_of_starting (by exact h)]
    simp

theorem collectStrokes_of_starting (p : PumpId) (delta : Nat) (h : s.mode = .starting) :
    collectStrokes p delta s = s := if_pos (.inl h)

theorem startRunning_starting (p : PumpId) (h : s.mode = .starting) : keepsAllBut [.inputs] s (startRunning p s) := by
  unfold startRunning
  dsimp only
  rw [wake_of_awake (by exact fun hm => by simp [show s.mode = .standby from hm] at h)]
  split <;> simp

theorem acceptStrokes_starting (p : PumpId) (c : Nat) (h : s.mode = .starting) :
    keepsAllBut [.inputs] s (acceptStrokes p c s) := by
  have htaken : keepsAllBut [.inputs] s (s.strokesTaken p c) := by
    unfold State.strokesTaken
    simp
  have hmode : (s.strokesTaken p c).mode = .starting := h
  cases hcount : (s.input (strokeInput p)).lastCount with
  | none => rwa [acceptStrokes_first hcount]
  | some last =>
    rw [acceptStrokes_next hcount, collectStrokes_of_starting p _ hmode]
    split
    · have hrun := startRunning_starting p hmode
      rw [react_of_starting ((congrArg Management.mode (hrun .mgmt (by decide))).trans hmode)]
      exact keepsAllBut_trans htaken hrun
    · rwa [react_of_starting hmode]

theorem acceptHead_starting (n : Int) (h : s.mode = .starting) :
    keepsAllBut [.inputs, .depth, .trunk] s (acceptHead n s) := by
  have htaken : keepsAllBut [.inputs] s (s.headTaken n) := by
    unfold State.headTaken
    simp
  have hmode : (s.headTaken n).mode = .starting := h
  rw [acceptHead_eq]
  split
  · rw [react_of_starting (by exact hmode)]
    exact keepsAllBut_trans (keepsAllBut_mono htaken (by simp)) (keepsAllBut_mono (onHeadResync_keeps n _) (by simp))
  · have hreport := onHeadReport_starting n hmode
    rw [react_of_starting ((congrArg Management.mode (hreport .mgmt (by decide))).trans hmode)]
    exact keepsAllBut_trans (keepsAllBut_mono htaken (by simp)) (keepsAllBut_mono hreport (by simp))

theorem deliver_starting (i : InputId) (v : Int) (h : s.mode = .starting) : keepsAllBut [.depth] s (deliver i v s) := by
  have hself : keepsAllBut [.depth] s s := keepsAllBut_refl _ s
  have hmode : ∀ {t : State}, keepsAllBut [.depth] s t → react t = t := fun ht =>
    react_of_starting ((congrArg Management.mode (ht .mgmt (by decide))).trans h)
  unfold deliver
  split
  · rw [hmode (onHookload_keeps s)]
    exact onHookload_keeps s
  · split
    · unfold wakeByRotation
      rw [wake_of_awake (fun hm => by simp [hm] at h), ite_self, hmode hself]
      exact hself
    · split
      · rw [show onPressure v s = s from if_neg fun hno => hno.1 h]
        exact hself
      · split
        · rw [show collectFlow s = s from if_pos h]
          exact hself
        · split
          · rw [hmode (onSlips_starting _ h)]
            exact onSlips_starting _ h
          · exact hself

theorem accept_starting (i : InputId) (x : Int) (h : s.mode = .starting) :
    keepsAllBut [.inputs, .depth, .trunk] s (accept i x s) := by
  unfold accept
  split
  · exact keepsAllBut_mono (acceptStrokes_starting _ _ h) (by simp)
  · split
    · exact acceptHead_starting x h
    · exact keepsAllBut_trans (keepsAllBut_mono (State.valueTaken_keeps i x s) (by simp))
        (keepsAllBut_mono (deliver_starting (s := s.valueTaken i x) i _ h) (by simp))

theorem condition_starting (f : Frame) (h : s.mode = .starting) :
    keepsAllBut [.inputs, .depth, .trunk] s (condition f s) := by
  unfold condition
  split
  · exact keepsAllBut_refl _ s
  · split
    · exact accept_starting _ _ h
    · exact keepsAllBut_mono (countRefused_keeps _ s) (by simp)

theorem handlerReport_starting (payload : List Byte) (h : s.mode = .starting) :
    keepsAllBut [.tracker] s (handlerReport payload s) := by
  unfold handlerReport
  split
  · exact countHandlerError_keeps s
  · rw [if_pos h]
    split
    · unfold setTallyUncertain
      rw [handUncertain_of_starting _ (by exact h)]
      simp
    · exact keepsAllBut_refl _ s

end Starting

end Sys2Proof.Machine
end

section
/-! The end of STARTING (R101, R173). -/

namespace Sys2Proof.Machine

/-! ### The work of the end, block by block (R173) -/

section Ending

variable {s : State}

/-- The start mode is in force, with the first period and the pumps-off mark. -/
def State.firstPeriod (s : State) : State :=
  (beginPeriod (s.onMgmt fun m =>
    { m with mode := s.settings.startMode, holdDue := none, holdExpired := false })).onCirc fun c =>
      { c with pumpsOffAt := some s.mgmt.clock }

/-- Pump Control has entered the start mode too. -/
def State.startEntered (s : State) : State :=
  if s.settings.startMode = .supervised then enterSupervised s.firstPeriod else s.firstPeriod

/-- The part at the end of STARTING, before the depth unit's tests. -/
def State.begun (s : State) : State :=
  let s4 := startMovementPeriod s.startEntered
  if s4.depthUncertain = true then markDepthUncertain s4 else s4

theorem endStarting_eq (s : State) :
    endStarting s = (react s.begun).raise .startComplete s.mgmt.cause.code (lostCode s.mgmt.lost) := rfl

theorem State.firstPeriod_keeps (s : State) : keepsAllBut [.mgmt, .circ] s s.firstPeriod := by
  unfold State.firstPeriod
  simp

theorem State.firstPeriod_mgmt (s : State) : s.firstPeriod.mgmt =
    { s.mgmt with mode := s.settings.startMode, holdDue := none, holdExpired := false } := rfl

theorem State.startEntered_keeps (s : State) : keepsAllBut [.mgmt, .circ, .pumpCtl, .trunk] s s.startEntered := by
  unfold State.startEntered
  have hfirst : keepsAllBut [.mgmt, .circ, .pumpCtl, .trunk] s s.firstPeriod :=
    keepsAllBut_mono s.firstPeriod_keeps (by simp)
  split
  · exact keepsAllBut_trans hfirst (keepsAllBut_mono (enterSupervised_keeps _) (by simp))
  · exact hfirst

theorem State.startEntered_fromFirst (s : State) : keepsAllBut [.pumpCtl, .trunk] s.firstPeriod s.startEntered := by
  unfold State.startEntered
  split
  · exact enterSupervised_keeps _
  · exact keepsAllBut_refl _ _

theorem State.begun_fromEntered (s : State) : keepsAllBut [.depth, .recorder] s.startEntered s.begun := by
  have hstart : keepsAllBut [.depth, .recorder] s.startEntered (startMovementPeriod s.startEntered) := by simp
  unfold State.begun
  dsimp only
  split
  · exact keepsAllBut_trans hstart (keepsAllBut_mono (markDepthUncertain_keeps _) (by simp))
  · exact hstart

theorem State.begun_keeps (s : State) :
    keepsAllBut [.mgmt, .circ, .pumpCtl, .depth, .recorder, .trunk] s s.begun :=
  keepsAllBut_trans (keepsAllBut_mono s.startEntered_keeps (by simp))
    (keepsAllBut_mono s.begun_fromEntered (by simp))

theorem State.begun_depth (s : State) :
    s.begun.depth = { s.depth with periodHead := some s.depth.head, lastMovement := some 0 } := by
  have hdepth : s.startEntered.depth = s.depth := s.startEntered_keeps .depth (by decide)
  have hstart : (startMovementPeriod s.startEntered).depth =
      { s.depth with periodHead := some s.depth.head, lastMovement := some 0 } := by
    rw [← hdepth]
    rfl
  unfold State.begun
  dsimp only
  split
  · rw [markDepthUncertain_keeps _ .depth (by decide), hstart]
  · exact hstart

theorem State.begun_recorder (s : State) : s.begun.recorder = if s.depth.encoderUncertain = true ∨
    s.depth.anchorUncertain = true ∨ s.tracker.tallyUncertain = true then s.recorder.marked else s.recorder := by
  have hdepth : s.startEntered.depth = s.depth := s.startEntered_keeps .depth (by decide)
  have htracker : s.startEntered.tracker = s.tracker := s.startEntered_keeps .tracker (by decide)
  have hrecorder : s.startEntered.recorder = s.recorder := s.startEntered_keeps .recorder (by decide)
  have huncertain : (startMovementPeriod s.startEntered).depthUncertain = true ↔ s.depth.encoderUncertain = true ∨
      s.depth.anchorUncertain = true ∨ s.tracker.tallyUncertain = true := by
    rw [← hdepth, ← htracker, State.depthUncertain, Bool.or_eq_true, Bool.or_eq_true, or_assoc]
    rfl
  unfold State.begun
  dsimp only
  by_cases h : (startMovementPeriod s.startEntered).depthUncertain = true
  · rw [if_pos h, if_pos (huncertain.mp h), markDepthUncertain_recorder, ← hrecorder]
    rfl
  · rw [if_neg h, if_neg fun h' => h (huncertain.mpr h'), ← hrecorder]
    rfl

theorem State.begun_mgmt (s : State) : s.begun.mgmt =
    { s.mgmt with mode := s.settings.startMode, holdDue := none, holdExpired := false } := by
  rw [s.begun_fromEntered .mgmt (by decide), s.startEntered_fromFirst .mgmt (by decide), s.firstPeriod_mgmt]

theorem State.begun_circ (s : State) : s.begun.circ = s.firstPeriod.circ := by
  rw [s.begun_fromEntered .circ (by decide), s.startEntered_fromFirst .circ (by decide)]

theorem State.begun_pumpCtl (s : State) : s.begun.pumpCtl = s.startEntered.pumpCtl :=
  s.begun_fromEntered .pumpCtl (by decide)

theorem endStarting_mgmt (s : State) : (endStarting s).mgmt =
    { s.mgmt with mode := s.settings.startMode, holdDue := none, holdExpired := false } := by
  rw [endStarting_eq, raise_mgmt, react_mgmt, s.begun_mgmt]

theorem endStarting_circ (s : State) : (endStarting s).circ = s.firstPeriod.circ := by
  rw [endStarting_eq, raise_keeps _ _ _ _ .circ (by decide), react_circ, s.begun_circ]

theorem endStarting_pumpCtl (s : State) : (endStarting s).pumpCtl = s.startEntered.pumpCtl := by
  rw [endStarting_eq, raise_pumpCtl, react_pumpCtl, s.begun_pumpCtl]

/-- What the end leaves of the depth unit: the heights of the period, and what the tests move. -/
theorem endStarting_depth (s : State) : ∃ i a due hole, (endStarting s).depth = { s.depth with
    periodHead := some s.depth.head, lastMovement := some 0, indicated := i, taken := a, settleDue := due,
    hole := hole } := by
  obtain ⟨i, a, due, h⟩ := react_depth s.begun
  refine ⟨i, a, due, (advanceHole s.begun).depth.hole, ?_⟩
  rw [endStarting_eq, raise_keeps _ _ _ _ .depth (by decide), h, advanceHole_depth, s.begun_depth]

theorem pitsTaken_of {t : State} (h : t.circ.pits = t.takePits) : pitsTaken t := by
  intro k
  rw [h]
  unfold State.takePits State.pitGood
  rw [Fin.getElem_fin, Vector.getElem_ofFn]
  simp only [Bool.and_eq_true, Fin.eta]

theorem State.takePits_congr {s t : State} (htables : t.tables = s.tables) (hinputs : t.inputs = s.inputs) :
    t.takePits = s.takePits := by
  unfold State.takePits State.pitGood State.channel State.fresh State.smoothedOr0 State.input
  rw [hinputs, htables]

theorem endStarting_pits (s : State) : pitsTaken (endStarting s) := by
  refine pitsTaken_of ?_
  rw [endStarting_circ, State.takePits_congr (endStarting_keeps s .tables (by decide))
    (endStarting_keeps s .inputs (by decide))]
  rfl

theorem endStarting_notified (s : State) :
    notified s (endStarting s) .startComplete s.mgmt.cause.code (lostCode s.mgmt.lost) := by
  rw [endStarting_eq]
  refine State.raise_notified _ _ _ _ _ ?_
  rw [State.now, react_mgmt, s.begun_mgmt]
  rfl

theorem endStarting_pumpCtl_of_monitor (h : s.settings.startMode = .monitor) :
    (endStarting s).pumpCtl = s.pumpCtl := by
  have hentered : s.startEntered = s.firstPeriod := if_neg (by simp [h])
  rw [endStarting_pumpCtl, hentered]
  rfl

theorem endStarting_pump_of_supervised (h : s.settings.startMode = .supervised)
    (hlatch : s.pumpCtl.tripLatch = false) (hconn : s.tracker.conn = .headOn) {p : PumpId}
    (hnode : (s.tables.pumps[p]).node ≠ 0) : ((endStarting s).pumpCtl.pumps[p]).commanded =
      min ((s.pumpCtl.pumps[p]).nodeRate.getD 0) (s.tables.pumps[p]).maxRate := by
  have hentered : s.startEntered = enterSupervised s.firstPeriod := if_pos h
  have hpump : (enterSupervised s.firstPeriod).pump p = s.firstPeriod.adopted p :=
    (enterSupervised_free_pump (s := s.firstPeriod) hlatch hconn p).trans (if_pos ((s.used_iff p).mpr hnode))
  rw [endStarting_pumpCtl, hentered]
  exact congrArg Pump.commanded hpump

/-! ### The test of the end -/

theorem State.mandatoryFresh_iff (s : State) : s.mandatoryFresh = true ↔ ∀ i : InputId,
    (s.tables.channels[i]).enabled = true → (s.tables.channels[i]).mandatory = true →
      s.inputs[i].state = .fresh := by
  simp only [State.mandatoryFresh, List.all_eq_true, List.mem_finRange, true_imp_iff, Bool.or_eq_true,
    Bool.not_eq_true', Bool.and_eq_false_iff, State.fresh_iff]
  refine forall_congr' fun i => ?_
  rw [← Bool.not_eq_true, ← Bool.not_eq_true, State.channel]
  tauto

theorem checkStarting_of_ends (hmode : s.mode = .starting) (hdone : s.mgmt.checksDone = true)
    (h : s.mandatoryFresh = true ∨ s.mgmt.holdExpired = true) : checkStarting s = endStarting s := by
  have hends : s.startingEnds = true := by
    simpa [State.startingEnds, hmode, hdone] using h
  exact if_pos hends

theorem checkStarting_of_stays (h : s.mgmt.checksDone = false ∨
    s.mandatoryFresh = false ∧ s.mgmt.holdExpired = false) : checkStarting s = s := by
  have hends : s.startingEnds = false := by
    rcases h with h | ⟨hfresh, hhold⟩
    · simp [State.startingEnds, h]
    · simp [State.startingEnds, hfresh, hhold]
  exact if_neg (by simp [hends])

end Ending

end Sys2Proof.Machine
end

section
/-! The completion of the retained-area checks (R78, R83, R96, R97, R115, R126, R174). -/

namespace Sys2Proof.Machine

/-! ### The areas, one by one -/

section Areas

variable {s t : State}

/-- The depth unit takes a string length while nothing is marked or tested (R83). -/
def Depth.takeLength (d : Depth) (length : Int) : Depth := { d with
  stringLength := length
  anchorUncertain := d.anchorUncertain || (decide (d.stringLength ≠ length) && d.freeze.isNone) }

theorem handLength_of_starting (h : t.mode = .starting) :
    handLength t = { t with depth := t.depth.takeLength t.tracker.length } := by
  unfold handLength
  by_cases hlength : t.tracker.length = t.depth.stringLength
  · rw [if_pos hlength]
    simp [Depth.takeLength, hlength]
  · rw [if_neg hlength]
    dsimp only
    by_cases hfreeze : t.depth.freeze = none
    · rw [if_pos hfreeze, setAnchorUncertain_of_starting (by exact h), react_of_starting (by exact h)]
      simp [Depth.takeLength, Ne.symm hlength, hfreeze, State.onDepth]
    · rw [if_neg hfreeze, react_of_starting (by exact h)]
      simp [Depth.takeLength, hfreeze, State.onDepth]

theorem handConn_of_starting (old : Conn) (h : t.mode = .starting) : handConn old t = t := by
  have hends : ∀ (p : PumpId) (u : State), u.mode = .starting → endOpenString p u = u := fun p u hu => by
    rw [endOpenString_eq, State.openStringEnds, hu]
    simp
  unfold handConn
  split
  · rfl
  · split
    · rw [eachPump, hends 0 t h, hends 1 t h]
    · rw [if_neg fun hno => by simp [h] at hno]

/-- The STRING area at its defaults: the pending command and the count stand (R78). -/
def Tracker.restored (t : Tracker) : Tracker := { Tracker.default with
  command := t.command, frameErrors := t.frameErrors }

theorem restoreString_of_starting (h : t.mode = .starting) :
    restoreString t = { t with tracker := t.tracker.restored, depth := t.depth.takeLength 0 } := by
  unfold restoreString handMove
  rw [handLength_of_starting (by exact h), handConn_of_starting _ (by exact h)]
  rfl

/-- The DEPTH area at its defaults (R96). -/
def Depth.restored (d : Depth) : Depth := { d with
  head := 0, residue := 0, lastCount := 0, corr := 0, hole := 0, freeHookload := 0
  encoderUncertain := true, anchorUncertain := false }

/-- The state in which the TABLES area has been restored where it is lost. -/
def State.withTables (lost : Bool) (s : State) : State := if lost = true then storeDefaults s else s

theorem State.withTables_keeps (lost : Bool) (s : State) :
    keepsAllBut [.tables, .inputs, .pumpCtl, .tracker, .trunk] s (s.withTables lost) := by
  unfold State.withTables
  split
  · exact storeDefaults_keeps s
  · exact keepsAllBut_refl _ s

theorem State.withTables_tracker (lost : Bool) (s : State) : (s.withTables lost).tracker =
    { s.tracker with command := if lost = true then none else s.tracker.command } := by
  unfold State.withTables
  cases lost
  · rfl
  · exact storeDefaults_tracker s

theorem restoreString_if (lost : Bool) (h : t.mode = .starting) : (if lost = true then restoreString t else t) =
    { t with
      tracker := if lost = true then t.tracker.restored else t.tracker
      depth := if lost = true then t.depth.takeLength 0 else t.depth } := by
  cases lost
  · rfl
  · exact restoreString_of_starting h

theorem restoreDepth_if (lost : Bool) : (if lost = true then restoreDepth t else t) =
    { t with depth := if lost = true then t.depth.restored else t.depth } := by
  cases lost <;> rfl

theorem restoreJob_if (lost : Bool) : (if lost = true then restoreJob t else t) = { t with
    recorder := if lost = true then .default else t.recorder
    banks := if lost = true then Vector.replicate 2 .free else t.banks
    billing := if lost = true then .default else t.billing } := by
  cases lost <;> rfl

/-- The depth unit after the areas are restored (R83, R96). -/
def Depth.afterAreas (d : Depth) (string depth : Bool) : Depth :=
  let d1 := if string = true then d.takeLength 0 else d
  if depth = true then d1.restored else d1

/-- The areas restored, block by block. -/
theorem restoreAreas_eq (lost : FailedAreas) (h : s.mode = .starting) : restoreAreas lost s =
    { s.withTables lost.tables with
      tracker := if lost.string = true then (s.withTables lost.tables).tracker.restored
        else (s.withTables lost.tables).tracker
      depth := s.depth.afterAreas lost.string lost.depth
      recorder := if lost.job = true then .default else s.recorder
      banks := if lost.job = true then Vector.replicate 2 .free else s.banks
      billing := if lost.job = true then .default else s.billing } := by
  have hkeeps := s.withTables_keeps lost.tables
  have hmode : (s.withTables lost.tables).mode = .starting :=
    (congrArg Management.mode (hkeeps .mgmt (by decide))).trans h
  have hdepth : (s.withTables lost.tables).depth = s.depth := hkeeps .depth (by decide)
  have hrecorder : (s.withTables lost.tables).recorder = s.recorder := hkeeps .recorder (by decide)
  have hbanks : (s.withTables lost.tables).banks = s.banks := hkeeps .banks (by decide)
  have hbilling : (s.withTables lost.tables).billing = s.billing := hkeeps .billing (by decide)
  unfold restoreAreas restoreTables
  dsimp only
  rw [restoreJob_if, restoreDepth_if]
  have hstring := restoreString_if lost.string hmode
  unfold State.withTables at hstring hdepth hrecorder hbanks hbilling
  rw [hstring, hdepth, hrecorder, hbanks, hbilling]
  rfl

end Areas

end Sys2Proof.Machine
end

section
/-! The checks' event, and that STARTING is not over before it (R173, R174). -/

namespace Sys2Proof.Machine

section Checks

variable {s : State} {failed : FailedAreas}

/-- The part with the lost areas restored and the checks complete, before the end of STARTING is tested. -/
def State.checked (failed : FailedAreas) (s : State) : State :=
  (restoreAreas (lostAreas failed s) s).onMgmt fun m => { m with checksDone := true, lost := lostAreas failed s }

theorem completeChecks_of_starting (hmode : s.mode = .starting) (hdone : s.mgmt.checksDone = false) :
    completeChecks failed s = checkStarting (s.checked failed) := if_pos ⟨hmode, hdone⟩

theorem completeChecks_of_not (h : s.mode ≠ .starting ∨ s.mgmt.checksDone = true) : completeChecks failed s = s :=
  if_neg fun ⟨hmode, hdone⟩ => h.elim (fun hno => hno hmode) fun hno => by simp [hno] at hdone

theorem State.withTables_mgmt (lost : Bool) : (s.withTables lost).mgmt = s.mgmt :=
  s.withTables_keeps lost .mgmt (by decide)

theorem State.checked_mgmt (h : s.mode = .starting) : (s.checked failed).mgmt =
    { s.mgmt with checksDone := true, lost := lostAreas failed s } := by
  rw [State.checked, restoreAreas_eq _ h, ← s.withTables_mgmt (lostAreas failed s).tables]
  rfl

theorem State.checked_circ (h : s.mode = .starting) : (s.checked failed).circ = s.circ := by
  rw [State.checked, restoreAreas_eq _ h]
  exact s.withTables_keeps _ .circ (by decide)

theorem State.checked_pending (h : s.mode = .starting) : (s.checked failed).pending = s.pending := by
  rw [State.checked, restoreAreas_eq _ h]
  exact s.withTables_keeps _ .pending (by decide)

theorem State.checked_tables (h : s.mode = .starting) :
    (s.checked failed).tables = (s.withTables failed.tables).tables := by
  rw [State.checked, restoreAreas_eq _ h]
  rfl

theorem State.checked_inputs (h : s.mode = .starting) :
    (s.checked failed).inputs = (s.withTables failed.tables).inputs := by
  rw [State.checked, restoreAreas_eq _ h]
  rfl

theorem State.checked_pumpCtl (h : s.mode = .starting) :
    (s.checked failed).pumpCtl = (s.withTables failed.tables).pumpCtl := by
  rw [State.checked, restoreAreas_eq _ h]
  rfl

theorem State.checked_trunk (h : s.mode = .starting) :
    (s.checked failed).trunk = (s.withTables failed.tables).trunk := by
  rw [State.checked, restoreAreas_eq _ h]
  rfl

theorem State.checked_tracker (h : s.mode = .starting) : (s.checked failed).tracker =
    if failed.string = true then (s.withTables failed.tables).tracker.restored
    else (s.withTables failed.tables).tracker := by
  rw [State.checked, restoreAreas_eq _ h]
  rfl

theorem State.checked_depth (h : s.mode = .starting) :
    (s.checked failed).depth = s.depth.afterAreas failed.string failed.depth := by
  rw [State.checked, restoreAreas_eq _ h]
  rfl

/-- The recorder, the banks and the meter after the checks (R126). -/
theorem State.checked_job (h : s.mode = .starting) :
    (s.checked failed).recorder = (if (lostAreas failed s).job = true then .default else s.recorder) ∧
    (s.checked failed).banks = (if (lostAreas failed s).job = true then Vector.replicate 2 .free else s.banks) ∧
    (s.checked failed).billing = (if (lostAreas failed s).job = true then .default else s.billing) := by
  rw [State.checked, restoreAreas_eq _ h]
  exact ⟨rfl, rfl, rfl⟩

end Checks

/-! ### STARTING is not over before the checks (R173) -/

section NotBefore

variable {s : State}

theorem mode_of_keeps {l : List Block} {t : State} (h : keepsAllBut l s t) (hl : Block.mgmt ∉ l)
    (hmode : s.mode = .starting) : t.mode = .starting := (congrArg Management.mode (h .mgmt hl)).trans hmode

variable (hmode : s.mode = .starting)
include hmode

/-- A field frame in STARTING changes the inputs, the depth unit and the tracker, up to the test of the end. -/
theorem fieldArrival_starting (f : Frame) : ∃ t, fieldArrival f s = checkStarting t ∧
    keepsAllBut [.inputs, .depth, .tracker, .trunk] s t ∧ t.inputs = (condition f (s.offerCab f)).inputs := by
  have hoffer := offerCab_keeps f s
  have hcondition := condition_starting f (mode_of_keeps hoffer (by decide) hmode)
  have hheard : keepsAllBut [.inputs, .depth, .tracker, .trunk] s (condition f (s.offerCab f)) :=
    keepsAllBut_trans (keepsAllBut_mono hoffer (by simp)) (keepsAllBut_mono hcondition (by simp))
  unfold fieldArrival
  dsimp only
  split
  · have hreport := handlerReport_starting f.payload (mode_of_keeps hheard (by decide) hmode)
    exact ⟨_, rfl, keepsAllBut_trans hheard (keepsAllBut_mono hreport (by simp)), hreport .inputs (by decide)⟩
  · exact ⟨_, rfl, hheard, rfl⟩

theorem cabArrival_starting (f : Frame) : (cabArrival f s).mode = .starting := by
  unfold cabArrival setpointArrival
  split
  · split
    · rcases serveFrame_cases f s with he | ⟨w, r, he, rfl | rfl | ⟨hready, -⟩⟩
      · rw [he]
        exact hmode
      · rw [he]
        exact hmode
      · rw [he]
        exact hmode
      · exact absurd hmode hready
    · exact hmode
  · split
    · split
      · exact mode_of_keeps (pumpSetpointFrame_keeps _ f s) (by decide) hmode
      · split
        · exact mode_of_keeps (handlerFrame_keeps f s) (by decide) hmode
        · exact hmode
    · exact hmode

variable (hdone : s.mgmt.checksDone = false)
include hdone

theorem checkStarting_keepsStarting {l : List Block} {t : State} (h : keepsAllBut l s t) (hl : Block.mgmt ∉ l) :
    (checkStarting t).mode = .starting := by
  have hchecks : t.mgmt.checksDone = false := (congrArg Management.checksDone (h .mgmt hl)).trans hdone
  rw [checkStarting_of_not (.inr hchecks)]
  exact mode_of_keeps h hl hmode

theorem Works.keepsStarting {c : Instr} {w : State} (h : Works s c w)
    (hc : ∀ failed, c ≠ .checksComplete failed) : w.mode = .starting := by
  have hreach : ∀ due, (s.reach due).mode = .starting := fun _ => hmode
  cases h with
  | none => exact hmode
  | fieldFrame _ f =>
    obtain ⟨t, he, hkeeps, -⟩ := fieldArrival_starting hmode f
    rw [he]
    exact checkStarting_keepsStarting hmode hdone hkeeps (by decide)
  | fieldError => exact hmode
  | cabFrame _ f _ => exact cabArrival_starting hmode f
  | cabError => exact hmode
  | cabSent =>
    unfold endCabSend
    split
    · rfl
    · exact hmode
  | fieldSent => exact hmode
  | secondTick =>
    exact (congrArg Management.mode (secondTickWork_keeps_ticked s .mgmt (by decide))).trans hmode
  | cadence => exact mode_of_keeps (takeCadence_keeps s) (by decide) hmode
  | staleExpiry _ i due => exact mode_of_keeps (goStale_keeps i _) (by decide) (hreach due)
  | runningExpiry _ p due => exact mode_of_keeps (stopRunning_keeps p _) (by decide) (hreach due)
  | periodExpiry _ due _ => exact mode_of_keeps (endPeriod_keeps _) (by decide) (hreach due)
  | handlerExpiry _ due =>
    unfold expireHandler
    split
    · exact mode_of_keeps (handlerExpiry_keeps _ _) (by decide) (hreach due)
    · exact hreach due
  | settleExpiry _ due => exact mode_of_keeps (takeActivity_keeps _ _) (by decide) (hreach due)
  | holdExpiry _ due =>
    unfold expireStartHold
    rw [checkStarting_of_not (.inr (by exact hdone))]
    exact hmode
  | checks failed => exact absurd rfl (hc failed)
  | endOfStarting => exact checkStarting_keepsStarting hmode hdone (keepsAllBut_refl [] s) (by decide)
  | reset => rfl

end NotBefore

end Sys2Proof.Machine
end

section
/-! The completion of the checks and the end of STARTING, event by event (R173, R174). -/

namespace Sys2Proof.Machine

/-! ### The retained areas (R126, R174) -/

theorem transmit_mode (s : State) : (transmit s).mode = s.mode :=
  congrArg Management.mode (transmit_keeps s .mgmt (by decide))

section Areas

variable {s : State} {failed : FailedAreas}

theorem exec_checksComplete (failed : FailedAreas) (s : State) :
    exec (.checksComplete failed) s = .next (transmit (completeChecks failed s)) := rfl

theorem exec_endOfStarting (s : State) : exec .endOfStarting s = .next (transmit (checkStarting s)) := rfl

theorem checkStarting_marks (s : State) : (checkStarting s).mgmt.checksDone = s.mgmt.checksDone ∧
    (checkStarting s).mgmt.lost = s.mgmt.lost := by
  unfold checkStarting
  split
  · rw [endStarting_mgmt]
    exact ⟨rfl, rfl⟩
  · exact ⟨rfl, rfl⟩

theorem State.withTables_pump (p : PumpId) (hnode : (s.tables.pumps[p]).node ≠ 0) :
    (s.withTables true).pumpCtl.pumps[p] = { s.pumpCtl.pumps[p] with
      requested := 0, commanded := 0, control := .stopped, notFollowing := 0, saturated := false
      nodeRate := none } := (storeDefaults_pump p hnode).1

/-- What the failing of the areas leaves of the depth unit (R78, R83, R96). -/
theorem Depth.afterAreas_eq (d : Depth) (string depth : Bool) : d.afterAreas string depth =
    let d1 : Depth := { d with
      stringLength := if string = true then 0 else d.stringLength
      anchorUncertain := d.anchorUncertain || (string && decide (d.stringLength ≠ 0) && d.freeze.isNone) }
    if depth = true then { d1 with
      head := 0, residue := 0, lastCount := 0, corr := 0, hole := 0, freeHookload := 0
      encoderUncertain := true, anchorUncertain := false } else d1 := by
  cases string <;> simp [Depth.afterAreas, Depth.takeLength, Depth.restored]

end Areas

/-- Settles O24: each lost area is restored block by block, and the end of STARTING is tested on what that
leaves; no other event gets past the checks. -/
theorem checksCompleteRestoresLostAreas : Obligations.ChecksCompleteRestoresLostAreas := by
  refine ⟨fun failed s hmode hdone => ?_, fun failed s h => ?_, fun c s t hmode hdone hc ht => ?_⟩
  · intro jobLost d command
    obtain ⟨hrecorder, hbanks, hbilling⟩ := State.checked_job (failed := failed) hmode
    obtain ⟨hmarked, hlost⟩ := checkStarting_marks (s.checked failed)
    have hmgmt := State.checked_mgmt (failed := failed) hmode
    have hdepth := State.checked_depth (failed := failed) hmode
    have htracker := State.checked_tracker (failed := failed) hmode
    rw [Depth.afterAreas_eq] at hdepth
    rw [s.withTables_tracker] at htracker
    refine ⟨s.checked failed, checkStarting (s.checked failed), ?_, exec_endOfStarting _, fun ⟨i, hen, hman, hold⟩ hhold => ?_,
      ?_, ?_, hmgmt, State.checked_circ hmode, State.checked_pending hmode, fun htables => ⟨?_, ?_, fun p hnode => ?_⟩,
      fun htables => ?_, fun hstring => ?_, fun hstring => ?_, fun hd => ?_, fun hd => ?_, fun hjob => ?_, fun hjob => ?_⟩
    · rw [exec_checksComplete, completeChecks_of_starting hmode hdone]
    · refine checkStarting_of_stays (.inr ⟨?_, ?_⟩)
      · refine Bool.eq_false_iff.mpr fun hfresh => hold ((State.mandatoryFresh_iff _).mp hfresh i hen hman)
      · rw [hmgmt]
        exact hhold
    · rw [hmarked, hmgmt]
    · rw [hlost, hmgmt]
      rfl
    · rw [State.checked_tables hmode, htables]
      exact storeDefaults_tables s
    · rw [State.checked_inputs hmode, htables]
      exact storeDefaults_inputs s
    · rw [State.checked_pumpCtl hmode, htables]
      exact State.withTables_pump p hnode
    · rw [State.checked_tables hmode, State.checked_inputs hmode, State.checked_pumpCtl hmode,
        State.checked_trunk hmode, htables]
      exact ⟨rfl, rfl, rfl, rfl⟩
    · rw [htracker, if_pos hstring]
      rfl
    · rw [htracker, if_neg (by simp [hstring])]
    · rw [hdepth, hd]
      rfl
    · rw [hdepth, hd]
      rfl
    · have hjob' : (lostAreas failed s).job = true := hjob
      rw [hrecorder, hbanks, hbilling, if_pos hjob', if_pos hjob', if_pos hjob']
      exact ⟨rfl, rfl, rfl⟩
    · have hjob' : ¬(lostAreas failed s).job = true := by
        rw [show (lostAreas failed s).job = false from hjob]
        decide
      rw [hrecorder, hbanks, hbilling, if_neg hjob', if_neg hjob', if_neg hjob']
      exact ⟨rfl, rfl, rfl⟩
  · rw [exec_checksComplete, completeChecks_of_not h]
  · obtain ⟨w, hw, rfl⟩ := exec_next_works ht
    rw [transmit_mode]
    exact hw.keepsStarting hmode hdone hc

end Sys2Proof.Machine
end

section
/-! The end of STARTING in each event that can complete its condition (R173). -/

namespace Sys2Proof.Machine

section Ends

variable {s : State}

theorem exec_startHoldTimerExpiry {due : Nat} (h : s.mgmt.holdDue = some due) :
    exec .startHoldTimerExpiry s = .next (transmit (checkStarting
      { s with mgmt := { s.mgmt with clock := max s.mgmt.clock due, holdDue := none, holdExpired := true } })) := by
  have hexec : exec .startHoldTimerExpiry s = finish (onExpiry s.mgmt.holdDue expireStartHold s) := rfl
  rw [hexec, h]
  rfl

end Ends

/-- Settles O25: the four events test one condition, and the end does one work. -/
theorem startingEndsAsSoonAsItCan : Obligations.StartingEndsAsSoonAsItCan := by
  intro s hmode _ fresh ends endsIfItCan
  have hends : ∀ u t : State, keepsAllBut [.mgmt] u t → t.mgmt.cause = u.mgmt.cause →
      t.mgmt.lost = u.mgmt.lost → t.now = u.now → ends u (endStarting t) := by
    intro u t hkeeps hcause hlost hnow
    have htables : t.tables = u.tables := hkeeps .tables (by decide)
    have hinputs : t.inputs = u.inputs := hkeeps .inputs (by decide)
    have hctl : t.pumpCtl = u.pumpCtl := hkeeps .pumpCtl (by decide)
    have htracker : t.tracker = u.tracker := hkeeps .tracker (by decide)
    have hdepth : t.depth = u.depth := hkeeps .depth (by decide)
    have hrecorder : t.recorder = u.recorder := hkeeps .recorder (by decide)
    have hsettings : t.settings = u.settings := congrArg Tables.settings htables
    have hnotified := endStarting_notified t
    have heq := endStarting_eq t
    rw [hcause, hlost] at hnotified heq
    have hkeeps' := endStarting_keeps t
    refine ⟨?_, ?_, ?_, ?_, endStarting_pits t, ⟨t.begun, heq, ?_, ?_, ?_⟩, ?_, ?_, ?_,
      hnotified.congr hnow.symm rfl, fun hmonitor => ?_, fun hsup hlatch hconn p hnode => ?_⟩
    · rw [endStarting_mgmt, ← hsettings]
    · rw [endStarting_mgmt]
    · rw [endStarting_circ, endStarting_mgmt, ← hsettings]
      rfl
    · rw [endStarting_circ, endStarting_mgmt]
      rfl
    · rw [t.begun_depth, hdepth]
    · rw [t.begun_recorder, hdepth, htracker, hrecorder]
    · exact keepsAllBut_trans (keepsAllBut_mono hkeeps (by simp)) t.begun_keeps
    · rw [hkeeps' .inputs (by decide), hinputs]
    · rw [hkeeps' .tables (by decide), htables]
    · rw [hkeeps' .tracker (by decide), htracker]
    · rw [endStarting_pumpCtl_of_monitor (by rw [hsettings]; exact hmonitor), hctl]
    · have hpump := endStarting_pump_of_supervised (s := t) (by rw [hsettings]; exact hsup)
        (by rw [hctl]; exact hlatch) (by rw [htracker]; exact hconn) (p := p) (by rw [htables]; exact hnode)
      rw [htables, hctl] at hpump
      exact hpump
  have hcan : ∀ t : State, t.mode = .starting → endsIfItCan t (checkStarting t) := by
    intro t ht
    have hfresh : t.mandatoryFresh = true ↔ fresh t := t.mandatoryFresh_iff
    refine ⟨fun hdone hready => ?_, fun hstays => checkStarting_of_stays (hstays.imp_right fun ⟨hno, hhold⟩ =>
      ⟨Bool.eq_false_iff.mpr fun h => hno (hfresh.mp h), hhold⟩)⟩
    rw [checkStarting_of_ends ht hdone (hready.imp_left hfresh.mpr)]
    exact ⟨hends t t (keepsAllBut_refl _ t) rfl rfl rfl, by rw [endStarting_mgmt]⟩
  refine ⟨⟨_, exec_endOfStarting s, hcan s hmode⟩, fun due hdue hdone => ?_, fun due hdue hdone => ?_,
    fun f hlen => ?_, fun failed hdone => ?_⟩
  · refine ⟨_, exec_startHoldTimerExpiry hdue, ?_, ?_⟩
    · rw [checkStarting_of_ends (by exact hmode) (by exact hdone) (.inr rfl)]
      exact hends s _ (fun b hb => by cases b <;> simp_all [sameIn]) rfl rfl rfl
    · rw [checkStarting_of_ends (by exact hmode) (by exact hdone) (.inr rfl), endStarting_mgmt]
  · rw [exec_startHoldTimerExpiry hdue, checkStarting_of_stays (.inl (by exact hdone))]
  · obtain ⟨t, he, hkeeps, hinputs⟩ := fieldArrival_starting hmode f
    refine ⟨t, checkStarting t, by rw [exec_fieldFrame_bytes hlen, he]; rfl,
      hcan t (mode_of_keeps hkeeps (by decide) hmode), hkeeps, fun hnone => ?_, fun i x hin hraw => ?_⟩
    · rw [hinputs, condition_of_none (s := s.offerCab f) hnone]
      rfl
    · obtain ⟨u, hu, hfresh⟩ := accept_inputs i x (s.offerCab f)
      rw [hinputs, condition_of_some (s := s.offerCab f) hin hraw, hu, getElem_set_self_fin]
      exact ⟨hfresh, fun j hj => getElem_set_ne_fin _ hj _⟩
  · have hmgmt := State.checked_mgmt (failed := failed) hmode
    have hmode' : (s.checked failed).mode = .starting := (congrArg Management.mode hmgmt).trans hmode
    refine ⟨s.checked failed, checkStarting (s.checked failed), ?_, hcan _ hmode', hmode', ?_, ?_, ?_, ?_,
      fun htables => ?_, fun htables => ?_⟩
    · rw [exec_checksComplete, completeChecks_of_starting hmode hdone]
    · rw [hmgmt]
    · rw [hmgmt]
    · rw [hmgmt]
    · rw [hmgmt]
    · rw [State.checked_tables hmode, State.checked_inputs hmode, htables]
      exact ⟨rfl, rfl⟩
    · rw [State.checked_tables hmode, htables]
      exact storeDefaults_tables s

end Sys2Proof.Machine
end

section
/-! Site time, the restart and the resets (R170, R174). -/

namespace Sys2Proof.Machine

section Resets

variable {h : ReqHeader} {s : State}

theorem exec_restart_of_ready (hs : s.ready) : exec (.restart h) s =
    answers { s with mgmt := { s.mgmt with restartDue := true } } h 8 (.plain .done) :=
  finish_serve_of_ready (f := doRestart) hs rfl

theorem exec_setTime_of_ready {seconds : BitVec 32} (hs : s.ready) : exec (.setTime h seconds) s =
    answers { s with mgmt := { s.mgmt with siteTime := seconds, timeUnset := false } } h 7 (.plain .done) :=
  finish_serve_of_ready (f := doSetTime seconds) hs rfl

theorem State.restartReplySent_iff (s : State) : s.restartReplySent = true ↔ s.mgmt.restartDue = true ∧
    s.trunk.replySlot = none ∧ ∃ c, s.trunk.cabSending = some c ∧ c.source = .reply := by
  simp [State.restartReplySent, and_assoc, Option.any_eq_true]

theorem exec_cabSendComplete_of_reset (hsent : s.restartReplySent = true) :
    exec .cabSendComplete s = .next (s.afterReset .restart) := by
  have hend : endCabSend s = s.afterReset .restart := if_pos hsent
  exact congrArg finish hend

theorem exec_restartReset_of_reset (hsent : s.restartReplySent = true) :
    exec .restartReset s = .next (s.afterReset .restart) :=
  congrArg finish (if_pos hsent)

theorem exec_restartReset_of_not (hsent : s.restartReplySent = false) :
    exec .restartReset s = .next (transmit s) :=
  congrArg finish (if_neg (by simp [hsent]))

end Resets

/-- Settles O23: each reset is one operation, and a restart waits for the end of its reply's send. -/
theorem siteTimeRunsAndResetsKeepTheRetainedAreas : Obligations.SiteTimeRunsAndResetsKeepTheRetainedAreas := by
  refine ⟨fun h s => ?_, fun h seconds s => ⟨exec_setTime_of_ready, ?_, fun c hc => ?_⟩⟩
  · intro reset
    refine ⟨exec_restart_of_ready, rfl, rfl, fun f hdue hslot hsending => ?_, fun hnot => ?_⟩
    · have hsent := s.restartReplySent_iff.mpr ⟨hdue, hslot, ⟨.reply, f⟩, hsending, rfl⟩
      exact ⟨exec_cabSendComplete_of_reset hsent, exec_restartReset_of_reset hsent⟩
    · have hsent := State.restartReplySent_eq_false hnot
      refine ⟨exec_restartReset_of_not hsent, _, exec_cabSendComplete_of_noReset hsent, ?_⟩
      exact keepsAllBut_trans (by simp) (transmit_keeps _)
  · refine ⟨_, exec_secondTick s, ?_⟩
    rw [transmit_keeps _ .mgmt (by decide), meterSecond_keeps _ .mgmt (by decide), s.gathered_mgmt, s.ticked_mgmt]
  · rcases hc with rfl | rfl
    · exact ⟨_, rfl, rfl, rfl⟩
    · exact ⟨_, rfl, rfl, rfl⟩

end Sys2Proof.Machine
end

section
/-! A SLIPS reading: the freeze, its release and the anchor (R83 to R85, R89). -/

namespace Sys2Proof.Machine

section Slips

variable {s : State}

/-- The depth unit after a SLIPS reading (R84, R85). -/
def Depth.slipsRead (d : Depth) (readsOne : Bool) : Depth :=
  if d.awaitSlips = true then
    if readsOne = true then { d with awaitSlips := false, freeze := some d.bit, anchorUncertain := true }
    else { d with awaitSlips := false }
  else
    match d.freeze, readsOne with
    | none, true => { d with freeze := some d.bit }
    | some b, false => { d with freeze := none, corr := b - d.stringLength + d.head }
    | _, _ => d

theorem onSlips_depth (readsOne : Bool) (s : State) : (onSlips readsOne s).depth = s.depth.slipsRead readsOne := by
  unfold onSlips Depth.slipsRead
  dsimp only
  split
  · split
    · rw [setAnchorUncertain_depth]
      rfl
    · rfl
  · rcases hfreeze : s.depth.freeze with _ | b <;> cases readsOne <;> rfl

/-- A new setting of ANCHOR_UNCERTAIN outside STARTING marks the open interval (R89, R101). -/
theorem onSlips_recorder (readsOne : Bool) (s : State) : (onSlips readsOne s).recorder =
    if (s.depth.awaitSlips = true ∧ readsOne = true) ∧ s.depth.anchorUncertain = false ∧ s.mode ≠ .starting then
      s.recorder.marked else s.recorder := by
  unfold onSlips
  dsimp only
  by_cases hawait : s.depth.awaitSlips = true
  · rw [if_pos hawait]
    by_cases hone : readsOne = true
    · rw [if_pos hone, setAnchorUncertain_recorder]
      by_cases hnew : s.depth.anchorUncertain = false ∧ s.mode ≠ .starting
      · rw [if_pos (by exact hnew), if_pos ⟨⟨hawait, hone⟩, hnew⟩]
        rfl
      · rw [if_neg (by exact hnew), if_neg fun h => hnew h.2]
        rfl
    · rw [if_neg hone, if_neg fun h => hone h.1.2]
      rfl
  · rw [if_neg hawait, if_neg fun h => hawait h.1.1]
    rcases hfreeze : s.depth.freeze with _ | b <;> cases readsOne <;> rfl

/-- Where the freeze is not both awaited and set, a reading sets or clears it. -/
theorem Depth.slipsRead_eq (d : Depth) (readsOne : Bool) (h : d.awaitSlips = false ∨ d.freeze = none) :
    d.slipsRead readsOne = { d with
      awaitSlips := false
      freeze := if readsOne = true then some (d.freeze.getD (d.stringLength - d.head + d.corr)) else none
      corr := match d.freeze with
        | some b => if readsOne = true then d.corr else b - d.stringLength + d.head
        | none => d.corr
      anchorUncertain := d.anchorUncertain || decide (d.awaitSlips = true ∧ readsOne = true) } := by
  unfold Depth.slipsRead Depth.bit
  obtain ⟨head, residue, lastCount, corr, hole, freeHookload, encoder, anchor, length, freeze, awaits, first,
    periodHead, lastMovement, indicated, taken, settleDue⟩ := d
  rcases freeze with _ | b <;> cases awaits <;> cases readsOne <;> simp at h ⊢

theorem Depth.slipsRead_rest (d : Depth) (readsOne : Bool) : (d.slipsRead readsOne).awaitSlips = false ∧
    (d.slipsRead readsOne).head = d.head ∧ (d.slipsRead readsOne).stringLength = d.stringLength ∧
    (d.slipsRead readsOne).encoderUncertain = d.encoderUncertain := by
  unfold Depth.slipsRead
  split
  · split <;> exact ⟨rfl, rfl, rfl, rfl⟩
  · next hawait =>
    have hawait := Bool.eq_false_iff.mpr hawait
    split <;> exact ⟨hawait, rfl, rfl, rfl⟩

end Slips

/-! ### What the tests and the end of STARTING leave of the unit (R86, R91, R92, R173) -/

section Unmoved

/-- The depth unit differs at most in the hole depth, the activities and the movement of a period. -/
def Depth.unmoved (d e : Depth) : Prop := e = { d with
  hole := e.hole, indicated := e.indicated, taken := e.taken, settleDue := e.settleDue
  periodHead := e.periodHead, lastMovement := e.lastMovement }

variable {s : State} {d e g : Depth}

theorem Depth.unmoved_refl (d : Depth) : d.unmoved d := rfl

theorem Depth.unmoved.trans (h : d.unmoved e) (h' : e.unmoved g) : d.unmoved g := by
  unfold Depth.unmoved at h h' ⊢
  rw [h', h]

theorem react_unmoved (s : State) : s.depth.unmoved (react s).depth := by
  obtain ⟨i, a, due, h⟩ := react_depth s
  unfold Depth.unmoved
  rw [h, advanceHole_depth]

theorem checkStarting_unmoved (s : State) : s.depth.unmoved (checkStarting s).depth := by
  unfold checkStarting
  split
  · obtain ⟨i, a, due, hole, h⟩ := endStarting_depth s
    unfold Depth.unmoved
    rw [h]
  · exact s.depth.unmoved_refl

theorem Depth.unmoved.bit (h : d.unmoved e) : e.bit = d.bit := by
  unfold Depth.bit
  rw [h]

end Unmoved

theorem condition_slips {f : Frame} {s : State} {x : Int} (hin : s.inputOf f = some inSlips)
    (hraw : rawOf inSlips f.payload = some x) : condition f (s.offerCab f) =
      react (onSlips (s.valueHeard f inSlips x).slipsReadsOne (s.valueHeard f inSlips x)) :=
  condition_heard hin hraw (by decide) (by decide)

/-- Settles O40: a reading sets or clears the freeze as the depth unit has it, and the tests and an end of
STARTING leave both. -/
theorem slipsReadingFreezesAndReleases : Obligations.SlipsReadingFreezesAndReleases := by
  intro f x v s hlen hin hraw hreport hv d
  have hcondition := condition_slips hin hraw
  have hheard := s.valueHeard_keeps f inSlips x
  have hone : (s.valueHeard f inSlips x).slipsReadsOne = decide (v = 1) := by
    have hinput : ((s.valueHeard f inSlips x).input inSlips).smoothed = some v := by
      rw [State.valueHeard_input]
      exact hv
    rw [State.slipsReadsOne, hinput, Bool.eq_iff_iff]
    simp
  generalize s.valueHeard f inSlips x = t at hcondition hheard hone
  rw [hone] at hcondition
  have hdepth : t.depth = d := hheard .depth (by decide)
  have hmgmt : t.mgmt = s.mgmt := hheard .mgmt (by decide)
  have hrecorder : t.recorder = s.recorder := hheard .recorder (by decide)
  have harrival : fieldArrival f s = checkStarting (react (onSlips (decide (v = 1)) t)) := by
    unfold fieldArrival
    rw [hreport, hcondition]
    rfl
  have hread : (d.slipsRead (decide (v = 1))).unmoved (fieldArrival f s).depth := by
    rw [harrival, ← hdepth, ← onSlips_depth]
    exact (react_unmoved _).trans (checkStarting_unmoved _)
  obtain ⟨hawait, hhead, hlength, hencoder⟩ := d.slipsRead_rest (decide (v = 1))
  have hfreeze := congrArg Depth.freeze hread
  have hcorr := congrArg Depth.corr hread
  have hanchor := congrArg Depth.anchorUncertain hread
  have hbit := hread.bit
  refine ⟨fieldArrival f s, exec_fieldFrame_bytes hlen s, (congrArg Depth.awaitSlips hread).trans hawait,
    (congrArg Depth.head hread).trans hhead, (congrArg Depth.stringLength hread).trans hlength,
    (congrArg Depth.encoderUncertain hread).trans hencoder, fun hwait hfree => ?_, fun hwait => ?_, fun hmode hclear => ?_⟩
  · rw [d.slipsRead_eq _ (.inr hfree)] at hfreeze hcorr hanchor
    simp only [hfree, hwait] at hfreeze hcorr hanchor
    exact ⟨fun hv => by simp_all, fun hv => by simp_all⟩
  · rw [d.slipsRead_eq _ (.inl hwait)] at hfreeze hcorr hanchor hbit
    simp only [hwait] at hfreeze hcorr hanchor
    refine ⟨by simp [hanchor], fun hfree hv => ?_, fun hfree hv => ?_, fun b hb hv => ?_, fun b hb hv => ?_⟩
    · simp_all
    · simp_all
    · simp_all
    · simp_all [Depth.bit]
  · intro anchors
    have hquiet : checkStarting (react (onSlips (decide (v = 1)) t)) = react (onSlips (decide (v = 1)) t) := by
      refine checkStarting_of_not ?_
      rw [State.mode, react_mgmt, onSlips_keeps _ _ .mgmt (by decide), hmgmt]
      exact hmode
    refine ⟨onSlips (decide (v = 1)) t, harrival.trans hquiet, ?_, ?_, ?_⟩
    · exact keepsAllBut_trans (keepsAllBut_mono hheard (by simp)) (keepsAllBut_mono (onSlips_keeps _ t) (by simp))
    · rw [onSlips_depth, hdepth, d.slipsRead_eq _ hclear]
      simp only [decide_eq_true_iff]
      rfl
    · rw [onSlips_recorder, hrecorder, hdepth, State.mode, hmgmt]
      simp only [decide_eq_true_iff]
      rfl

end Sys2Proof.Machine
end

section
/-! A HEAD_POS report: the movement within the limit and the jump beyond it (R13, R80 to R82, R89). -/

namespace Sys2Proof.Machine

/-! ### The report at the depth unit (R80 to R82) -/

section Report

variable {s : State} {n : Int}

theorem setEncoderUncertain_depth (s : State) :
    (setEncoderUncertain s).depth = { s.depth with encoderUncertain := true } :=
  handUncertain_keeps _ _ .depth (by decide)

/-- A new setting of ENCODER_UNCERTAIN outside STARTING marks the open interval (R89, R101). -/
theorem setEncoderUncertain_recorder (s : State) : (setEncoderUncertain s).recorder =
    if s.depth.encoderUncertain = false ∧ s.mode ≠ .starting then s.recorder.marked else s.recorder := by
  unfold setEncoderUncertain handUncertain
  simp only [Bool.not_eq_true', apply_ite State.recorder, markDepthUncertain_recorder]
  rfl

/-- The movement of a report with the residue, before it is divided (R80). -/
def State.headNumerator (n : Int) (s : State) : Int :=
  (n - s.depth.lastCount).bmod (2 ^ 32) * 1000 + s.depth.residue

/-- The movement of a report in mm (R80). -/
def State.headMovement (n : Int) (s : State) : Int := (s.headNumerator n).fdiv ((s.channel inHeadPos).aux : Int)

theorem onHeadReport_of_within (h : |s.headMovement n| ≤ (s.jumpLimit : Int)) : onHeadReport n s =
    applyReport n (s.headMovement n) ((s.headNumerator n).fmod ((s.channel inHeadPos).aux : Int)) s := if_pos h

theorem onHeadReport_of_beyond (h : (s.jumpLimit : Int) < |s.headMovement n|) :
    onHeadReport n s = rejectReport n (s.headMovement n) s := if_neg h.not_ge

theorem applyReport_depth (mm residue : Int) : (applyReport n mm residue s).depth = { s.depth with
    head := max 0 (min (s.depth.head + mm) 20000), residue := residue, lastCount := n, firstReport := false } := rfl

theorem rejectReport_depth (mm : Int) : (rejectReport n mm s).depth =
    { s.depth with lastCount := n, firstReport := false, encoderUncertain := true } := by
  rw [rejectReport, raise_keeps _ _ _ _ .depth (by decide), setEncoderUncertain_depth]
  rfl

theorem rejectReport_recorder (mm : Int) : (rejectReport n mm s).recorder =
    if s.depth.encoderUncertain = false ∧ s.mode ≠ .starting then s.recorder.marked else s.recorder := by
  rw [rejectReport, raise_keeps _ _ _ _ .recorder (by decide), setEncoderUncertain_recorder]
  rfl

theorem rejectReport_notified (mm : Int) : notified s (rejectReport n mm s) .depthJump s.depth.firstReport.toNat
    (max (-2 ^ 31) (min mm (2 ^ 31 - 1))) := by
  refine State.raise_notified _ _ _ _ _ ?_
  rw [State.now, setEncoderUncertain_keeps _ .mgmt (by decide)]
  rfl

theorem State.jumpLimit_eq (s : State) :
    (s.jumpLimit : Int) = if s.depth.firstReport = true then 500 else 2000 := by
  unfold State.jumpLimit
  split <;> rfl

end Report

/-! ### What the handler's report and an end of STARTING leave of the head (R65, R173) -/

section HeadAs

/-- The head, the residue, the last count and the encoder's flag are the same. -/
def Depth.headAs (d e : Depth) : Prop := e.head = d.head ∧ e.residue = d.residue ∧ e.lastCount = d.lastCount ∧
  e.firstReport = d.firstReport ∧ e.encoderUncertain = d.encoderUncertain

variable {s t : State} {d e g : Depth}

theorem Depth.headAs_refl (d : Depth) : d.headAs d := ⟨rfl, rfl, rfl, rfl, rfl⟩

theorem Depth.headAs.trans (h : d.headAs e) (h' : e.headAs g) : d.headAs g := by
  obtain ⟨hhead, hresidue, hcount, hfirst, hencoder⟩ := h
  obtain ⟨hhead', hresidue', hcount', hfirst', hencoder'⟩ := h'
  exact ⟨hhead'.trans hhead, hresidue'.trans hresidue, hcount'.trans hcount, hfirst'.trans hfirst,
    hencoder'.trans hencoder⟩

theorem Depth.unmoved.headAs (h : d.unmoved e) : d.headAs e := by
  rw [h]
  exact ⟨rfl, rfl, rfl, rfl, rfl⟩

theorem Depth.headAs_of_keeps {l : List Block} (h : keepsAllBut l s t) (hl : Block.depth ∉ l) :
    s.depth.headAs t.depth := by
  rw [h .depth hl]
  exact Depth.headAs_refl _

theorem handLength_headAs (s : State) : s.depth.headAs (handLength s).depth := by
  unfold handLength
  split
  · exact Depth.headAs_refl _
  · refine Depth.headAs.trans ?_ (react_unmoved _).headAs
    split
    · rw [setAnchorUncertain_depth]
      exact ⟨rfl, rfl, rfl, rfl, rfl⟩
    · exact ⟨rfl, rfl, rfl, rfl, rfl⟩

theorem completeCommand_headAs (r : Report) (s : State) : s.depth.headAs (completeCommand r s).depth := by
  unfold completeCommand
  dsimp only
  split
  · next t _ =>
    exact Depth.headAs.trans (handLength_headAs ((clearCommand s).onTracker fun _ => t))
      (Depth.headAs_of_keeps (t := handMove s.tracker.conn ((clearCommand s).onTracker fun _ => t))
        (handConn_keeps _ _) (by decide))
  · exact Depth.headAs_of_keeps (s := clearCommand s) (mismatch_keeps _ _ _) (by decide)

theorem handlerReport_headAs (payload : List Byte) (s : State) :
    s.depth.headAs (handlerReport payload s).depth := by
  unfold handlerReport
  split
  · exact Depth.headAs_refl _
  · split
    · split
      · exact Depth.headAs_of_keeps (setTallyUncertain_keeps s) (by decide)
      · exact Depth.headAs_refl _
    · split
      · unfold okReport
        split
        · exact completeCommand_headAs _ s
        · exact Depth.headAs_of_keeps (mismatch_keeps _ _ s) (by decide)
      · exact Depth.headAs_of_keeps (failedReport_keeps _ s) (by decide)

/-- Whatever else hears a field frame, the head stands where the conditioner left it. -/
theorem fieldArrival_headAs (f : Frame) (s : State) :
    (condition f (s.offerCab f)).depth.headAs (fieldArrival f s).depth := by
  unfold fieldArrival
  dsimp only
  refine Depth.headAs.trans ?_ (checkStarting_unmoved _).headAs
  split
  · exact handlerReport_headAs _ _
  · exact Depth.headAs_refl _

/-- The kinds of notice that can follow the conditioning of a field frame: the handler's, the tests' and the
end of STARTING's. -/
def NoticeKind.ofArrival (k : NoticeKind) : Prop :=
  k = .handlerFailed ∨ k = .tallyMismatch ∨ k = .startComplete ∨ k.ofTests

theorem fieldArrival_trunk (f : Frame) (s : State) :
    Trunk.Moved NoticeKind.ofArrival true (condition f (s.offerCab f)).trunk (fieldArrival f s).trunk := by
  have hmark : NoticeKind.ofArrival .bankFillMark := .inr (.inr (.inr (.inl rfl)))
  have hready : NoticeKind.ofArrival .bankReady := .inr (.inr (.inr (.inr (.inl rfl))))
  have hexhausted : NoticeKind.ofArrival .banksExhausted := .inr (.inr (.inr (.inr (.inr (.inl rfl)))))
  have hactivity : NoticeKind.ofArrival .activity := .inr (.inr (.inr (.inr (.inr (.inr rfl)))))
  unfold fieldArrival
  dsimp only
  refine checkStarting_moved (.inr (.inr (.inl rfl))) hmark hready hexhausted hactivity ?_
  split
  · exact handlerReport_moved (.inl rfl) (.inr (.inl rfl)) hmark hready hexhausted hactivity .refl
  · exact .refl

theorem notified.fieldArrival {u : State} {f : Frame} {kind : NoticeKind} {subject : Nat} {value : Int}
    (h : notified u (condition f (s.offerCab f)) kind subject value) (hk : kind.isUrgent = true ∨ ¬kind.ofArrival) :
    notified u (fieldArrival f s) kind subject value := h.after (fieldArrival_trunk f s) hk

end HeadAs

section Event

variable {f : Frame} {s : State}

/-- The part at the end of a HEAD_POS report, before the tests. -/
def State.headReported (n : Int) (s : State) : State :=
  if (s.input inHeadPos).historyDropped = true then onHeadResync n (s.headTaken n) else onHeadReport n (s.headTaken n)

theorem condition_head (hlen : f.payload.length = 4) (hin : s.inputOf f = some inHeadPos) :
    condition f (s.offerCab f) = react ((s.offerCab f).headReported (intOfBytes f.payload)) := by
  rw [condition_of_some (s := s.offerCab f) hin (rawOf_head.trans (if_pos hlen))]
  exact acceptHead_eq _ _

theorem State.headReported_keeps (n : Int) (s : State) :
    keepsAllBut [.inputs, .depth, .recorder, .trunk] s (s.headReported n) := by
  have htaken : keepsAllBut [.inputs, .depth, .recorder, .trunk] s (s.headTaken n) := by
    unfold State.headTaken
    simp
  unfold State.headReported
  split
  · exact keepsAllBut_trans htaken (keepsAllBut_mono (onHeadResync_keeps n _) (by simp))
  · exact keepsAllBut_trans htaken (keepsAllBut_mono (onHeadReport_keeps n _) (by simp))

theorem State.headReported_inputs (n : Int) (s : State) :
    (s.headReported n).inputs = s.inputs.set inHeadPos (s.headInput n) := by
  unfold State.headReported
  split
  · exact onHeadResync_keeps n _ .inputs (by decide)
  · exact onHeadReport_keeps n _ .inputs (by decide)

/-- The depth unit after a HEAD_POS report (R80 to R82). -/
theorem State.headReported_depth (n : Int) (s : State) :
    let dropped := (s.input inHeadPos).historyDropped = true
    let within := |s.headMovement n| ≤ (s.jumpLimit : Int)
    (s.headReported n).depth = { s.depth with
      head := if ¬dropped ∧ within then max 0 (min (s.depth.head + s.headMovement n) 20000) else s.depth.head
      residue := if dropped then 0
        else if within then (s.headNumerator n).fmod ((s.channel inHeadPos).aux : Int) else s.depth.residue
      lastCount := n, firstReport := false
      encoderUncertain := s.depth.encoderUncertain || decide (¬dropped ∧ ¬within) } := by
  intro dropped within
  unfold State.headReported
  by_cases hdropped : dropped
  · have hno : ¬(¬dropped ∧ within) := fun h => h.1 hdropped
    have hflag : decide (¬dropped ∧ ¬within) = false := decide_eq_false fun h => h.1 hdropped
    rw [if_pos hdropped, if_neg hno, if_pos hdropped, hflag, Bool.or_false]
    rfl
  · rw [if_neg hdropped, if_neg hdropped]
    by_cases hwithin : within
    · have hflag : decide (¬dropped ∧ ¬within) = false := decide_eq_false fun h => h.2 hwithin
      rw [if_pos ⟨hdropped, hwithin⟩, if_pos hwithin, hflag, Bool.or_false,
        onHeadReport_of_within (s := s.headTaken n) hwithin]
      rfl
    · have hno : ¬(¬dropped ∧ within) := fun h => hwithin h.2
      have hflag : decide (¬dropped ∧ ¬within) = true := decide_eq_true ⟨hdropped, hwithin⟩
      rw [if_neg hno, if_neg hwithin, hflag, Bool.or_true,
        onHeadReport_of_beyond (s := s.headTaken n) (lt_of_not_ge hwithin), rejectReport_depth]
      rfl

theorem State.headReported_recorder (n : Int) (s : State) : (s.headReported n).recorder =
    if (¬(s.input inHeadPos).historyDropped = true ∧ (s.jumpLimit : Int) < |s.headMovement n|) ∧
      s.depth.encoderUncertain = false ∧ s.mode ≠ .starting then s.recorder.marked else s.recorder := by
  unfold State.headReported
  by_cases hdropped : (s.input inHeadPos).historyDropped = true
  · rw [if_pos hdropped, if_neg fun h => h.1.1 hdropped]
    rfl
  · rw [if_neg hdropped]
    by_cases hwithin : |s.headMovement n| ≤ (s.jumpLimit : Int)
    · rw [if_neg fun h => hwithin.not_gt h.1.2, onHeadReport_of_within (s := s.headTaken n) hwithin]
      rfl
    · rw [onHeadReport_of_beyond (s := s.headTaken n) (lt_of_not_ge hwithin), rejectReport_recorder]
      by_cases hnew : s.depth.encoderUncertain = false ∧ s.mode ≠ .starting
      · rw [if_pos (by exact hnew), if_pos ⟨⟨hdropped, lt_of_not_ge hwithin⟩, hnew⟩]
        rfl
      · rw [if_neg (by exact hnew), if_neg fun h => hnew h.2]
        rfl

theorem State.headReported_notified {n : Int} (hdropped : ¬(s.input inHeadPos).historyDropped = true)
    (hbeyond : (s.jumpLimit : Int) < |s.headMovement n|) : notified s (s.headReported n) .depthJump
      s.depth.firstReport.toNat (max (-2 ^ 31) (min (s.headMovement n) (2 ^ 31 - 1))) := by
  have hreported : s.headReported n = rejectReport n (s.headMovement n) (s.headTaken n) :=
    (if_neg hdropped).trans (onHeadReport_of_beyond (s := s.headTaken n) hbeyond)
  rw [hreported]
  exact rejectReport_notified (s := s.headTaken n) (s.headMovement n)

end Event

/-- Settles O39: a report moves the head or is a jump, and neither the tests nor another reading of the frame
touches what it leaves. -/
theorem headReportMovesTheHead : Obligations.HeadReportMovesTheHead := by
  intro f s hlen hin n ppm numerator mm limit dropped
  have hcondition := condition_head hlen hin
  have hdepth := (s.offerCab f).headReported_depth n
  have hlimit : ((s.offerCab f).jumpLimit : Int) = limit := (s.offerCab f).jumpLimit_eq
  have hmm : (s.offerCab f).headMovement n = mm := rfl
  have hnumerator : (s.offerCab f).headNumerator n = numerator := rfl
  simp only [hlimit, hmm, hnumerator] at hdepth
  have harrival := fieldArrival_headAs f s
  rw [hcondition] at harrival
  obtain ⟨hhead, hresidue, hcount, hfirst, hencoder⟩ := (react_unmoved _).headAs.trans harrival
  rw [hdepth] at hhead hresidue hcount hfirst hencoder
  have hinputs : (fieldArrival f s).inputs = s.inputs.set inHeadPos (s.headInput n) := by
    rw [fieldArrival_inputs, hcondition, react_inputs]
    exact (s.offerCab f).headReported_inputs n
  refine ⟨fieldArrival f s, exec_fieldFrame_bytes (by omega) s, hinputs, hcount, hfirst, fun hnot hwithin => ⟨?_, ?_, ?_⟩,
    fun hnot hbeyond => ⟨?_, ?_, ?_, ?_⟩, fun hdrop => ⟨?_, ?_, ?_⟩, fun hreport hmode => ?_⟩
  · exact hhead.trans (if_pos ⟨hnot, hwithin⟩)
  · exact hresidue.trans ((if_neg hnot).trans (if_pos hwithin))
  · rw [hencoder, decide_eq_false (fun h => h.2 hwithin), Bool.or_false]
    rfl
  · exact hhead.trans (if_neg fun h => h.2.not_gt hbeyond)
  · exact hresidue.trans ((if_neg hnot).trans (if_neg hbeyond.not_ge))
  · rw [hencoder, decide_eq_true ⟨hnot, hbeyond.not_ge⟩, Bool.or_true]
  · have hjump := (s.offerCab f).headReported_notified (n := n) hnot (by rw [hlimit, hmm]; exact hbeyond)
    have htested := hjump.react (.inr (by simp [NoticeKind.ofTests]))
    rw [← hcondition] at htested
    have hsubject : (if s.depth.firstReport = true then 1 else 0) = s.depth.firstReport.toNat := by
      cases s.depth.firstReport <;> rfl
    rw [hsubject]
    exact (htested.fieldArrival (.inr (by simp [NoticeKind.ofArrival, NoticeKind.ofTests]))).congr rfl rfl
  · exact hhead.trans (if_neg fun h => h.1 hdrop)
  · exact hresidue.trans (if_pos hdrop)
  · rw [hencoder, decide_eq_false (fun h => h.1 hdrop), Bool.or_false]
    rfl
  · have hmgmt : ((s.offerCab f).headReported n).mgmt = s.mgmt :=
      (s.offerCab f).headReported_keeps n .mgmt (by decide)
    have hquiet : fieldArrival f s = react ((s.offerCab f).headReported n) := by
      rw [← hcondition]
      refine fieldArrival_conditioned hreport ?_
      rw [hcondition, State.mode, react_mgmt, hmgmt]
      exact hmode
    have hrecorder := (s.offerCab f).headReported_recorder n
    rw [hlimit, hmm] at hrecorder
    refine ⟨(s.offerCab f).headReported n, hquiet,
      keepsAllBut_trans (keepsAllBut_mono (offerCab_keeps f s) (by simp)) ((s.offerCab f).headReported_keeps n),
      by rw [hquiet, react_inputs], ?_, ?_⟩
    · rw [hdepth]
      simp only [not_le]
      rfl
    · rw [hrecorder]
      simp only [and_assoc]
      rfl

end Sys2Proof.Machine
end

section
/-! Stroke reports, and the expiry of input timers (R9, R11, R12, R14, R19, R172). -/

namespace Sys2Proof.Machine

/-! ### STARTING is not entered again by a field frame -/

section Awake

variable {s : State} {f : Frame}

theorem wake_awake {cause : WakeCause} (hmode : s.mode ≠ .starting)
    (hr : s.mgmt.remembered ≠ some .starting) : (wake cause s).mode ≠ .starting := by
  by_cases hstandby : s.mode = .standby
  · cases hrem : s.mgmt.remembered with
    | none =>
      have hwake : (wake cause s).mgmt = { s.mgmt with mode := .monitor, remembered := none } := by
        unfold wake
        rw [if_pos hstandby, hrem]
        dsimp only
        rw [raise_mgmt]
        exact State.awakened_mgmt .monitor s
      rw [State.mode, hwake]
      nofun
    | some r =>
      rw [State.mode, wake_mgmt hstandby hrem]
      exact fun h => hr (hrem.trans (congrArg some h))
  · rwa [wake_of_awake hstandby]

theorem mode_of_keeps_ne {l : List Block} {t : State} (h : keepsAllBut l s t) (hl : Block.mgmt ∉ l)
    (hmode : s.mode ≠ .starting) : t.mode ≠ .starting := by
  rw [State.mode, h .mgmt hl]
  exact hmode

variable (hmode : s.mode ≠ .starting) (hr : s.mgmt.remembered ≠ some .starting)
include hmode hr

theorem acceptStrokes_awake (p : PumpId) (c : Nat) : (acceptStrokes p c s).mode ≠ .starting := by
  cases hcount : (s.input (strokeInput p)).lastCount with
  | none =>
    rw [acceptStrokes_first hcount]
    exact hmode
  | some last =>
    rw [acceptStrokes_next hcount]
    refine mode_of_keeps_ne (react_keeps _) (by decide) ?_
    have hmgmt : (collectStrokes p (strokeDelta c last) (s.strokesTaken p c)).mgmt = s.mgmt :=
      collectStrokes_keeps p _ _ .mgmt (by decide)
    generalize collectStrokes p (strokeDelta c last) (s.strokesTaken p c) = t at hmgmt
    have ht : t.mode ≠ .starting := by rwa [State.mode, hmgmt]
    split
    · unfold startRunning
      dsimp only
      split
      · exact ht
      · refine wake_awake (s := t.onInput (strokeInput p) _) ht ?_
        rw [State.onInput_mgmt, hmgmt]
        exact hr
    · exact ht

theorem deliver_awake (i : InputId) (v : Int) : (deliver i v s).mode ≠ .starting := by
  unfold deliver
  split
  · exact mode_of_keeps_ne (react_keeps _) (by decide) (mode_of_keeps_ne (onHookload_keeps s) (by decide) hmode)
  · split
    · refine mode_of_keeps_ne (react_keeps _) (by decide) ?_
      unfold wakeByRotation
      split
      · exact wake_awake hmode hr
      · exact hmode
    · split
      · exact mode_of_keeps_ne (onPressure_keeps v s) (by decide) hmode
      · split
        · exact mode_of_keeps_ne (collectFlow_keeps s) (by decide) hmode
        · split
          · exact mode_of_keeps_ne (react_keeps _) (by decide) (mode_of_keeps_ne (onSlips_keeps _ s) (by decide) hmode)
          · exact hmode

theorem condition_awake (f : Frame) : (condition f s).mode ≠ .starting := by
  unfold condition
  split
  · exact hmode
  · split
    · unfold accept
      split
      · exact acceptStrokes_awake hmode hr _ _
      · split
        · exact mode_of_keeps_ne (acceptHead_keeps _ s) (by decide) hmode
        · exact deliver_awake (s := s.valueTaken _ _) hmode hr _ _
    · exact mode_of_keeps_ne (countRefused_keeps _ s) (by decide) hmode

/-- Outside STARTING a field frame's event is its conditioning and the handler's report. -/
theorem fieldArrival_awake (f : Frame) : fieldArrival f s = if s.isHandlerReport f = true then
    handlerReport f.payload (condition f (s.offerCab f)) else condition f (s.offerCab f) := by
  have hcondition := condition_awake (s := s.offerCab f) hmode hr f
  unfold fieldArrival
  dsimp only
  refine checkStarting_of_not (.inl ?_)
  split
  · exact mode_of_keeps_ne (handlerReport_keeps _ _) (by decide) hcondition
  · exact hcondition

theorem fieldArrival_awake_keeps (f : Frame) :
    keepsAllBut [.tracker, .pumpCtl, .depth, .recorder, .banks, .billing, .trunk] (condition f (s.offerCab f))
      (fieldArrival f s) := by
  rw [fieldArrival_awake hmode hr]
  split
  · exact handlerReport_keeps _ _
  · exact keepsAllBut_refl _ _

end Awake

/-! ### A stroke report (R12, R14, R19) -/

section Strokes

variable {f : Frame} {p : PumpId} {s : State} {c last : Nat}

theorem natOfBytes_pair (a b : Byte) : natOfBytes [a, b] = a.toNat * 256 + b.toNat := by
  simp [natOfBytes]

theorem pumpOf_strokeInput : ∀ p : PumpId, pumpOf (strokeInput p) = some p := by decide

theorem condition_strokes {a b : Byte} (hpayload : f.payload = [a, b]) (hin : s.inputOf f = some (strokeInput p)) :
    condition f (s.offerCab f) = acceptStrokes p (a.toNat * 256 + b.toNat) (s.offerCab f) := by
  have hraw : rawOf (strokeInput p) f.payload = some ((a.toNat * 256 + b.toNat : Nat) : Int) := by
    rw [rawOf_strokes, hpayload, natOfBytes_pair]
    rfl
  rw [condition_of_some (s := s.offerCab f) hin hraw, accept, pumpOf_strokeInput]
  rfl

theorem collectStrokes_idle {delta : Nat} (h : s.mode = .starting ∨ (s.tables.pumps[p]).node = 0) :
    collectStrokes p delta s = s :=
  if_pos (h.imp_right fun hnode => Bool.eq_false_iff.mpr fun hused => (s.used_iff p).mp hused hnode)

theorem collectStrokes_counted {delta : Nat} (hmode : s.mode ≠ .starting) (hnode : (s.tables.pumps[p]).node ≠ 0)
    (hfit : delta ≤ (s.tables.pumps[p]).plausibility) : collectStrokes p delta s = s.onCirc fun c => { c with
      strokes1 := c.strokes1 + if p = 0 then delta else 0
      strokes2 := c.strokes2 + if p = 0 then 0 else delta } := by
  have hused := (s.used_iff p).mpr hnode
  unfold collectStrokes
  rw [if_neg fun h => h.elim hmode fun hno => by simp [hused] at hno, if_pos (by exact hfit)]
  by_cases hp : p = 0 <;> simp [hp, State.onCirc]

theorem collectStrokes_jump {delta : Nat} (hmode : s.mode ≠ .starting) (hnode : (s.tables.pumps[p]).node ≠ 0)
    (hjump : (s.tables.pumps[p]).plausibility < delta) : collectStrokes p delta s =
      (s.onCirc fun c => { c with periodHeld := true }).raise .pumpCountJump (p.val + 1) delta := by
  have hused := (s.used_iff p).mpr hnode
  unfold collectStrokes
  rw [if_neg fun h => h.elim hmode fun hno => by simp [hused] at hno, if_neg (by exact hjump.not_ge)]

theorem acceptStrokes_circ (hcount : (s.input (strokeInput p)).lastCount = some last) :
    (acceptStrokes p c s).circ = (collectStrokes p (strokeDelta c last) (s.strokesTaken p c)).circ := by
  rw [acceptStrokes_next hcount, react_circ]
  split
  · exact startRunning_keeps p _ .circ (by decide)
  · rfl

theorem startRunning_trunk (p : PumpId) (t : State) :
    Trunk.Moved (· = .wake) false t.trunk (startRunning p t).trunk := startRunning_moved rfl .refl

/-- A notice raised as the strokes are counted is not joined by another of its kind. -/
theorem acceptStrokes_notified {u : State} {kind : NoticeKind} {subject : Nat} {value : Int}
    (hcount : (s.input (strokeInput p)).lastCount = some last)
    (h : notified u (collectStrokes p (strokeDelta c last) (s.strokesTaken p c)) kind subject value)
    (hk : kind ≠ .wake ∧ ¬kind.ofTests) : notified u (acceptStrokes p c s) kind subject value := by
  rw [acceptStrokes_next hcount]
  refine notified.react ?_ (.inr hk.2)
  split
  · exact h.after (startRunning_trunk p _) (.inr hk.1)
  · exact h

theorem acceptStrokes_tested (hcount : (s.input (strokeInput p)).lastCount = some last) :
    testedAfter [.inputs, .circ, .pumpCtl, .mgmt, .trunk] s (acceptStrokes p c s) := by
  rw [acceptStrokes_next hcount]
  refine ⟨_, ?_, rfl⟩
  have htaken : keepsAllBut [.inputs, .circ, .pumpCtl, .mgmt, .trunk] s (s.strokesTaken p c) := by
    unfold State.strokesTaken
    simp
  have hcollected := keepsAllBut_trans htaken
    (keepsAllBut_mono (collectStrokes_keeps p (strokeDelta c last) (s.strokesTaken p c)) (by simp))
  split
  · exact keepsAllBut_trans hcollected (keepsAllBut_mono (startRunning_keeps p _) (by simp))
  · exact hcollected

/-- A start of running ends STANDBY (R172). -/
theorem acceptStrokes_wake {r : Mode} (hcount : (s.input (strokeInput p)).lastCount = some last)
    (hpos : 0 < strokeDelta c last) (hmode : s.mode = .standby) (hr : s.mgmt.remembered = some r)
    (hrunning : (s.input (strokeInput p)).runningDue = none) :
    (acceptStrokes p c s).mgmt = { s.mgmt with mode := r, remembered := none } ∧
      notified s (acceptStrokes p c s) .wake 2 r.code := by
  rw [acceptStrokes_next hcount, if_pos hpos]
  have hmgmt : (collectStrokes p (strokeDelta c last) (s.strokesTaken p c)).mgmt = s.mgmt :=
    collectStrokes_keeps p _ _ .mgmt (by decide)
  have hinputs : (collectStrokes p (strokeDelta c last) (s.strokesTaken p c)).inputs = (s.strokesTaken p c).inputs :=
    collectStrokes_keeps p _ _ .inputs (by decide)
  have hidle : (collectStrokes p (strokeDelta c last) (s.strokesTaken p c)).running p = false := by
    rw [State.running, State.input, hinputs, s.strokesTaken_inputs, getElem_set_self_fin]
    exact congrArg Option.isSome hrunning
  generalize collectStrokes p (strokeDelta c last) (s.strokesTaken p c) = t at hmgmt hidle
  have hstart : startRunning p t = wake .strokes (t.onInput (strokeInput p) fun u =>
      { u with runningDue := some (t.dueIn Config.runningTime) }) := if_neg (by simp [hidle])
  rw [hstart]
  generalize ht : (t.onInput (strokeInput p) fun u => { u with runningDue := some (t.dueIn Config.runningTime) }) = t'
  have hmgmt' : t'.mgmt = s.mgmt := by
    rw [← ht]
    exact hmgmt
  have hmode' : t'.mode = .standby := (congrArg Management.mode hmgmt').trans hmode
  have hr' : t'.mgmt.remembered = some r := (congrArg Management.remembered hmgmt').trans hr
  refine ⟨?_, ?_⟩
  · rw [react_mgmt, wake_mgmt hmode' hr', hmgmt']
  · refine ((wake_notified (cause := .strokes) hmode' hr').congr ?_ rfl).react (.inr (by simp [NoticeKind.ofTests]))
    rw [State.now, State.now, hmgmt']

end Strokes

/-! ### Expiries (R9, R11, R14) -/

section Expiries

variable {s : State} {i : InputId} {p : PumpId} {d : Nat}

theorem exec_staleTimerExpiry_stopped (h : s.inputs[i].staleDue = none) :
    exec (.staleTimerExpiry i) s = .next (transmit s) := by
  have hexec : exec (.staleTimerExpiry i) s = finish (onExpiry s.inputs[i].staleDue (goStale i) s) := rfl
  rw [hexec, h]
  rfl

theorem exec_staleTimerExpiry_due (h : s.inputs[i].staleDue = some d) :
    exec (.staleTimerExpiry i) s = .next (transmit (goStale i (s.reach d))) := by
  have hexec : exec (.staleTimerExpiry i) s = finish (onExpiry s.inputs[i].staleDue (goStale i) s) := rfl
  rw [hexec, h]
  rfl

theorem exec_runningTimerExpiry_stopped (h : s.inputs[strokeInput p].runningDue = none) :
    exec (.runningTimerExpiry p) s = .next (transmit s) := by
  have hexec : exec (.runningTimerExpiry p) s =
    finish (onExpiry s.inputs[strokeInput p].runningDue (stopRunning p) s) := rfl
  rw [hexec, h]
  rfl

theorem exec_runningTimerExpiry_due (h : s.inputs[strokeInput p].runningDue = some d) :
    exec (.runningTimerExpiry p) s = .next (transmit (stopRunning p (s.reach d))) := by
  have hexec : exec (.runningTimerExpiry p) s =
    finish (onExpiry s.inputs[strokeInput p].runningDue (stopRunning p) s) := rfl
  rw [hexec, h]
  rfl

/-- The part with the input STALE and INPUT_LOST sent, before the tests (R9, R11). -/
def State.lost (i : InputId) (s : State) : State :=
  let s1 := s.onInput i fun u => { u with state := .stale, staleDue := none }
  if (s.channel i).mandatory = true then s1.raise .inputLost i.val (s.heldValue i) else s1

theorem goStale_eq (i : InputId) (s : State) : goStale i s = react (s.lost i) := rfl

theorem State.lost_inputs (i : InputId) (s : State) :
    (s.lost i).inputs = s.inputs.set i { s.inputs[i] with state := .stale, staleDue := none } := by
  unfold State.lost
  dsimp only
  split
  · rw [raise_keeps _ _ _ _ .inputs (by decide)]
    rfl
  · rfl

theorem State.lost_keeps (i : InputId) (s : State) : keepsAllBut [.inputs, .trunk] s (s.lost i) := by
  unfold State.lost
  dsimp only
  split <;> simp

theorem State.lost_notified (h : (s.channel i).mandatory = true) :
    notified s (s.lost i) .inputLost i.val (s.heldValue i) := by
  have hraise : s.lost i = (s.onInput i fun u => { u with state := .stale, staleDue := none }).raise .inputLost i.val
    (s.heldValue i) := if_pos h
  rw [hraise]
  exact State.raise_notified _ _ _ _ _ rfl

theorem State.lost_trunk (h : (s.channel i).mandatory = false) : (s.lost i).trunk = s.trunk := by
  have hquiet : s.lost i = s.onInput i fun u => { u with state := .stale, staleDue := none } := if_neg (by simp [h])
  rw [hquiet]
  rfl

theorem State.heldValue_eq (i : InputId) (s : State) : s.heldValue i =
    if i = 0 then s.depth.lastCount
    else if i = 6 ∨ i = 7 then (((s.inputs[i]).lastCount).getD 0 : Nat) else ((s.inputs[i]).smoothed).getD 0 := by
  have hpump : (pumpOf i).isSome = true ↔ i = 6 ∨ i = 7 := by
    revert i
    decide
  unfold State.heldValue
  by_cases hi : i = 0
  · rw [if_pos (by exact hi), if_pos hi]
  · rw [if_neg (by exact hi), if_neg hi]
    by_cases h : i = 6 ∨ i = 7
    · rw [if_pos (hpump.mpr h), if_pos h]
      rfl
    · rw [if_neg fun h' => h (hpump.mp h'), if_neg h]
      rfl

end Expiries

/-- Settles O38: a stroke report by its delta, and each expiry by the input's timer. -/
theorem strokesAreCountedAndTimersExpire : Obligations.StrokesAreCountedAndTimersExpire := by
  refine ⟨fun f p a b s hpayload hin hr => ?_, fun i p d s => ⟨exec_staleTimerExpiry_stopped, fun hdue => ?_,
    exec_runningTimerExpiry_stopped, fun hdue => ?_⟩⟩
  · intro u c delta counted
    have hlen : f.payload.length ≤ 48 := by simp [hpayload]
    have hcondition := condition_strokes hpayload hin
    have hinputs := acceptStrokes_inputs p c (s.offerCab f)
    have hnext : ∀ {last}, u.lastCount = some last → strokeDelta c last = delta := fun hcount => by
      simp [delta, hcount, strokeDelta]
    have hdelta : u.lastCount.any (fun last => decide (0 < strokeDelta c last)) = decide (0 < delta) := by
      cases hcount : u.lastCount with
      | none => simp [delta, hcount]
      | some last => rw [Option.any_some, hnext hcount]
    have hcirc : s.mode ≠ .starting → (fieldArrival f s).circ = (acceptStrokes p c (s.offerCab f)).circ := fun hmode => by
      rw [fieldArrival_awake_keeps hmode hr f .circ (by decide), hcondition]
    refine ⟨fieldArrival f s, exec_fieldFrame_bytes hlen s, ?_, fun ⟨hmode, hnode, hcount⟩ hfit => ?_,
      fun ⟨hmode, hnode, hcount⟩ hjump => ?_, fun hmode hnot => ?_, fun hreport hmode => ?_,
      fun r hmode hrem hidle hpos => ?_⟩
    · rw [fieldArrival_inputs, hcondition, hinputs]
      have hstroke : (s.offerCab f).input (strokeInput p) = u := rfl
      rw [hstroke, hdelta]
      simp only [decide_eq_true_eq]
      rfl
    · obtain ⟨last, hlast⟩ := Option.ne_none_iff_exists'.mp hcount
      rw [hcirc hmode, acceptStrokes_circ (s := s.offerCab f) hlast, hnext hlast,
        collectStrokes_counted (s := (s.offerCab f).strokesTaken p c) hmode hnode hfit]
      rfl
    · obtain ⟨last, hlast⟩ := Option.ne_none_iff_exists'.mp hcount
      have hcollected := collectStrokes_jump (s := (s.offerCab f).strokesTaken p c) hmode hnode hjump
      refine ⟨?_, ?_⟩
      · rw [hcirc hmode, acceptStrokes_circ (s := s.offerCab f) hlast, hnext hlast, hcollected,
          raise_keeps _ _ _ _ .circ (by decide)]
        rfl
      · have hraised : notified s (collectStrokes p (strokeDelta c last) ((s.offerCab f).strokesTaken p c))
            .pumpCountJump (p.val + 1) delta := by
          rw [hnext hlast, hcollected]
          exact State.raise_notified _ _ _ _ _ rfl
        have haccepted := acceptStrokes_notified (s := s.offerCab f) hlast hraised
          (by simp [NoticeKind.ofTests])
        rw [← hcondition] at haccepted
        exact haccepted.fieldArrival (.inr (by simp [NoticeKind.ofArrival, NoticeKind.ofTests]))
    · rw [hcirc hmode]
      cases hlast : u.lastCount with
      | none =>
        rw [acceptStrokes_first (s := s.offerCab f) hlast]
        rfl
      | some last =>
        have hnode : (s.tables.pumps[p]).node = 0 := by
          by_contra hnode
          exact hnot ⟨hmode, hnode, by simp [hlast]⟩
        rw [acceptStrokes_circ (s := s.offerCab f) hlast,
          collectStrokes_idle (s := (s.offerCab f).strokesTaken p c) (.inr hnode)]
        rfl
    · have hquiet : fieldArrival f s = acceptStrokes p c (s.offerCab f) := by
        rw [← hcondition]
        refine fieldArrival_conditioned hreport ?_
        by_cases hstarting : s.mode = .starting
        · have hmgmt := condition_starting (s := s.offerCab f) f hstarting .mgmt (by decide)
          exact hmode.imp (fun h => absurd hstarting h) fun h => (congrArg Management.checksDone hmgmt).trans h
        · exact .inl (condition_awake (s := s.offerCab f) hstarting hr f)
      have hoffer := offerCab_keeps f s
      rw [hquiet]
      refine ⟨fun hfirst => ?_, fun hcount => ?_⟩
      · rw [acceptStrokes_first (s := s.offerCab f) hfirst]
        refine keepsAllBut_trans (keepsAllBut_mono hoffer (by simp)) ?_
        unfold State.strokesTaken
        simp
      · obtain ⟨last, hlast⟩ := Option.ne_none_iff_exists'.mp hcount
        obtain ⟨t, hkeeps, htests⟩ := acceptStrokes_tested (s := s.offerCab f) (c := c) hlast
        exact ⟨t, keepsAllBut_trans (keepsAllBut_mono hoffer (by simp)) hkeeps, htests⟩
    · have hawake : s.mode ≠ .starting := by
        rw [hmode]
        nofun
      cases hlast : u.lastCount with
      | none => simp [delta, hlast] at hpos
      | some last =>
        obtain ⟨hmgmt, hwake⟩ := acceptStrokes_wake (s := s.offerCab f) (c := c) hlast (by rwa [hnext hlast]) hmode hrem
          hidle
        rw [← hcondition] at hmgmt hwake
        exact ⟨(fieldArrival_awake_keeps hawake hr f .mgmt (by decide)).trans hmgmt,
          (hwake.fieldArrival (.inr (by simp [NoticeKind.ofArrival, NoticeKind.ofTests]))).congr rfl rfl⟩
  · have hkeeps : keepsAllBut [.inputs, .mgmt, .trunk] s ((s.reach d).lost i) :=
      keepsAllBut_trans (by simp) (keepsAllBut_mono ((s.reach d).lost_keeps i) (by simp))
    refine ⟨_, exec_staleTimerExpiry_due hdue, ?_, ⟨(s.reach d).lost i, hkeeps, goStale_eq i _⟩, ?_, ?_, fun hman => ?_,
      fun hman n hn hkind => ?_⟩
    · rw [goStale_eq, react_inputs]
      exact (s.reach d).lost_inputs i
    · rw [goStale_eq, react_mgmt]
      exact (s.reach d).lost_keeps i .mgmt (by decide)
    · rw [goStale_eq]
      exact keepsAllBut_trans (keepsAllBut_mono hkeeps (by simp)) (keepsAllBut_mono (react_keeps _) (by simp))
    · have hlost := (State.lost_notified (s := s.reach d) (i := i) hman).react (.inr (by simp [NoticeKind.ofTests]))
      rw [State.heldValue_eq] at hlost
      exact hlost
    · rw [goStale_eq] at hn
      have htests := (react_trunk _).mem_urgent hn (by simp [hkind, NoticeKind.ofTests])
      rwa [State.lost_trunk (s := s.reach d) hman] at htests
  · refine ⟨_, exec_runningTimerExpiry_due hdue, ?_, ⟨(s.reach d).onInput (strokeInput p) fun u =>
      { u with runningDue := none }, ?_, rfl⟩, ?_, ?_, ?_⟩
    · exact react_inputs _
    · simp
    · have hinputs : (stopRunning p (s.reach d)).inputs = s.inputs.set (strokeInput p)
          { s.inputs[strokeInput p] with runningDue := none } := react_inputs _
      rw [State.running, State.input, hinputs, getElem_set_self_fin]
      rfl
    · exact react_mgmt _
    · refine keepsAllBut_trans ?_ (keepsAllBut_mono (react_keeps _) (by simp))
      simp

end Sys2Proof.Machine
end

section
/-! Cab setpoints for the pumps (R41, R45, R155, R158). -/

namespace Sys2Proof.Machine

/-! ### The setpoint queue (R158) -/

section Queue

variable {t : Trunk} {e : SetpointEntry}

theorem Trunk.queueSetpoint_of_new (h : ∀ q ∈ t.setpoints, q.node ≠ e.node) :
    t.queueSetpoint e = { t with setpoints := t.setpoints ++ [e] } :=
  if_neg (by simpa using h)

theorem map_rate_of_other {l : List SetpointEntry} (h : ∀ q ∈ l, q.node ≠ e.node) :
    (l.map fun q => if (q.node == e.node) = true then { q with rate := e.rate } else q) = l := by
  refine (List.map_congr_left (g := id) fun q hq => ?_).trans (List.map_id l)
  exact if_neg (by simpa using h q hq)

theorem Trunk.queueSetpoint_of_waiting {before after : List SetpointEntry} {q : SetpointEntry}
    (ht : t.setpoints = before ++ q :: after) (hq : q.node = e.node) (hrest : ∀ r ∈ before ++ after, r.node ≠ e.node) :
    t.queueSetpoint e = { t with setpoints := before ++ { q with rate := e.rate } :: after } := by
  have hbefore := map_rate_of_other fun r hr => hrest r (List.mem_append_left after hr)
  have hafter := map_rate_of_other fun r hr => hrest r (List.mem_append_right before hr)
  unfold Trunk.queueSetpoint
  rw [ht, if_pos (by simp [hq]), List.map_append, List.map_cons, hbefore, hafter, if_pos (by simp [hq])]

end Queue

/-! ### The arrival of a setpoint (R155) -/

section Arrival

variable {p : PumpId} {dest src : Addr} {tag seq a b : Byte} {payload : List Byte} {f : Frame} {s : State}

theorem State.pumpAt_node (h : s.pumpAt dest = some p) : dest.val = (s.tables.pumps[p]).node := by
  unfold State.pumpAt at h
  split at h
  · next h0 =>
    obtain rfl := Option.some.inj h
    exact beq_iff_eq.mp (Bool.and_eq_true_iff.mp h0).2
  · split at h
    · next h1 =>
      obtain rfl := Option.some.inj h
      exact beq_iff_eq.mp (Bool.and_eq_true_iff.mp h1).2
    · cases h

theorem exec_pumpSetpoint (hpump : s.pumpAt dest = some p) (hown : s.isOwnAddress dest = false)
    (hlen : payload.length ≤ 48) : exec (.pumpSetpoint dest src tag seq payload) s =
      .next (transmit (pumpSetpointFrame p ⟨dest, src, .setpoint, tag, seq, payload⟩ s)) := by
  have hexec : exec (.pumpSetpoint dest src tag seq payload) s =
    finish (cabSetpoint dest src tag seq payload s) := rfl
  rw [hexec, cabSetpoint, if_pos (by exact hlen), cabArrival, if_neg (by simp [hown]), if_pos rfl, setpointArrival, hpump]
  rfl

theorem pumpSetpointFrame_supervised (hmode : s.mode = .supervised) : pumpSetpointFrame p f s =
    if f.payload.length = 2 then judgeSetpoint p (natOfBytes f.payload) s else countBadSetpoint s := by
  unfold pumpSetpointFrame
  rw [hmode]

theorem pumpSetpointFrame_standby (hmode : s.mode = .standby) : pumpSetpointFrame p f s =
    if f.payload.length = 2 then s else countBadSetpoint s := by
  unfold pumpSetpointFrame
  rw [hmode]

theorem pumpSetpointFrame_forwarded (hmode : s.mode = .starting ∨ s.mode = .monitor) : pumpSetpointFrame p f s =
    if s.fieldFifoHasRoom = true ∧ f.payload.length = 2 then
      (s.offerField f).onPump p fun u => { u with nodeRate := some (natOfBytes f.payload) }
    else s.offerField f := by
  unfold pumpSetpointFrame
  rcases hmode with hmode | hmode <;> rw [hmode]

theorem pumpSetpointFrame_room (hmode : s.mode = .starting ∨ s.mode = .monitor) (hroom : s.trunk.fieldFifo.length < 8) :
    pumpSetpointFrame p f s = { s with
      trunk := { s.trunk with fieldFifo := s.trunk.fieldFifo ++ [f] }
      pumpCtl := { s.pumpCtl with pumps := s.pumpCtl.pumps.set p { s.pumpCtl.pumps[p] with
        nodeRate := if f.payload.length = 2 then some (natOfBytes f.payload)
          else (s.pumpCtl.pumps[p]).nodeRate } } } := by
  rw [pumpSetpointFrame_forwarded hmode, State.offerField_of_room f hroom]
  have hhas : s.fieldFifoHasRoom = true := decide_eq_true hroom
  by_cases htwo : f.payload.length = 2
  · rw [if_pos ⟨hhas, htwo⟩, if_pos htwo]
    rfl
  · have hsame : s.pumpCtl.pumps.set p s.pumpCtl.pumps[p] = s.pumpCtl.pumps := by simp
    rw [if_neg fun h => htwo h.2, if_neg htwo, hsame]

theorem pumpSetpointFrame_full (hmode : s.mode = .starting ∨ s.mode = .monitor) (hfull : 8 ≤ s.trunk.fieldFifo.length) :
    pumpSetpointFrame p f s = { s with
      trunk := { s.trunk with dropsToField := min 65535 (s.trunk.dropsToField + 1) } } := by
  have hnot : s.fieldFifoHasRoom = false := decide_eq_false hfull.not_gt
  rw [pumpSetpointFrame_forwarded hmode, if_neg fun h => by simp [hnot] at h, State.offerField_of_full f hfull]

end Arrival

/-! ### The judged setpoint (R41, R45) -/

section Judged

variable {p : PumpId} {v : Nat} {s : State}

/-- The pump after a setpoint of rate `v` is accepted (R41, R45). -/
def State.accepted (p : PumpId) (v : Nat) (s : State) : Pump :=
  let top := (s.tables.pumps[p]).maxRate
  let u := s.pumpCtl.pumps[p]
  { u with
    requested := min v top, commanded := min u.commanded (min v top), saturated := decide (top < v),
    control := if s.heldAtZero = true then .forcedOff
      else if min v top = 0 then .stopped
      else if min v top ≤ u.commanded then .steady
      else if s.riseHeld = true then .rampHeld else .ramping }

theorem controlOf_accepted (m c : Nat) (held : Bool) : controlOf m (min c m) held =
    if m = 0 then .stopped else if m ≤ c then .steady else if held = true then .rampHeld else .ramping := by
  by_cases hm : m = 0
  · simp [controlOf, hm]
  · rw [if_neg hm, controlOf_lowered (Nat.pos_of_ne_zero hm)]

theorem atRates_accepted : s.atRates (min v (s.pumpRow p).maxRate) (min (s.pump p).commanded (min v (s.pumpRow p).maxRate))
    { s.pump p with saturated := decide ((s.pumpRow p).maxRate < v) } = s.accepted p v := by
  simp only [State.atRates, State.accepted, controlOf_accepted]
  rfl

theorem judgeSetpoint_tripped (hv : 0 < v) (htrip : s.pumpCtl.tripLatch = true) :
    judgeSetpoint p v s = s.raise .interlockRefused (129 + p.val) 12 := if_pos ⟨htrip, hv⟩

theorem judgeSetpoint_open (hv : 0 < v) (htrip : s.pumpCtl.tripLatch = false) (hconn : s.tracker.conn ≠ .headOn) :
    judgeSetpoint p v s = s.raise .interlockRefused (129 + p.val) 13 :=
  (if_neg fun h => by simp [htrip] at h).trans (if_pos ⟨hconn, hv⟩)

theorem judgeSetpoint_accepted (h : v = 0 ∨ s.pumpCtl.tripLatch = false ∧ s.tracker.conn = .headOn) :
    judgeSetpoint p v s = acceptSetpoint p v s := by
  refine (if_neg fun htrip => ?_).trans (if_neg fun hopen => ?_)
  · exact h.elim htrip.2.ne' fun hfree => by simp [hfree.1] at htrip
  · exact h.elim hopen.2.ne' fun hfree => hopen.1 hfree.2

theorem acceptSetpoint_kept (h : (s.pumpCtl.pumps[p]).commanded ≤ min v (s.tables.pumps[p]).maxRate) :
    acceptSetpoint p v s = { s with
      pumpCtl := { s.pumpCtl with pumps := s.pumpCtl.pumps.set p (s.accepted p v) } } := by
  rw [acceptSetpoint, changeRates_onPump_of_not (.inr (by exact min_eq_left h)), ← atRates_accepted]
  rfl

theorem acceptSetpoint_lowered (hmode : s.mode = .supervised)
    (h : min v (s.tables.pumps[p]).maxRate < (s.pumpCtl.pumps[p]).commanded) :
    acceptSetpoint p v s = { s with
      pumpCtl := { s.pumpCtl with
        pumps := s.pumpCtl.pumps.set p { s.accepted p v with nodeRate := some (min v (s.tables.pumps[p]).maxRate) } }
      trunk := s.trunk.queueSetpoint ⟨(s.tables.pumps[p]).node, min v (s.tables.pumps[p]).maxRate, s.trunkAddr⟩ } := by
  have hmin : min (s.pump p).commanded (min v (s.pumpRow p).maxRate) = min v (s.pumpRow p).maxRate :=
    min_eq_right (by exact h.le)
  have hrates := atRates_accepted (s := s) (p := p) (v := v)
  rw [hmin] at hrates
  have hcommanding : s.commanding = true := by simp [State.commanding, hmode]
  rw [acceptSetpoint]
  dsimp only
  rw [hmin, changeRates_onPump_of_queued hcommanding (by exact h.ne), ← hrates]
  rfl

end Judged

/-- Settles O26: the mode says whether a cab setpoint is judged, ignored or forwarded, and a queued one takes its
node's place. -/
theorem pumpSetpointIsJudgedByTheMode : Obligations.PumpSetpointIsJudgedByTheMode := by
  refine ⟨fun p dest src tag seq a b payload s hmode hpump hown hlen => ?_,
    fun p dest src tag seq payload s hpump hown hlen => ?_,
    fun t e => ⟨Trunk.queueSetpoint_of_new, fun _ _ _ => Trunk.queueSetpoint_of_waiting⟩⟩
  · intro v top u accepted
    rw [exec_pumpSetpoint hpump hown hlen, pumpSetpointFrame_supervised hmode]
    have hjudged : payload = [a, b] → (if payload.length = 2 then judgeSetpoint p (natOfBytes payload) s
        else countBadSetpoint s) = judgeSetpoint p v s := fun hpayload => by
      rw [hpayload, natOfBytes_pair]
      rfl
    refine ⟨fun hbad => ?_, fun hpayload hv htrip => ?_, fun hpayload hv htrip hconn => ?_,
      fun hpayload hfree => ⟨fun hkept => ?_, fun hlowered => ?_⟩⟩
    · rw [if_neg hbad]
      rfl
    · rw [hjudged hpayload, judgeSetpoint_tripped hv htrip]
    · rw [hjudged hpayload, judgeSetpoint_open hv htrip hconn]
    · rw [hjudged hpayload, judgeSetpoint_accepted hfree, acceptSetpoint_kept hkept]
      rfl
    · rw [hjudged hpayload, judgeSetpoint_accepted hfree, acceptSetpoint_lowered hmode hlowered, State.pumpAt_node hpump]
      rfl
  · intro f
    rw [exec_pumpSetpoint hpump hown hlen]
    refine ⟨fun hmode htwo => ?_, fun hmode hbad => ?_, fun hmode hfull => ?_, fun hmode hroom => ?_⟩
    · rw [pumpSetpointFrame_standby hmode, if_pos (by exact htwo)]
    · rw [pumpSetpointFrame_standby hmode, if_neg (by exact hbad)]
      rfl
    · rw [pumpSetpointFrame_full hmode hfull]
    · rw [pumpSetpointFrame_room hmode hroom]

end Sys2Proof.Machine
end

section
/-! A second tick at the pumps, the string, the interval and the meter (R42, R70, R99, R136). -/

namespace Sys2Proof.Machine

/-! ### The ramps (R42) -/

section Ramps

variable {s t : State} {p q : PumpId}

/-- The commanded rate after a second of a ramp. -/
def State.rampRate (p : PumpId) (s : State) : Nat :=
  min (s.pump p).requested ((s.pump p).commanded + (s.pumpRow p).rampRate)

/-- A used pump stands below its requested rate under no hold. -/
def State.ramps (p : PumpId) (s : State) : Bool := decide (s.mode = .supervised ∧ s.used p = true ∧
  s.heldAtZero = false ∧ (s.pump p).commanded < (s.pump p).requested)

/-- The pump after a second: it keeps its rates, is RAMP_HELD, or rises. -/
def State.ramped (p : PumpId) (s : State) : Pump :=
  if s.ramps p = true then
    if s.riseHeld = true then { s.pump p with control := .rampHeld }
    else { s.pump p with
      commanded := s.rampRate p
      control := controlOf (s.pump p).requested (s.rampRate p) false
      nodeRate := if s.rampRate p ≠ (s.pump p).commanded then some (s.rampRate p) else (s.pump p).nodeRate }
  else s.pump p

theorem rampPump_of_not (h : s.ramps p = false) : rampPump p s = s := if_neg (of_decide_eq_false h)

theorem rampPump_of_ramps (h : s.ramps p = true) : rampPump p s =
    if s.riseHeld = true then s.onPump p fun u => { u with control := .rampHeld }
    else changeRates p (s.pump p).requested (s.rampRate p) s := if_pos (of_decide_eq_true h)

theorem State.ramps_iff : s.ramps p = true ↔ s.mode = .supervised ∧ s.used p = true ∧ s.heldAtZero = false ∧
    (s.pump p).commanded < (s.pump p).requested := decide_eq_true_iff

theorem rampPump_pump : (rampPump p s).pump q = if p = q then s.ramped p else s.pump q := by
  by_cases h : s.ramps p = true
  · obtain ⟨hmode, -, hheld, -⟩ := State.ramps_iff.mp h
    have hcommanding : s.commanding = true := by simp [State.commanding, hmode]
    rw [rampPump_of_ramps h, State.ramped, if_pos h]
    by_cases hrise : s.riseHeld = true
    · rw [if_pos hrise, if_pos hrise, State.onPump_pump]
    · rw [if_neg hrise, if_neg hrise, changeRates_pump]
      simp [hheld, hcommanding, Bool.eq_false_iff.mpr hrise]
  · rw [rampPump_of_not (Bool.eq_false_iff.mpr h), State.ramped, if_neg h]
    split
    · next hpq => rw [hpq]
    · rfl

theorem rampPump_trunk : (rampPump p s).trunk =
    if s.ramps p = true ∧ s.riseHeld = false ∧ s.rampRate p ≠ (s.pump p).commanded then
      s.trunk.queueSetpoint ⟨(s.pumpRow p).node, s.rampRate p, s.trunkAddr⟩ else s.trunk := by
  by_cases h : s.ramps p = true
  · obtain ⟨hmode, -⟩ := State.ramps_iff.mp h
    have hcommanding : s.commanding = true := by simp [State.commanding, hmode]
    rw [rampPump_of_ramps h]
    by_cases hrise : s.riseHeld = true
    · rw [if_pos hrise, if_neg fun h' => by simp [hrise] at h']
      rfl
    · rw [if_neg hrise]
      by_cases hne : s.rampRate p ≠ (s.pump p).commanded
      · rw [changeRates_of_queued hcommanding hne, if_pos ⟨h, Bool.eq_false_iff.mpr hrise, hne⟩]
        rfl
      · rw [changeRates_of_not (.inr (not_not.mp hne)), if_neg fun h' => hne h'.2.2]
        rfl
  · rw [rampPump_of_not (Bool.eq_false_iff.mpr h), if_neg fun h' => h h'.1]

theorem rampPump_latch : (rampPump p s).pumpCtl.tripLatch = s.pumpCtl.tripLatch := by
  unfold rampPump changeRates
  dsimp only
  repeat' split
  all_goals rfl

theorem State.eq_of_keeps_pumps (h : keepsAllBut [.pumpCtl, .trunk] s t) :
    t = { s with pumpCtl := t.pumpCtl, trunk := t.trunk } := by
  obtain ⟨_, _, _, _, _, _, _, _, _, _, _, _⟩ := t
  have htables := h .tables (by decide)
  have hinputs := h .inputs (by decide)
  have hcirc := h .circ (by decide)
  have htracker := h .tracker (by decide)
  have hdepth := h .depth (by decide)
  have hrecorder := h .recorder (by decide)
  have hbanks := h .banks (by decide)
  have hbilling := h .billing (by decide)
  have hmgmt := h .mgmt (by decide)
  have hpending := h .pending (by decide)
  simp only [sameIn] at htables hinputs hcirc htracker hdepth hrecorder hbanks hbilling hmgmt hpending
  subst htables hinputs hcirc htracker hdepth hrecorder hbanks hbilling hmgmt hpending
  rfl

/-- The other pump's ramp reads what stood before. -/
theorem rampPump_other : (rampPump 0 s).ramps 1 = s.ramps 1 ∧ (rampPump 0 s).riseHeld = s.riseHeld ∧
    (rampPump 0 s).rampRate 1 = s.rampRate 1 ∧ (rampPump 0 s).pump 1 = s.pump 1 ∧
    (rampPump 0 s).ramped 1 = s.ramped 1 := by
  have hpump : (rampPump 0 s).pump 1 = s.pump 1 := rampPump_pump
  have hlatch : (rampPump 0 s).pumpCtl.tripLatch = s.pumpCtl.tripLatch := rampPump_latch
  have hsame := State.eq_of_keeps_pumps (rampPump_keeps 0 s)
  generalize rampPump 0 s = t at hpump hlatch hsame
  have hheld : t.heldAtZero = s.heldAtZero := by
    unfold State.heldAtZero
    rw [hlatch, hsame]
    rfl
  have hrise : t.riseHeld = s.riseHeld := by
    rw [hsame]
    rfl
  have hmode : t.mode = s.mode := by
    rw [hsame]
    rfl
  have hused : t.used 1 = s.used 1 := by
    rw [hsame]
    rfl
  have hrow : t.pumpRow 1 = s.pumpRow 1 := by
    rw [hsame]
    rfl
  have hrate : t.rampRate 1 = s.rampRate 1 := by rw [State.rampRate, State.rampRate, hpump, hrow]
  have hramps : t.ramps 1 = s.ramps 1 := by rw [State.ramps, State.ramps, hpump, hheld, hmode, hused]
  refine ⟨hramps, hrise, hrate, hpump, ?_⟩
  rw [State.ramped, State.ramped, hpump, hrise, hrate, hramps]

theorem eachPump_rampPump_pump (p : PumpId) (s : State) : (eachPump rampPump s).pump p = s.ramped p := by
  obtain ⟨-, -, -, -, hother⟩ := rampPump_other (s := s)
  rw [eachPump, rampPump_pump, hother, rampPump_pump]
  fin_cases p <;> rfl

theorem State.ramped_still (h : s.mode ≠ .supervised ∨ (s.tables.pumps[p]).node = 0 ∨ s.heldAtZero = true ∨
    (s.pump p).requested ≤ (s.pump p).commanded) : s.ramped p = s.pump p := by
  refine if_neg fun hramps => ?_
  obtain ⟨hmode, hused, hheld, hlt⟩ := State.ramps_iff.mp hramps
  rcases h with h | h | h | h
  · exact h hmode
  · exact (s.used_iff p).mp hused h
  · simp [hheld] at h
  · exact h.not_gt hlt

theorem State.ramped_held (h : s.ramps p = true) (hrise : s.riseHeld = true) :
    s.ramped p = { s.pump p with control := .rampHeld } := (if_pos h).trans (if_pos hrise)

theorem State.rampRate_above (h : s.ramps p = true) (hpos : 0 < (s.tables.pumps[p]).rampRate) :
    s.rampRate p ≠ (s.pump p).commanded := by
  obtain ⟨-, -, -, hlt⟩ := State.ramps_iff.mp h
  have hrow : (s.pumpRow p).rampRate = (s.tables.pumps[p]).rampRate := rfl
  rw [State.rampRate]
  omega

theorem State.ramped_rises (h : s.ramps p = true) (hrise : s.riseHeld = false)
    (hpos : 0 < (s.tables.pumps[p]).rampRate) : s.ramped p = { s.pump p with
      commanded := s.rampRate p, nodeRate := some (s.rampRate p)
      control := if s.rampRate p = (s.pump p).requested then .steady else .ramping } := by
  obtain ⟨-, -, -, hlt⟩ := State.ramps_iff.mp h
  have hcontrol : controlOf (s.pump p).requested (s.rampRate p) false =
      if s.rampRate p = (s.pump p).requested then .steady else .ramping := by
    have hle : s.rampRate p ≤ (s.pump p).requested := min_le_left _ _
    rw [controlOf, if_neg (by omega)]
    by_cases htop : s.rampRate p = (s.pump p).requested
    · rw [if_neg (by omega), if_pos htop]
    · rw [if_pos (by omega), if_neg htop]
      rfl
  have hne := State.rampRate_above h hpos
  rw [State.ramped, if_pos h, if_neg (by simp [hrise]), hcontrol, if_pos hne]

end Ramps

/-! ### The setpoints of the ramps (R42, R158) -/

section Setpoints

variable {t : Trunk} {e x : SetpointEntry} {s : State} {p : PumpId}

theorem Trunk.queueSetpoint_has (t : Trunk) (e : SetpointEntry) :
    ∃ q ∈ (t.queueSetpoint e).setpoints, q.node = e.node ∧ q.rate = e.rate := by
  by_cases hwaits : ∃ q ∈ t.setpoints, q.node = e.node
  · obtain ⟨q, hq, hnode⟩ := hwaits
    have hany : t.setpoints.any (·.node == e.node) = true := by simpa using ⟨q, hq, hnode⟩
    rw [Trunk.queueSetpoint, if_pos hany]
    refine ⟨{ q with rate := e.rate }, List.mem_map.mpr ⟨q, hq, ?_⟩, hnode, rfl⟩
    rw [if_pos (by simp [hnode])]
  · push Not at hwaits
    rw [Trunk.queueSetpoint_of_new hwaits]
    exact ⟨e, List.mem_append_right _ (List.mem_singleton_self e), rfl, rfl⟩

theorem Trunk.queueSetpoint_other_mem (hx : x ∈ t.setpoints) (hne : x.node ≠ e.node) :
    x ∈ (t.queueSetpoint e).setpoints := by
  unfold Trunk.queueSetpoint
  split
  · exact List.mem_map.mpr ⟨x, hx, if_neg (by simp [hne])⟩
  · exact List.mem_append_left _ hx

/-- A rising pump has its rate in the queue, in the place of its node. -/
theorem eachPump_rampPump_setpoints (h : s.ramps p = true) (hrise : s.riseHeld = false)
    (hpos : 0 < (s.tables.pumps[p]).rampRate) :
    (∃ e ∈ (eachPump rampPump s).trunk.setpoints, e.node = (s.tables.pumps[p]).node) ∧
    ((s.tables.pumps[0]).node ≠ (s.tables.pumps[1]).node →
      ∃ e ∈ (eachPump rampPump s).trunk.setpoints, e.node = (s.tables.pumps[p]).node ∧ e.rate = s.rampRate p) := by
  have hne := State.rampRate_above h hpos
  have hrow : ∀ q, (rampPump 0 s).pumpRow q = s.pumpRow q := fun q =>
    State.pumpRow_congr q (rampPump_keeps 0 s .tables (by decide))
  have hboth : (eachPump rampPump s).trunk = (rampPump 1 (rampPump 0 s)).trunk := rfl
  match p with
  | 0 =>
    have hfirst : (rampPump 0 s).trunk = s.trunk.queueSetpoint ⟨(s.pumpRow 0).node, s.rampRate 0, s.trunkAddr⟩ :=
      rampPump_trunk.trans (if_pos ⟨h, hrise, hne⟩)
    obtain ⟨x, hx, hnode, hrate⟩ := Trunk.queueSetpoint_has s.trunk ⟨(s.pumpRow 0).node, s.rampRate 0, s.trunkAddr⟩
    rw [← hfirst] at hx
    rw [hboth, rampPump_trunk, hrow]
    split
    · refine ⟨?_, fun hnodes => ⟨x, Trunk.queueSetpoint_other_mem hx ?_, hnode, hrate⟩⟩
      · by_cases hnodes : (s.pumpRow 0).node = (s.pumpRow 1).node
        · obtain ⟨y, hy, hsecond, -⟩ := Trunk.queueSetpoint_has (rampPump 0 s).trunk
            ⟨(s.pumpRow 1).node, (rampPump 0 s).rampRate 1, (rampPump 0 s).trunkAddr⟩
          exact ⟨y, hy, hsecond.trans hnodes.symm⟩
        · exact ⟨x, Trunk.queueSetpoint_other_mem hx (by rwa [hnode]), hnode⟩
      · rw [hnode]
        exact hnodes
    · exact ⟨⟨x, hx, hnode⟩, fun _ => ⟨x, hx, hnode, hrate⟩⟩
  | 1 =>
    obtain ⟨hramps, hheld, hrate, hpump, -⟩ := rampPump_other (s := s)
    have hsecond : (eachPump rampPump s).trunk = (rampPump 0 s).trunk.queueSetpoint
        ⟨(s.pumpRow 1).node, s.rampRate 1, (rampPump 0 s).trunkAddr⟩ := by
      rw [hboth, rampPump_trunk, hramps, hheld, hrate, hpump, hrow, if_pos ⟨h, hrise, hne⟩]
    obtain ⟨x, hx, hnode, hrate'⟩ := Trunk.queueSetpoint_has (rampPump 0 s).trunk
      ⟨(s.pumpRow 1).node, s.rampRate 1, (rampPump 0 s).trunkAddr⟩
    rw [hsecond]
    exact ⟨⟨x, hx, hnode⟩, fun _ => ⟨x, hx, hnode, hrate'⟩⟩

end Setpoints

/-! ### The rest of a second (R70, R99, R136) -/

section Rest

variable {s t : State}

theorem rotatingSecond_tracker : (rotatingSecond s).tracker =
    if s.mode ≠ .starting ∧ s.tracker.conn = .headOn ∧ s.rotationAbove = true then
      { s.tracker with
        stack := s.tracker.stack.map fun r => { r with seconds := min 4294967295 (r.seconds + 1) } }
    else s.tracker := by
  unfold rotatingSecond
  split <;> rfl

theorem takeCadence_banks : (takeCadence s).banks = s.banks := by
  unfold takeCadence ticketDue
  dsimp only
  repeat' split
  · exact issueTicket_banks_of_none (.inl rfl)
  all_goals rfl

theorem takeCadence_metered : (takeCadence s).job.metered = s.job.metered := by
  unfold takeCadence ticketDue
  dsimp only
  repeat' split
  all_goals rfl

/-- The accumulators go on unless a ticket took them. -/
theorem takeCadence_acc (h : (takeCadence s).billing.tickets = s.billing.tickets) :
    (takeCadence s).billing.acc = s.billing.acc := by
  revert h
  unfold takeCadence ticketDue
  dsimp only
  repeat' split
  · intro h
    have hlonger : (issueTicket false (s.onBilling fun b => { b with cadencePending := false })).billing.tickets =
      s.billing.tickets ++ [buildTicket false (s.onBilling fun b => { b with cadencePending := false })] := rfl
    rw [hlonger] at h
    simp at h
  all_goals exact fun _ => rfl

/-- A second of an OPEN job at the meter: unless a ticket takes it the activity's seconds rise (R136). -/
theorem meterSecond_meters (hjob : s.job.state = .opened) (hmode : s.mode ≠ .starting) :
    (meterSecond s).job.metered = min 4294967295 (s.job.metered + 1) ∧ (meterSecond s).banks = s.banks ∧
    ((meterSecond s).billing.tickets = s.billing.tickets → (meterSecond s).billing.acc = { s.billing.acc with
      seconds := s.billing.acc.seconds.set s.depth.taken.code
        (min 4294967295 (s.billing.acc.seconds[s.depth.taken.code] + 1)) }) := by
  rw [meterSecond_of_opened hjob hmode]
  generalize (decide (s.job.metered < min 4294967295 (s.job.metered + 1)) &&
    cadenceFires s.settings.ticketBit (min 4294967295 (s.job.metered + 1))) = fired
  exact ⟨takeCadence_metered, takeCadence_banks, fun h => takeCadence_acc h⟩

theorem State.onInterval_of {i : Interval} (h : s.recorder.interval = some i) (f : Interval → Interval) :
    (s.onInterval f).recorder = { s.recorder with interval := some (f i) } :=
  congrArg (fun o => { s.recorder with interval := Option.map f o }) h

theorem State.onInterval_of_none (h : s.recorder.interval = none) (f : Interval → Interval) :
    (s.onInterval f).recorder = s.recorder :=
  (congrArg (fun o => { s.recorder with interval := Option.map f o }) h).trans
    (congrArg (fun o => { s.recorder with interval := o }) h.symm)

theorem drillingSecond_idle (h : s.mode = .starting ∨ s.depth.taken ≠ .drilling ∨ s.recorder.interval = none) :
    (drillingSecond s).recorder = s.recorder := by
  unfold drillingSecond
  split
  · next hdrills =>
    exact State.onInterval_of_none (h.elim (absurd · hdrills.1) fun h' => h'.elim (absurd hdrills.2) id) _
  · rfl

theorem drillingSecond_recorder {i : Interval} (hmode : s.mode ≠ .starting) (hdrills : s.depth.taken = .drilling)
    (hinterval : s.recorder.interval = some i) : (drillingSecond s).recorder =
      { s.recorder with interval := some { i with
        seconds := min 4294967295 (i.seconds + 1)
        wobSum := i.wobSum + s.wob
        torqueSum := i.torqueSum + (s.inputs[inTorque].smoothed).getD 0
        rpmSum := i.rpmSum + (s.inputs[inRotary].smoothed).getD 0
        pressureSum := i.pressureSum + (s.inputs[inPressure].smoothed).getD 0
        flags := if s.inputs[inHookload].state = .fresh ∧ s.inputs[inTorque].state = .fresh ∧
            s.inputs[inRotary].state = .fresh ∧ s.inputs[inPressure].state = .fresh then i.flags
          else i.flags ||| 8#10 } } := by
  have hflags : i.flags ||| flagIf (!(s.fresh inHookload && s.fresh inTorque && s.fresh inRotary && s.fresh inPressure))
      flagHeldInputs = if s.inputs[inHookload].state = .fresh ∧ s.inputs[inTorque].state = .fresh ∧
        s.inputs[inRotary].state = .fresh ∧ s.inputs[inPressure].state = .fresh then i.flags else i.flags ||| 8#10 := by
    by_cases hall : s.inputs[inHookload].state = .fresh ∧ s.inputs[inTorque].state = .fresh ∧
        s.inputs[inRotary].state = .fresh ∧ s.inputs[inPressure].state = .fresh
    · have hfresh : (s.fresh inHookload && s.fresh inTorque && s.fresh inRotary && s.fresh inPressure) = true := by
        simpa [State.fresh_iff, and_assoc] using hall
      rw [if_pos hall, hfresh]
      exact BitVec.or_zero
    · have hheld : (s.fresh inHookload && s.fresh inTorque && s.fresh inRotary && s.fresh inPressure) = false := by
        rw [← Bool.not_eq_true]
        simpa [State.fresh_iff, and_assoc] using hall
      rw [if_neg hall, hheld]
      rfl
  rw [← hflags, drillingSecond, if_pos ⟨hmode, hdrills⟩]
  exact State.onInterval_of hinterval _

/-- The second before its strings, intervals and meter are served is the old state with its pumps' ramps made. -/
theorem ramps_eq (s : State) : eachPump rampPump s.ticked = { s with
    pumpCtl := (eachPump rampPump s.ticked).pumpCtl, trunk := (eachPump rampPump s.ticked).trunk
    mgmt := s.ticked.mgmt } := State.eq_of_keeps_pumps (eachPump_keeps rampPump_keeps s.ticked)

theorem rotated_eq (s : State) : rotatingSecond (eachPump rampPump s.ticked) = { s with
    pumpCtl := (rotatingSecond (eachPump rampPump s.ticked)).pumpCtl
    tracker := (rotatingSecond (eachPump rampPump s.ticked)).tracker
    trunk := (rotatingSecond (eachPump rampPump s.ticked)).trunk, mgmt := s.ticked.mgmt } := by
  have hramps := ramps_eq s
  generalize eachPump rampPump s.ticked = t at hramps
  have hrotated : rotatingSecond t = { t with tracker := (rotatingSecond t).tracker } := by
    unfold rotatingSecond
    split <;> rfl
  generalize rotatingSecond t = r at hrotated
  rw [hrotated, hramps]

theorem gathered_eq (s : State) : s.gathered = { eachPump rampPump s.ticked with
    tracker := s.gathered.tracker, recorder := s.gathered.recorder } := by
  unfold State.gathered drillingSecond rotatingSecond
  dsimp only
  repeat' split
  all_goals rfl

theorem gathered_tracker (s : State) : s.gathered.tracker =
    if s.mode ≠ .starting ∧ s.tracker.conn = .headOn ∧ s.rotationAbove = true then
      { s.tracker with
        stack := s.tracker.stack.map fun r => { r with seconds := min 4294967295 (r.seconds + 1) } }
    else s.tracker := by
  have hdrills : s.gathered.tracker = (rotatingSecond (eachPump rampPump s.ticked)).tracker :=
    drillingSecond_keeps _ .tracker (by decide)
  rw [hdrills, rotatingSecond_tracker, ramps_eq]
  rfl

end Rest

/-- Settles O29: the ramps, then the string's seconds, the interval's second and the meter's, each on what the
others leave. -/
theorem secondTickRampsGathersAndMeters : Obligations.SecondTickRampsGathersAndMeters := by
  intro s
  have hmeter := meterSecond_keeps s.gathered
  have hpump : ∀ p : PumpId, (meterSecond s.gathered).pumpCtl.pumps[p] = s.ramped p := fun p => by
    have hctl : (meterSecond s.gathered).pumpCtl = (eachPump rampPump s.ticked).pumpCtl := by
      rw [hmeter .pumpCtl (by decide), gathered_eq]
    rw [hctl]
    exact eachPump_rampPump_pump p s.ticked
  have hsetpoints : (meterSecond s.gathered).trunk.setpoints = (eachPump rampPump s.ticked).trunk.setpoints := by
    have hquiet : (meterSecond s.gathered).trunk.setpoints = s.gathered.trunk.setpoints :=
      (meterSecond_moved (K := fun _ => True) (P := false) trivial trivial trivial .refl).setpoints_eq
    rw [hquiet, gathered_eq]
  have hsecond : s.gathered.recorder = (drillingSecond (rotatingSecond (eachPump rampPump s.ticked))).recorder := rfl
  have hr := rotated_eq s
  generalize rotatingSecond (eachPump rampPump s.ticked) = r at hsecond hr
  refine ⟨_, exec_secondTick s, keepsAllBut_trans (keepsAllBut_mono s.gathered_keeps (by simp))
    (keepsAllBut_mono hmeter (by simp)), fun p => ⟨fun hstill => ?_, fun hmode hnode hheld hlt => ?_⟩, ?_,
    fun hmode hdrills i hinterval => ?_, fun hidle => ?_, fun hidle => ?_, fun hmode hjob => ?_⟩
  · rw [hpump, State.ramped_still hstill]
    rfl
  · have h : s.ramps p = true := State.ramps_iff.mpr ⟨hmode, (s.used_iff p).mpr hnode, hheld, hlt⟩
    refine ⟨fun hrise => ?_, fun hrise hpos => ⟨?_, ?_⟩⟩
    · rw [hpump, State.ramped_held h hrise]
      rfl
    · rw [hpump, State.ramped_rises h hrise hpos]
      rfl
    · rw [hsetpoints]
      exact eachPump_rampPump_setpoints (s := s.ticked) h hrise hpos
  · rw [hmeter .tracker (by decide), gathered_tracker]
  · rw [hmeter .recorder (by decide), hsecond, drillingSecond_recorder (s := r) (by rwa [hr]) (by rwa [hr])
      (i := i) (by rwa [hr]), hr]
    rfl
  · rw [hmeter .recorder (by decide), hsecond, drillingSecond_idle (by rwa [hr]), hr]
  · have hgathered : meterSecond s.gathered = s.gathered := meterSecond_of_not (by
      have hjob : s.gathered.job = s.job := congrArg Billing.job s.gathered_billing
      rwa [s.gathered_mode, hjob])
    rw [hgathered]
    exact ⟨s.gathered_billing, s.gathered_keeps .banks (by decide)⟩
  · have hdepth : s.gathered.depth = s.depth := s.gathered_keeps .depth (by decide)
    have hbilling := s.gathered_billing
    have hjob' : s.gathered.job = s.job := congrArg Billing.job hbilling
    have hmeters := meterSecond_meters (s := s.gathered) (by rwa [hjob']) (by rwa [s.gathered_mode])
    simp only [hbilling, hjob', hdepth] at hmeters
    obtain ⟨hmetered, hbanks, hacc⟩ := hmeters
    exact ⟨hmetered, hbanks.trans (s.gathered_keeps .banks (by decide)), hacc⟩

end Sys2Proof.Machine
end

section
/-! Handler commands: the tests in their order, and the modes that forward them (R59, R61 to R64). -/

namespace Sys2Proof.Machine

/-! ### The payload (R59) -/

section Payload

variable {a slot : Byte} {payload : List Byte} {code : HandlerCode}

theorem HandlerCode.ofCode_code : ∀ code : HandlerCode, HandlerCode.ofCode (BitVec.ofNat 8 code.code).toNat = some code
  | .breakHead | .makeHead | .pick | .makeRod | .breakRod | .lay => rfl

theorem HandlerCode.ofCode_of_unknown {n : Nat} (h : n = 0 ∨ 6 < n) : HandlerCode.ofCode n = none := by
  unfold HandlerCode.ofCode
  split
  case h_7 => rfl
  all_goals omega

theorem parseCommand_of (h : code.hasSlot = true → slot.toNat ≤ 63) :
    parseCommand [BitVec.ofNat 8 code.code, slot] = some (code, slot.toNat) := by
  unfold parseCommand
  dsimp only
  rw [HandlerCode.ofCode_code]
  exact if_neg fun hbad => (h hbad.1).not_gt hbad.2

theorem parseCommand_of_malformed (h : payload.length ≠ 2 ∨ (payload = [a, slot] ∧ (a = 0 ∨ 6 < a.toNat ∨
    ((a = 3 ∨ a = 6) ∧ 63 < slot.toNat)))) : parseCommand payload = none := by
  rcases h with hlen | ⟨rfl, hbad⟩
  · unfold parseCommand
    split
    · exact absurd rfl hlen
    · rfl
  · rcases hbad with rfl | hbad | ⟨rfl | rfl, hslot⟩
    · rfl
    · unfold parseCommand
      dsimp only
      rw [HandlerCode.ofCode_of_unknown (.inr hbad)]
    · exact if_pos ⟨rfl, hslot⟩
    · exact if_pos ⟨rfl, hslot⟩

end Payload

/-! ### The tests of each code in their order (R62, R63) -/

section Tests

variable {k : Nat} {s : State}

theorem State.rotationStopped_iff : s.rotationStopped = true ↔ s.inputs[inRotary].state = .fresh ∧
    ∃ v, s.inputs[inRotary].smoothed = some v ∧ v ≤ (s.tables.limits.stop : Int) := by
  rw [State.rotationStopped, Bool.and_eq_true, State.fresh_iff, State.input, State.limits]
  cases s.inputs[inRotary].smoothed <;> simp

theorem State.pumpsOff_iff : s.pumpsOff = true ↔ ¬(s.running 0 = true ∨ s.running 1 = true ∨
    (s.pumpCtl.pumps[0]).commanded ≠ 0 ∨ (s.pumpCtl.pumps[1]).commanded ≠ 0) := by
  simp [State.pumpsOff, State.anyRunning, State.pump, and_assoc]

theorem Tracker.holdingFrom_iff {t : Tracker} {src : Source} : t.holdingFrom src = true ↔
    t.conn = .headOffHolding ∧ ∃ r, t.hold = some (r, src) := by
  rw [Tracker.holdingFrom, Bool.and_eq_true, beq_iff_eq]
  cases t.hold <;> simp [Prod.ext_iff]

theorem Tracker.room_iff {t : Tracker} : decide (t.stack.length < Config.stackSize) = true ↔ t.stack.length < 128 :=
  decide_eq_true_iff

theorem judgeCommand_breakHead : judgeCommand .breakHead k s =
    if s.tracker.command.isSome = true then some .handlerBusy
    else if s.tracker.conn ≠ .headOn then some .wrongState
    else if ¬s.slipsSet = true then some .slipsOpen
    else if ¬s.rotationStopped = true then some .rotating
    else if ¬s.pumpsOff = true then some .pumpsOn
    else if s.inputs[inPressure].state ≠ .fresh then some .pressureUnknown
    else if (s.tables.limits.bleed : Int) < (s.inputs[inPressure].smoothed).getD 0 then some .pressureHigh
    else none := by
  have hfresh : s.fresh inPressure = true ↔ s.inputs[inPressure].state = .fresh := s.fresh_iff inPressure
  simp only [judgeCommand, commandTests, firstFailing, State.pressureBelowBleed, State.smoothedOr0, State.input,
    State.limits, decide_eq_true_eq, beq_iff_eq, hfresh, ite_not, ne_eq, ← not_lt, Option.isNone_iff_eq_none,
    Option.isSome_iff_ne_none]

theorem judgeCommand_makeHead : judgeCommand .makeHead k s =
    if s.tracker.command.isSome = true then some .handlerBusy
    else if s.tracker.conn ≠ .headOffEmpty then some .wrongState else none := by
  simp only [judgeCommand, commandTests, firstFailing, beq_iff_eq, ite_not, ne_eq, Option.isNone_iff_eq_none,
    Option.isSome_iff_ne_none]

theorem judgeCommand_pick : judgeCommand .pick k s =
    if s.tracker.command.isSome = true then some .handlerBusy
    else if s.tracker.conn ≠ .headOffEmpty then some .wrongState
    else if s.tracker.slot k = none then some .slotEmpty
    else if 128 ≤ s.tracker.stack.length then some .stringFull
    else if ¬s.slipsSet = true then some .slipsOpen else none := by
  simp only [judgeCommand, commandTests, firstFailing, beq_iff_eq, ite_not, ne_eq, Option.isNone_iff_eq_none,
    Option.isSome_iff_ne_none, Tracker.room_iff, ← not_lt]

theorem judgeCommand_makeRod : judgeCommand .makeRod k s =
    if s.tracker.command.isSome = true then some .handlerBusy
    else if ¬s.tracker.holdingFrom .rack = true then some .wrongState
    else if 128 ≤ s.tracker.stack.length then some .stringFull
    else if ¬s.slipsSet = true then some .slipsOpen else none := by
  simp only [judgeCommand, commandTests, firstFailing, ite_not, ne_eq, Option.isNone_iff_eq_none,
    Option.isSome_iff_ne_none, Tracker.room_iff, ← not_lt]

theorem judgeCommand_breakRod : judgeCommand .breakRod k s =
    if s.tracker.command.isSome = true then some .handlerBusy
    else if s.tracker.conn ≠ .headOffEmpty then some .wrongState
    else if ¬∃ r, s.tracker.stack.getLast? = some r ∧ r.kind = .rod then some .noRodOnTop
    else if ¬s.slipsSet = true then some .slipsOpen
    else if ¬s.rotationStopped = true then some .rotating else none := by
  simp only [judgeCommand, commandTests, firstFailing, beq_iff_eq, ite_not, ne_eq, Option.isNone_iff_eq_none,
    Option.isSome_iff_ne_none, Option.any_eq_true, Tracker.top]

theorem judgeCommand_lay : judgeCommand .lay k s =
    if s.tracker.command.isSome = true then some .handlerBusy
    else if ¬s.tracker.holdingFrom .string = true then some .wrongState
    else if s.tracker.slot k ≠ none then some .slotFull else none := by
  simp only [judgeCommand, commandTests, firstFailing, ite_not, ne_eq, Option.isNone_iff_eq_none,
    Option.isSome_iff_ne_none]

end Tests

/-! ### The arrival of a command (R59, R61, R64) -/

section Arrival

variable {dest src : Addr} {tag seq : Byte} {payload : List Byte} {f : Frame} {s : State} {code : HandlerCode} {k : Nat}

theorem exec_handlerCommand (hown : s.isOwnAddress dest = false) (hpump : s.pumpAt dest = none)
    (hhandler : s.tables.limits.handler ≠ 0) (hdest : dest.val = s.tables.limits.handler) (hlen : payload.length ≤ 48) :
    exec (.handlerCommand dest src tag seq payload) s =
      .next (transmit (handlerFrame ⟨dest, src, .setpoint, tag, seq, payload⟩ s)) := by
  have hexec : exec (.handlerCommand dest src tag seq payload) s =
    finish (cabSetpoint dest src tag seq payload s) := rfl
  have hnode : s.isHandlerNode dest = true := by simp [State.isHandlerNode, State.limits, hhandler, hdest]
  rw [hexec, cabSetpoint, if_pos (by exact hlen), cabArrival, if_neg (by simp [hown]), if_pos rfl, setpointArrival, hpump]
  exact congrArg finish (if_pos hnode)

theorem handlerFrame_starting (h : s.mode = .starting) : handlerFrame f s = s.offerField f := by
  unfold handlerFrame
  rw [h]

theorem handlerFrame_monitor (h : s.mode = .monitor) (hparse : parseCommand f.payload = some (code, k)) :
    handlerFrame f s = recordCommand code k (s.offerField f) := by
  simp only [handlerFrame, h, hparse]

theorem handlerFrame_monitor_malformed (h : s.mode = .monitor) (hparse : parseCommand f.payload = none) :
    handlerFrame f s = s.offerField f := by
  simp only [handlerFrame, h, hparse]

theorem handlerFrame_judging (h : s.mode = .supervised ∨ s.mode = .standby)
    (hparse : parseCommand f.payload = some (code, k)) : handlerFrame f s = judgedCommand code k f s := by
  rcases h with h | h <;> simp only [handlerFrame, h, hparse]

theorem handlerFrame_judging_malformed (h : s.mode = .supervised ∨ s.mode = .standby)
    (hparse : parseCommand f.payload = none) : handlerFrame f s = countHandlerError s := by
  rcases h with h | h <;> simp only [handlerFrame, h, hparse]

theorem judgedCommand_outcome : Host.Outcome.next (transmit (judgedCommand code k f s)) =
    ((judgeCommand code k s).elim (HandlerCommandArm.recorded f code (if code.hasSlot = true then some k else none))
      (HandlerCommandArm.refused code.code)).outcome s := by
  unfold judgedCommand
  cases judgeCommand code k s <;> rfl

end Arrival

/-- Settles O31: the first test that fails refuses the command, and the mode says whether it is tested at all. -/
theorem handlerCommandIsJudgedOrForwarded : Obligations.HandlerCommandIsJudgedOrForwarded := by
  refine ⟨fun dest src tag seq a slot payload s hmode hown hpump hhandler hdest hlen => ?_,
    fun dest src tag seq payload s hown hpump hhandler hdest hlen => ?_⟩
  · intro t runs busy slips still pumpsOn pressure passes
    have hslips : slips = (s.slipsSet = true) := propext s.slipsSet_iff.symm
    have hstill : still = (s.rotationStopped = true) := propext State.rotationStopped_iff.symm
    have hpumpsOn : pumpsOn = ¬s.pumpsOff = true := propext (not_iff_comm.mp State.pumpsOff_iff.symm).symm
    clear_value slips still pumpsOn
    subst hslips hstill hpumpsOn
    have hexec := exec_handlerCommand (src := src) (tag := tag) (seq := seq) hown hpump hhandler hdest hlen
    have hjudged : ∀ {code : HandlerCode} {k : Nat}, parseCommand payload = some (code, k) →
        (∀ {r}, judgeCommand code k s = some r → runs (.refused code.code r)) ∧
        (judgeCommand code k s = none → runs (passes code (if code.hasSlot = true then some k else none))) := by
      intro code k hparse
      rw [handlerFrame_judging hmode hparse] at hexec
      have houtcome := hexec.trans judgedCommand_outcome
      exact ⟨fun h => by rwa [h] at houtcome, fun h => by rwa [h] at houtcome⟩
    refine ⟨fun hbad => ?_, fun hpayload => ?_, fun hpayload => ?_, fun hpayload hslot => ?_, fun hpayload => ?_,
      fun hpayload => ?_, fun hpayload hslot => ?_⟩
    · rw [handlerFrame_judging_malformed hmode (parseCommand_of_malformed hbad)] at hexec
      exact hexec
    · have hparse : parseCommand payload = some (.breakHead, slot.toNat) := by
        rw [hpayload]
        exact parseCommand_of (code := .breakHead) nofun
      obtain ⟨hrefused, hpasses⟩ := hjudged hparse
      rw [judgeCommand_breakHead] at hrefused hpasses
      refine ⟨fun hbusy => hrefused (if_pos hbusy), fun hbusy hconn => hrefused ?_, fun hbusy hconn hopen => hrefused ?_,
        fun hbusy hconn hset hturns => hrefused ?_, fun hbusy hconn hset hstill hon => hrefused ?_,
        fun hbusy hconn hset hstill hoff hstale => hrefused ?_,
        fun hbusy hconn hset hstill hoff hfresh => ⟨fun hhigh => hrefused ?_, fun hlow => hpasses ?_⟩⟩
      · rw [if_neg hbusy, if_pos hconn]
      · rw [if_neg hbusy, if_neg (not_not.mpr hconn), if_pos hopen]
      · rw [if_neg hbusy, if_neg (not_not.mpr hconn), if_neg (not_not.mpr hset), if_pos hturns]
      all_goals
        rw [if_neg hbusy, if_neg (not_not.mpr hconn), if_neg (not_not.mpr hset), if_neg (not_not.mpr hstill)]
      · rw [if_pos hon]
      · rw [if_neg hoff, if_pos hstale]
      · rw [if_neg hoff, if_neg (not_not.mpr hfresh), if_pos hhigh]
      · rw [if_neg hoff, if_neg (not_not.mpr hfresh), if_neg hlow.not_gt]
    · have hparse : parseCommand payload = some (.makeHead, slot.toNat) := by
        rw [hpayload]
        exact parseCommand_of (code := .makeHead) nofun
      obtain ⟨hrefused, hpasses⟩ := hjudged hparse
      rw [judgeCommand_makeHead] at hrefused hpasses
      refine ⟨fun hbusy => hrefused (if_pos hbusy), fun hbusy hconn => hrefused ?_, fun hbusy hconn => hpasses ?_⟩
      · rw [if_neg hbusy, if_pos hconn]
      · rw [if_neg hbusy, if_neg (not_not.mpr hconn)]
    · have hparse : parseCommand payload = some (.pick, slot.toNat) := by
        rw [hpayload]
        exact parseCommand_of (code := .pick) fun _ => hslot
      obtain ⟨hrefused, hpasses⟩ := hjudged hparse
      rw [judgeCommand_pick] at hrefused hpasses
      refine ⟨fun hbusy => hrefused (if_pos hbusy), fun hbusy hconn => hrefused ?_, fun hbusy hconn hempty => hrefused ?_,
        fun hbusy hconn hrod hfull => hrefused ?_, fun hbusy hconn hrod hroom => ⟨fun hopen => hrefused ?_,
          fun hset => hpasses ?_⟩⟩
      · rw [if_neg hbusy, if_pos hconn]
      · rw [if_neg hbusy, if_neg (not_not.mpr hconn), if_pos hempty]
      all_goals rw [if_neg hbusy, if_neg (not_not.mpr hconn), if_neg hrod]
      · rw [if_pos hfull]
      · rw [if_neg hroom.not_ge, if_pos hopen]
      · rw [if_neg hroom.not_ge, if_neg (not_not.mpr hset)]
    · have hparse : parseCommand payload = some (.makeRod, slot.toNat) := by
        rw [hpayload]
        exact parseCommand_of (code := .makeRod) nofun
      obtain ⟨hrefused, hpasses⟩ := hjudged hparse
      rw [judgeCommand_makeRod] at hrefused hpasses
      intro ready
      have hready : ready = (s.tracker.holdingFrom .rack = true) := propext Tracker.holdingFrom_iff.symm
      clear_value ready
      subst hready
      refine ⟨fun hbusy => hrefused (if_pos hbusy), fun hbusy hnot => hrefused ?_, fun hbusy hready hfull => hrefused ?_,
        fun hbusy hready hroom => ⟨fun hopen => hrefused ?_, fun hset => hpasses ?_⟩⟩
      · rw [if_neg hbusy, if_pos hnot]
      all_goals rw [if_neg hbusy, if_neg (not_not.mpr hready)]
      · rw [if_pos hfull]
      · rw [if_neg hroom.not_ge, if_pos hopen]
      · rw [if_neg hroom.not_ge, if_neg (not_not.mpr hset)]
    · have hparse : parseCommand payload = some (.breakRod, slot.toNat) := by
        rw [hpayload]
        exact parseCommand_of (code := .breakRod) nofun
      obtain ⟨hrefused, hpasses⟩ := hjudged hparse
      rw [judgeCommand_breakRod] at hrefused hpasses
      intro rodOnTop
      refine ⟨fun hbusy => hrefused (if_pos hbusy), fun hbusy hconn => hrefused ?_, fun hbusy hconn hnone => hrefused ?_,
        fun hbusy hconn hrod hopen => hrefused ?_, fun hbusy hconn hrod hset => ⟨fun hturns => hrefused ?_,
          fun hstill => hpasses ?_⟩⟩
      · rw [if_neg hbusy, if_pos hconn]
      · rw [if_neg hbusy, if_neg (not_not.mpr hconn), if_pos hnone]
      all_goals rw [if_neg hbusy, if_neg (not_not.mpr hconn), if_neg (not_not.mpr hrod)]
      · rw [if_pos hopen]
      · rw [if_neg (not_not.mpr hset), if_pos hturns]
      · rw [if_neg (not_not.mpr hset), if_neg (not_not.mpr hstill)]
    · have hparse : parseCommand payload = some (.lay, slot.toNat) := by
        rw [hpayload]
        exact parseCommand_of (code := .lay) fun _ => hslot
      obtain ⟨hrefused, hpasses⟩ := hjudged hparse
      rw [judgeCommand_lay] at hrefused hpasses
      intro ready
      have hready : ready = (s.tracker.holdingFrom .string = true) := propext Tracker.holdingFrom_iff.symm
      clear_value ready
      subst hready
      refine ⟨fun hbusy => hrefused (if_pos hbusy), fun hbusy hnot => hrefused ?_, fun hbusy hready hfull => hrefused ?_,
        fun hbusy hready hempty => hpasses ?_⟩
      · rw [if_neg hbusy, if_pos hnot]
      · rw [if_neg hbusy, if_neg (not_not.mpr hready), if_pos hfull]
      · rw [if_neg hbusy, if_neg (not_not.mpr hready), if_neg (not_not.mpr hempty)]
  · intro f
    rw [exec_handlerCommand hown hpump hhandler hdest hlen]
    refine ⟨fun hmode => ?_, fun hmode code slot hpayload hslot => ?_, fun hmode hbad => ?_⟩
    · rw [handlerFrame_starting hmode]
    · subst hpayload
      rw [handlerFrame_monitor hmode (parseCommand_of hslot)]
      rfl
    · have hnone : parseCommand payload = none := by
        rcases hbad with hlen | ⟨a, slot, hbad⟩
        · exact parseCommand_of_malformed (a := 0) (slot := 0) (.inl hlen)
        · exact parseCommand_of_malformed (.inr hbad)
      rw [handlerFrame_monitor_malformed hmode hnone]

end Sys2Proof.Machine
end

section
/-! The head's connection handed to Pump Control (R47, R58), and the moves of a handler report (R65 to R68). -/

namespace Sys2Proof.Machine

/-! ### Site time through the conditioner -/

section Now

variable {s t u : State}

/-- Of Management only the modes can differ. -/
def State.modesOnly (s t : State) : Prop := ∃ m r, t.mgmt = { s.mgmt with mode := m, remembered := r }

theorem State.modesOnly_of_mgmt (h : t.mgmt = s.mgmt) : s.modesOnly t := ⟨s.mgmt.mode, s.mgmt.remembered, h⟩

theorem State.modesOnly_of_keeps {l : List Block} (h : keepsAllBut l s t) (hl : Block.mgmt ∉ l) : s.modesOnly t :=
  State.modesOnly_of_mgmt (h .mgmt hl)

theorem State.modesOnly.trans (h : s.modesOnly t) (h' : t.modesOnly u) : s.modesOnly u := by
  obtain ⟨m, r, h⟩ := h
  obtain ⟨m', r', h'⟩ := h'
  exact ⟨m', r', by rw [h', h]⟩

theorem State.modesOnly.now (h : s.modesOnly t) : t.now = s.now := by
  obtain ⟨m, r, h⟩ := h
  rw [State.now, h]
  rfl

theorem wake_modesOnly (cause : WakeCause) (s : State) : s.modesOnly (wake cause s) := by
  unfold wake
  split
  · refine ⟨s.mgmt.remembered.getD .monitor, none, ?_⟩
    dsimp only
    rw [raise_mgmt]
    exact State.awakened_mgmt _ s
  · exact State.modesOnly_of_mgmt rfl

theorem acceptStrokes_modesOnly (p : PumpId) (c : Nat) (s : State) : s.modesOnly (acceptStrokes p c s) := by
  cases hcount : (s.input (strokeInput p)).lastCount with
  | none =>
    rw [acceptStrokes_first hcount]
    exact State.modesOnly_of_mgmt rfl
  | some last =>
    have hcollected : s.modesOnly (collectStrokes p (strokeDelta c last) (s.strokesTaken p c)) :=
      State.modesOnly.trans (t := s.strokesTaken p c) (State.modesOnly_of_mgmt rfl)
        (State.modesOnly_of_keeps (collectStrokes_keeps p _ _) (by decide))
    rw [acceptStrokes_next hcount]
    refine State.modesOnly.trans ?_ (State.modesOnly_of_keeps (react_keeps _) (by decide))
    split
    · refine hcollected.trans ?_
      unfold startRunning
      dsimp only
      split
      · exact State.modesOnly_of_mgmt rfl
      · exact State.modesOnly.trans (State.modesOnly_of_mgmt rfl) (wake_modesOnly .strokes _)
    · exact hcollected

theorem deliver_modesOnly (i : InputId) (v : Int) (s : State) : s.modesOnly (deliver i v s) := by
  have hreact : ∀ {t : State}, s.modesOnly t → s.modesOnly (react t) := fun h =>
    h.trans (State.modesOnly_of_keeps (react_keeps _) (by decide))
  unfold deliver
  split
  · exact hreact (State.modesOnly_of_keeps (onHookload_keeps s) (by decide))
  · split
    · refine hreact ?_
      unfold wakeByRotation
      split
      · exact wake_modesOnly .rotation s
      · exact State.modesOnly_of_mgmt rfl
    · split
      · exact State.modesOnly_of_keeps (onPressure_keeps v s) (by decide)
      · split
        · exact State.modesOnly_of_keeps (collectFlow_keeps s) (by decide)
        · split
          · exact hreact (State.modesOnly_of_keeps (onSlips_keeps _ s) (by decide))
          · exact State.modesOnly_of_mgmt rfl

theorem condition_modesOnly (f : Frame) (s : State) : s.modesOnly (condition f s) := by
  unfold condition
  split
  · exact State.modesOnly_of_mgmt rfl
  · split
    · unfold accept
      split
      · exact acceptStrokes_modesOnly _ _ s
      · split
        · exact State.modesOnly_of_keeps (acceptHead_keeps _ s) (by decide)
        · exact State.modesOnly.trans (t := s.valueTaken _ _)
            (State.modesOnly_of_keeps (State.valueTaken_keeps _ _ s) (by decide)) (deliver_modesOnly _ _ _)
    · exact State.modesOnly_of_keeps (countRefused_keeps _ s) (by decide)

end Now

/-! ### The connection at the pumps (R47, R58) -/

section Connection

variable {s t u : State}

/-- What Pump Control reads when the tracker hands it a connection. -/
structure State.pumpsAs (s u : State) : Prop where
  tables : u.tables = s.tables
  mode : u.mode = s.mode
  ctl : u.pumpCtl = s.pumpCtl
  setpoints : u.trunk.setpoints = s.trunk.setpoints

theorem State.pumpsAs_refl (s : State) : s.pumpsAs s := ⟨rfl, rfl, rfl, rfl⟩

theorem State.pumpsAs.trans (h : s.pumpsAs t) (h' : t.pumpsAs u) : s.pumpsAs u :=
  ⟨h'.tables.trans h.tables, h'.mode.trans h.mode, h'.ctl.trans h.ctl, h'.setpoints.trans h.setpoints⟩

/-- An event that leaves the pumps and the setpoint queue as they were leaves this view. -/
theorem State.pumpsAs_of_keeps {l : List Block} (h : keepsAllBut l s t)
    (hl : Block.tables ∉ l ∧ Block.mgmt ∉ l ∧ Block.pumpCtl ∉ l)
    (hsetpoints : t.trunk.setpoints = s.trunk.setpoints) : s.pumpsAs t := by
  obtain ⟨htables, hmgmt, hctl⟩ := hl
  exact ⟨h .tables htables, congrArg Management.mode (h .mgmt hmgmt), h .pumpCtl hctl, hsetpoints⟩

theorem Trunk.queueSetpoint_setpoints_congr {q q' : Trunk} (e : SetpointEntry) (h : q.setpoints = q'.setpoints) :
    (q.queueSetpoint e).setpoints = (q'.queueSetpoint e).setpoints := by
  unfold Trunk.queueSetpoint
  rw [h]
  split <;> rfl

/-- The zeros read the queue, the rows and the trunk address alone. -/
theorem State.zerosQueued_setpoints_congr {f g : PumpId → Bool} (htables : t.tables = s.tables)
    (hsetpoints : t.trunk.setpoints = s.trunk.setpoints) (hfg : ∀ p, f p = g p) :
    (t.zerosQueued f).setpoints = (s.zerosQueued g).setpoints := by
  have haddr := State.trunkAddr_congr htables
  have hnode : ∀ p, (t.pumpRow p).node = (s.pumpRow p).node := fun p => by rw [State.pumpRow_congr p htables]
  have hstep : ∀ (p : PumpId) {q q' : Trunk}, q.setpoints = q'.setpoints →
      (if f p = true then q.queueSetpoint ⟨(t.pumpRow p).node, 0, t.trunkAddr⟩ else q).setpoints =
        (if g p = true then q'.queueSetpoint ⟨(s.pumpRow p).node, 0, s.trunkAddr⟩ else q').setpoints := by
    intro p q q' hq
    rw [hfg p, hnode, haddr]
    split
    · exact Trunk.queueSetpoint_setpoints_congr _ hq
    · exact hq
  exact hstep 1 (hstep 0 hsetpoints)

theorem eachPump_endOpenString_pump (q : PumpId) (s : State) : (eachPump endOpenString s).pump q =
    if s.used q = true ∧ s.openStringEnds q = true then (s.pump q).atZero .stopped else s.pump q := by
  have hview : ∀ p, (endOpenString 0 s).used p = s.used p ∧
      ((endOpenString 0 s).pump p = s.pump p → (endOpenString 0 s).openStringEnds p = s.openStringEnds p) := by
    intro p
    rw [endOpenString_eq]
    split
    · refine ⟨rfl, fun h => ?_⟩
      unfold State.openStringEnds
      rw [h]
      rfl
    · exact ⟨rfl, fun _ => rfl⟩
  have hother : (endOpenString 0 s).pump 1 = s.pump 1 := by simp [endOpenString_pump]
  obtain ⟨hused, hends⟩ := hview 1
  rw [eachPump, endOpenString_pump, hused, hends hother]
  fin_cases q
  · rw [if_neg (by simp), endOpenString_pump]
    simp
  · simp only [Fin.mk_one, true_and, hother]

/-- What follows the hand-over without touching the connection, the pumps or their setpoints. -/
theorem connHanded.after (h : connHanded s t) (hconn : u.tracker.conn = t.tracker.conn) (hctl : u.pumpCtl = t.pumpCtl)
    (hsetpoints : u.trunk.setpoints = t.trunk.setpoints) : connHanded s u := by
  unfold connHanded at h ⊢
  rwa [hconn, hctl, hsetpoints]

theorem connHanded_of_same (hconn : u.tracker.conn = s.tracker.conn) (hview : s.pumpsAs u) : connHanded s u := by
  refine ⟨by rw [hview.ctl], fun h => absurd (hconn.trans h.1) h.2.1, fun h => absurd (hconn ▸ h.2.1) h.1,
    fun _ _ => ⟨hview.setpoints, hview.ctl⟩⟩

/-- Where the string was open and the latch is clear the hold ends, in SUPERVISED, and in MONITOR at a pump that is
FORCED_OFF. -/
theorem State.openStringEnds_iff {p : PumpId} (hmode : s.mode ≠ .starting) (hconn : s.tracker.conn = .headOn) :
    s.openStringEnds p = true ↔ s.mode ≠ .standby ∧ s.pumpCtl.tripLatch = false ∧
      (s.mode = .supervised ∨ (s.pump p).control = .forcedOff) := by
  have hmodes : ∀ m : Mode, m ≠ .starting → m = .monitor ∨ m = .supervised ∨ m = .standby := by
    intro m
    cases m <;> simp
  unfold State.openStringEnds State.heldAtZero
  rcases hmodes s.mode hmode with h | h | h
  · simp [h, and_comm]
  · simp [h, hconn]
  · simp [h]

theorem openString_forced (hview : s.pumpsAs u) : (eachPump forceZero u).trunk.setpoints =
      (s.zerosQueued fun p => decide ((s.tables.pumps[p]).node ≠ 0 ∧ 0 < (s.pump p).commanded)).setpoints ∧
    ∀ p : PumpId, (eachPump forceZero u).pumpCtl.pumps[p] = if (s.tables.pumps[p]).node = 0 then s.pumpCtl.pumps[p]
      else { s.pumpCtl.pumps[p] with
        requested := 0, commanded := 0, control := .forcedOff
        nodeRate := if (s.pumpCtl.pumps[p]).commanded = 0 then (s.pumpCtl.pumps[p]).nodeRate else some 0 } := by
  have hpump : ∀ p, u.pump p = s.pump p := fun p => congrArg (fun c : PumpControl => c.pumps[p]) hview.ctl
  refine ⟨?_, fun p => ?_⟩
  · rw [eachPump_forceZero_trunk]
    refine State.zerosQueued_setpoints_congr hview.tables hview.setpoints fun p => ?_
    rw [hview.tables, hpump]
  · have hforced := eachPump_forceZero_pump u p
    rw [State.used_congr p hview.tables, hpump] at hforced
    refine hforced.trans ?_
    by_cases hnode : (s.tables.pumps[p]).node = 0
    · rw [if_neg fun hused => (s.used_iff p).mp hused hnode, if_pos hnode]
      rfl
    · rw [if_pos ((s.used_iff p).mpr hnode), if_neg hnode]
      by_cases hzero : (s.pumpCtl.pumps[p]).commanded = 0
      · rw [if_pos hzero, if_neg (by rw [State.pump]; omega)]
        rfl
      · rw [if_neg hzero, if_pos (by rw [State.pump]; omega)]
        rfl

theorem openString_ends (hmode : s.mode ≠ .starting) (hview : s.pumpsAs u) (hon : u.tracker.conn = .headOn)
    (p : PumpId) : (eachPump endOpenString u).pumpCtl.pumps[p] = if (s.tables.pumps[p]).node ≠ 0 ∧
        (s.mode ≠ .standby ∧ s.pumpCtl.tripLatch = false ∧
          (s.mode = .supervised ∨ (s.pumpCtl.pumps[p]).control = .forcedOff)) then
        { s.pumpCtl.pumps[p] with requested := 0, commanded := 0, control := .stopped }
      else s.pumpCtl.pumps[p] := by
  have hends := eachPump_endOpenString_pump p u
  have hold : u.pump p = s.pump p := congrArg (fun c : PumpControl => c.pumps[p]) hview.ctl
  simp only [State.used_congr p hview.tables, State.openStringEnds_iff (by rwa [hview.mode]) hon, hold, hview.mode,
    hview.ctl, s.used_iff] at hends
  exact hends

theorem headOn_connHanded (hmode : s.mode ≠ .starting) (hview : s.pumpsAs u) (hon : u.tracker.conn = .headOn)
    (hwas : s.tracker.conn ≠ .headOn) : connHanded s (eachPump endOpenString u) := by
  have hpump := openString_ends hmode hview hon
  have htracker : (eachPump endOpenString u).tracker = u.tracker :=
    eachPump_keeps endOpenString_keeps u .tracker (by decide)
  have htrunk : (eachPump endOpenString u).trunk = u.trunk := eachPump_keeps endOpenString_keeps u .trunk (by decide)
  have hctl := State.pumpsOnly_eachPump endOpenString_pumpsOnly u
  rw [State.pumpsOnly, hview.ctl] at hctl
  refine ⟨hctl, fun h => absurd h.1 hwas, fun ⟨_, _, hstandby, hlatch⟩ => ⟨?_, fun p => ?_⟩, fun _ hstays => ⟨?_, ?_⟩⟩
  · rw [htrunk, hview.setpoints]
  · rw [hpump]
    simp [hstandby, hlatch]
  · rw [htrunk, hview.setpoints]
  · have hno : ¬(s.mode ≠ .standby ∧ s.pumpCtl.tripLatch = false) := fun h =>
      hstays ⟨hwas, (congrArg Tracker.conn htracker).trans hon, h⟩
    have hpumps : (eachPump endOpenString u).pumpCtl.pumps = s.pumpCtl.pumps := by
      refine Vector.ext fun i hi => (hpump ⟨i, hi⟩).trans (if_neg fun ⟨_, hstandby, hlatch, _⟩ => hno ⟨hstandby, hlatch⟩)
    rw [hpumps] at hctl
    exact hctl

theorem headOff_connHanded (hview : s.pumpsAs u) (hon : s.tracker.conn = .headOn) (hoff : u.tracker.conn ≠ .headOn)
    (hmode : s.mode = .supervised) : connHanded s (eachPump forceZero u) := by
  have htracker : (eachPump forceZero u).tracker = u.tracker := eachPump_keeps forceZero_keeps u .tracker (by decide)
  have hctl := State.pumpsOnly_eachPump forceZero_pumpsOnly u
  rw [State.pumpsOnly, hview.ctl] at hctl
  refine ⟨hctl, fun _ => ?_, fun hcloses => absurd hon hcloses.1, fun hnot => absurd ⟨hon, ?_, hmode⟩ hnot⟩
  · have hforced := openString_forced hview
    unfold State.zerosQueued at hforced
    simp only [decide_eq_true_eq] at hforced
    exact hforced
  · rwa [htracker]

/-- The tracker hands on the connection of `u` where Pump Control stands as in `s` (R47, R58). -/
theorem handConn_connHanded (hmode : s.mode ≠ .starting) (hview : s.pumpsAs u) :
    connHanded s (handConn s.tracker.conn u) := by
  unfold handConn
  by_cases hsame : u.tracker.conn = s.tracker.conn
  · rw [if_pos hsame]
    exact connHanded_of_same hsame hview
  · rw [if_neg hsame]
    by_cases hon : u.tracker.conn = .headOn
    · rw [if_pos hon]
      exact headOn_connHanded hmode hview hon fun h => hsame (hon.trans h.symm)
    · rw [if_neg hon]
      by_cases hopens : s.tracker.conn = .headOn ∧ u.mode = .supervised
      · rw [if_pos hopens]
        exact headOff_connHanded hview hopens.1 hon (hview.mode ▸ hopens.2)
      · rw [if_neg hopens]
        exact ⟨by rw [hview.ctl], fun h => absurd ⟨h.1, hview.mode.trans h.2.2⟩ hopens, fun h => absurd h.2.1 hon,
          fun _ _ => ⟨hview.setpoints, hview.ctl⟩⟩

end Connection

/-! ### The report at the tracker (R65 to R68) -/

section Report

variable {s h : State} {r : Report} {payload : List Byte} {a slot result : Byte} {code : HandlerCode}

theorem parseReport_of (hresult : result.toNat ≤ 1) : parseReport [BitVec.ofNat 8 code.code, slot, result] =
    some ⟨code, slot.toNat, result.toNat == 0⟩ := by
  unfold parseReport
  dsimp only
  rw [HandlerCode.ofCode_code]
  exact if_pos hresult

theorem parseReport_of_malformed (h : payload.length ≠ 3 ∨ ∃ a, payload = [a, slot, result] ∧
    (a = 0 ∨ 6 < a.toNat ∨ 1 < result.toNat)) : parseReport payload = none := by
  rcases h with hlen | ⟨a, rfl, hbad⟩
  · unfold parseReport
    split
    · exact absurd rfl hlen
    · rfl
  · unfold parseReport
    dsimp only
    rcases hbad with rfl | hbad | hbad
    · rfl
    · rw [HandlerCode.ofCode_of_unknown (.inr hbad)]
    · split
      · exact if_neg hbad.not_ge
      · rfl

theorem Tracker.matchesReport_iff {t : Tracker} : t.matchesReport r = true ↔
    ∃ p, t.command = some p ∧ p.code = r.code ∧ (p.slot = none ∨ p.slot = some r.slot) := by
  unfold Tracker.matchesReport
  cases t.command <;> simp

theorem handMove_connHanded (f : Tracker → Tracker) (hmode : s.mode ≠ .starting) (hview : s.pumpsAs h) :
    connHanded s (handMove s.tracker.conn (h.onTracker f)) := by
  refine handConn_connHanded hmode (hview.trans (State.pumpsAs_of_keeps
    (l := [.tracker, .depth, .recorder, .banks, .billing, .trunk]) (by simp) (by decide) ?_))
  exact (handLength_moved (K := fun _ => True) (P := false) (s := h.onTracker f) trivial trivial trivial trivial
    .refl).setpoints_eq

theorem mismatch_connHanded (cause : Nat) (hmode : s.mode ≠ .starting) (hview : s.pumpsAs h)
    (hconn : h.tracker.conn = s.tracker.conn) : connHanded s (mismatch code cause h) := by
  unfold mismatch
  dsimp only
  rw [hconn]
  refine (handConn_connHanded hmode (u := (setTallyUncertain h).onTracker fun t => { t with conn := mismatchConn code t })
    (hview.trans (State.pumpsAs_of_keeps (l := [.tracker, .recorder]) (by simp) (by decide) ?_))).after ?_ ?_ ?_
  · exact congrArg Trunk.setpoints (setTallyUncertain_trunk h)
  · rw [raise_keeps _ _ _ _ .tracker (by decide)]
  · rw [raise_keeps _ _ _ _ .pumpCtl (by decide)]
  · rw [raise_setpoints]

/-- Outside STARTING every report hands on its connection (R58). -/
theorem handlerReport_connHanded (payload : List Byte) (hmode : s.mode ≠ .starting) (hview : s.pumpsAs h)
    (htracker : h.tracker = s.tracker) : connHanded s (handlerReport payload h) := by
  have hclear : s.pumpsAs (clearCommand h) :=
    hview.trans (State.pumpsAs_of_keeps (l := [.tracker]) (clearCommand_keeps h) (by decide) rfl)
  have hconn : h.tracker.conn = s.tracker.conn := congrArg Tracker.conn htracker
  unfold handlerReport
  split
  · exact connHanded_of_same hconn (hview.trans (State.pumpsAs_of_keeps (countHandlerError_keeps h) (by decide) rfl))
  · rw [if_neg (by rwa [hview.mode])]
    split
    · unfold okReport
      split
      · unfold completeCommand
        dsimp only
        split
        · rw [htracker]
          exact handMove_connHanded _ hmode hclear
        · exact mismatch_connHanded 3 hmode hclear hconn
      · exact mismatch_connHanded _ hmode hview hconn
    · unfold failedReport
      have hquiet : ∀ {t : State}, t.tracker.conn = s.tracker.conn → s.pumpsAs t → ∀ k n v,
          connHanded s (t.raise k n v) := fun hconn hview k n v =>
        (connHanded_of_same hconn hview).after (by rw [raise_keeps _ _ _ _ .tracker (by decide)])
          (by rw [raise_keeps _ _ _ _ .pumpCtl (by decide)]) (raise_setpoints _ _ _ _)
      split
      · exact hquiet (t := clearCommand h) hconn hclear _ _ _
      · exact hquiet hconn hview _ _ _

end Report

end Sys2Proof.Machine
end

section
/-! Handler reports: the moves, the mismatches, the failures and the timeout (R65 to R69). -/

namespace Sys2Proof.Machine

/-! ### The move of a matching report (R66) -/

section Move

variable {t : Tracker} {k : Nat} {r : Rod} {src : Source} {below : List Rod}

theorem applyMove_breakHead (hconn : t.conn = .headOn) : applyMove .breakHead k t =
    some { t with conn := if t.hold = none then .headOffEmpty else .headOffHolding } := by
  have hoff : t.headOff = if t.hold = none then .headOffEmpty else .headOffHolding := by
    unfold Tracker.headOff
    cases t.hold <;> rfl
  rw [← hoff]
  exact if_pos hconn

theorem applyMove_makeHead (hconn : t.conn = .headOffEmpty) :
    applyMove .makeHead k t = some { t with conn := .headOn } := if_pos hconn

theorem applyMove_pick (hconn : t.conn = .headOffEmpty) (hhold : t.hold = none) (hslot : t.slot k = some r) :
    applyMove .pick k t = some { t.setSlot k none with hold := some (r, .rack), conn := .headOffHolding } := by
  simp only [applyMove, hslot, hhold]
  exact if_pos hconn

theorem applyMove_makeRod (hconn : t.conn = .headOffHolding) (hhold : t.hold = some (r, .rack))
    (hroom : t.stack.length < 128) : applyMove .makeRod k t = some { t with
      stack := t.stack ++ [{ r with runs := min 65535 (r.runs + 1) }], hold := none, conn := .headOffEmpty } := by
  simp only [applyMove, hhold]
  exact if_pos ⟨hconn, hroom⟩

theorem applyMove_breakRod (hconn : t.conn = .headOffEmpty) (hhold : t.hold = none) (hstack : t.stack = below ++ [r])
    (hrod : r.kind = .rod) : applyMove .breakRod k t = some { t with
      stack := below, hold := some (r, .string), conn := .headOffHolding } := by
  have htop : t.top = some r := by simp [Tracker.top, hstack]
  have hbelow : t.stack.dropLast = below := by simp [hstack]
  simp only [applyMove, htop, hhold, hbelow]
  exact if_pos ⟨hconn, hrod⟩

theorem applyMove_lay (hhold : t.hold = some (r, src)) (hslot : t.slot k = none) : applyMove .lay k t =
    some { t.setSlot k (some r) with
      hold := none, conn := if t.conn = .headOffHolding then .headOffEmpty else t.conn } := by
  simp [applyMove, hhold, hslot]

/-- The condition of the move of a code (R66). -/
def Tracker.moves (t : Tracker) (code : HandlerCode) (k : Nat) : Prop := match code with
  | .breakHead => t.conn = .headOn
  | .makeHead => t.conn = .headOffEmpty
  | .pick => t.conn = .headOffEmpty ∧ t.hold = none ∧ t.slot k ≠ none
  | .makeRod => t.conn = .headOffHolding ∧ (∃ r, t.hold = some (r, Source.rack)) ∧ t.stack.length < 128
  | .breakRod => t.conn = .headOffEmpty ∧ t.hold = none ∧ ∃ r, t.stack.getLast? = some r ∧ r.kind = .rod
  | .lay => t.hold ≠ none ∧ t.slot k = none

/-- Where the condition does not hold there is no move. -/
theorem applyMove_of_not {code : HandlerCode} (h : ¬t.moves code k) : applyMove code k t = none := by
  unfold applyMove
  cases code with
  | breakHead => exact if_neg h
  | makeHead => exact if_neg h
  | pick =>
    dsimp only
    split
    · next hslot hhold => exact if_neg fun hconn => h ⟨hconn, hhold, by simp [hslot]⟩
    · rfl
  | makeRod =>
    dsimp only
    split
    · next hhold => exact if_neg fun ⟨hconn, hroom⟩ => h ⟨hconn, ⟨_, hhold⟩, hroom⟩
    · rfl
  | breakRod =>
    dsimp only
    split
    · next htop hhold => exact if_neg fun ⟨hconn, hrod⟩ => h ⟨hconn, hhold, _, htop, hrod⟩
    · rfl
  | lay =>
    dsimp only
    split
    · next hhold =>
      exact if_neg fun hempty => h ⟨by simp [hhold], Option.isNone_iff_eq_none.mp hempty⟩
    · rfl

end Move

/-! ### What a report leaves (R65 to R68) -/

section Report

variable {s h : State} {r : Report} {payload : List Byte} {f : Frame} {t : Tracker} {code : HandlerCode}

theorem setTallyUncertain_tracker (s : State) :
    (setTallyUncertain s).tracker = { s.tracker with tallyUncertain := true } :=
  handUncertain_keeps _ _ .tracker (by decide)

/-- A new setting of TALLY_UNCERTAIN outside STARTING marks the open interval (R76, R101). -/
theorem setTallyUncertain_recorder (hmode : s.mode ≠ .starting) : (setTallyUncertain s).recorder =
    if s.tracker.tallyUncertain = true then s.recorder else s.recorder.marked := by
  unfold setTallyUncertain handUncertain
  by_cases htally : s.tracker.tallyUncertain = true
  · rw [if_pos htally, if_neg fun hnew => by simp [htally] at hnew]
    rfl
  · rw [if_neg htally, if_pos ⟨by simp [htally], hmode⟩, markDepthUncertain_recorder]
    rfl

/-- The connection state after a mismatched report (R67). -/
def Tracker.mismatched (t : Tracker) (code : HandlerCode) : Conn := match code with
  | .breakHead => if t.hold = none then .headOffEmpty else .headOffHolding
  | .makeHead => .headOn
  | _ => t.conn

theorem mismatchConn_eq (code : HandlerCode) (t : Tracker) :
    mismatchConn code { t with tallyUncertain := true } = t.mismatched code := by
  cases code with
  | breakHead =>
    unfold mismatchConn Tracker.headOff Tracker.mismatched
    dsimp only
    cases t.hold <;> rfl
  | _ => rfl

theorem mismatch_tracker_eq (code : HandlerCode) (cause : Nat) (s : State) : (mismatch code cause s).tracker =
    { s.tracker with tallyUncertain := true, conn := s.tracker.mismatched code } := by
  rw [mismatch_tracker, setTallyUncertain_tracker, mismatchConn_eq]

theorem mismatch_recorder (cause : Nat) (hmode : s.mode ≠ .starting) : (mismatch code cause s).recorder =
    if s.tracker.tallyUncertain = true then s.recorder else s.recorder.marked := by
  unfold mismatch
  dsimp only
  rw [raise_keeps _ _ _ _ .recorder (by decide), handConn_keeps _ _ .recorder (by decide), ← setTallyUncertain_recorder hmode]
  rfl

theorem mismatch_notified (code : HandlerCode) (cause : Nat) (s : State) :
    notified s (mismatch code cause s) .tallyMismatch code.code cause := by
  refine State.raise_notified _ _ _ _ _ ?_
  have hmgmt : ∀ c, (handConn c ((setTallyUncertain s).onTracker fun t => { t with conn := mismatchConn code t })).mgmt =
      s.mgmt := fun c => (handConn_keeps c _ .mgmt (by decide)).trans (setTallyUncertain_keeps s .mgmt (by decide))
  rw [State.now, State.now, hmgmt]

theorem completeCommand_of_move (hmove : applyMove r.code r.slot { s.tracker with command := none } = some t) :
    completeCommand r s = handMove s.tracker.conn (s.onTracker fun _ => t) := by
  unfold completeCommand
  have hmove' : applyMove r.code r.slot (clearCommand s).tracker = some t := hmove
  simp only [hmove']
  rfl

theorem completeCommand_of_none (hmove : applyMove r.code r.slot { s.tracker with command := none } = none) :
    completeCommand r s = mismatch r.code 3 (clearCommand s) := by
  unfold completeCommand
  have hmove' : applyMove r.code r.slot (clearCommand s).tracker = none := hmove
  simp only [hmove']

theorem okReport_of_other (h : ¬s.tracker.matchesReport r = true) : okReport r s =
    mismatch r.code (if s.tracker.command.isNone then 1 else 2) s := if_neg h

theorem failedReport_tracker : (failedReport r s).tracker =
    if s.tracker.matchesReport r = true then { s.tracker with command := none } else s.tracker := by
  unfold failedReport
  rw [raise_keeps _ _ _ _ .tracker (by decide)]
  split <;> rfl

theorem failedReport_notified (r : Report) (s : State) :
    notified s (failedReport r s) .handlerFailed r.code.code r.slot := by
  refine State.raise_notified _ _ _ _ _ ?_
  split <;> rfl

theorem handlerReport_ok (hmode : s.mode ≠ .starting) (hparse : parseReport payload = some ⟨code, k, true⟩) :
    handlerReport payload s = okReport ⟨code, k, true⟩ s := by
  simp [handlerReport, hparse, hmode]

theorem handlerReport_failed (hmode : s.mode ≠ .starting) (hparse : parseReport payload = some ⟨code, k, false⟩) :
    handlerReport payload s = failedReport ⟨code, k, false⟩ s := by
  simp [handlerReport, hparse, hmode]

theorem handlerReport_inStarting (hmode : s.mode = .starting) (hparse : parseReport payload = some r) :
    handlerReport payload s = if r.ok = true then setTallyUncertain s else s := by
  simp [handlerReport, hparse, hmode]

theorem handlerReport_malformed (hparse : parseReport payload = none) :
    handlerReport payload s = countHandlerError s := by
  simp [handlerReport, hparse]

/-- The report of a frame at the tracker, in every mode. -/
theorem fieldArrival_tracker (hreport : s.isHandlerReport f = true) :
    (fieldArrival f s).tracker = (handlerReport f.payload (condition f (s.offerCab f))).tracker := by
  unfold fieldArrival
  rw [hreport]
  exact checkStarting_keeps _ .tracker (by decide)

theorem fieldArrival_reported (hmode : s.mode ≠ .starting) (hr : s.mgmt.remembered ≠ some .starting)
    (hreport : s.isHandlerReport f = true) :
    fieldArrival f s = handlerReport f.payload (condition f (s.offerCab f)) :=
  (fieldArrival_awake hmode hr f).trans (if_pos hreport)

theorem fieldArrival_untaken (hmode : s.mode ≠ .starting) (hin : s.inputOf f = none)
    (hreport : s.isHandlerReport f = true) : fieldArrival f s = handlerReport f.payload (s.offerCab f) := by
  have hquiet : condition f (s.offerCab f) = s.offerCab f := condition_of_none hin
  unfold fieldArrival
  rw [hreport, hquiet]
  exact checkStarting_of_not (.inl (mode_of_keeps_ne (s := s.offerCab f) (handlerReport_keeps _ _) (by decide) hmode))

theorem heard_tracker (f : Frame) (s : State) : (condition f (s.offerCab f)).tracker = s.tracker :=
  condition_keeps f (s.offerCab f) .tracker (by decide)

theorem Tracker.length_push {u : Tracker} {q : Rod} (h : u.stack = t.stack ++ [q]) :
    u.length = t.length + q.length := by
  simp [Tracker.length, h]

/-- Where the string stays open Pump Control is handed nothing (R47). -/
theorem handConn_of_open {old : Conn} (hold : old ≠ .headOn) (hnew : s.tracker.conn ≠ .headOn) : handConn old s = s := by
  unfold handConn
  by_cases hsame : s.tracker.conn = old
  · rw [if_pos hsame]
  · rw [if_neg hsame, if_neg hnew, if_neg fun hopens => hold hopens.1]

theorem handMove_of_open (hold : s.tracker.conn ≠ .headOn) (hnew : t.conn ≠ .headOn) :
    handMove s.tracker.conn (s.onTracker fun _ => t) = handLength (s.onTracker fun _ => t) := by
  refine handConn_of_open hold ?_
  rw [handLength_tracker]
  exact hnew

end Report

/-- Settles O32: a matching report's move, and what it hands to the depth unit and to Pump Control. -/
theorem handlerReportMovesAndHoldsThePumps : Obligations.HandlerReportMovesAndHoldsThePumps := by
  refine ⟨fun f cmd slot s hlen hmode hr hreport hcmd hpayload hslot => ?_,
    fun f cmd slot s hlen hmode hin hreport hcmd hpayload hslot => ?_⟩
  · intro t heard
    have htracker : heard.tracker = s.tracker := heard_tracker f s
    have hawake : heard.mode ≠ .starting := condition_awake (s := s.offerCab f) hmode hr f
    have hparse : parseReport f.payload = some ⟨cmd.code, slot.toNat, true⟩ := by
      rw [hpayload]
      exact parseReport_of (by decide)
    have hreported := fieldArrival_reported hmode hr hreport
    have hcompleted : fieldArrival f s = completeCommand ⟨cmd.code, slot.toNat, true⟩ heard := by
      rw [hreported, handlerReport_ok hawake hparse]
      exact if_pos (Tracker.matchesReport_iff.mpr ⟨cmd, by rw [htracker, hcmd], rfl, hslot⟩)
    have hmoved : ∀ {code : HandlerCode} {u : Tracker}, cmd.code = code →
        applyMove code slot.toNat { t with command := none } = some u →
        fieldArrival f s = handMove heard.tracker.conn (heard.onTracker fun _ => u) ∧ (fieldArrival f s).tracker = u := by
      intro code u hcode hmove
      have hmove' := hcompleted.trans (completeCommand_of_move (by rw [htracker, hcode]; exact hmove))
      exact ⟨hmove', by rw [hmove', handMove_tracker]; rfl⟩
    refine ⟨fieldArrival f s, exec_fieldFrame_bytes hlen s, fieldArrival_tables, fun hin => condition_of_none hin, ?_,
      fun hcode hconn => ?_, fun hcode hconn => ?_, fun r hcode hconn hhold hrod => ?_,
      fun r hcode hconn hhold hroom => ?_, fun below r hcode hconn hhold hstack hkind => ?_,
      fun r src hcode hhold hempty => ?_⟩
    · rw [hreported]
      exact handlerReport_connHanded f.payload hawake (State.pumpsAs_refl heard) rfl
    · exact (hmoved hcode (applyMove_breakHead hconn)).2
    · exact (hmoved hcode (applyMove_makeHead hconn)).2
    · exact (hmoved hcode (applyMove_pick hconn hhold hrod)).2
    · obtain ⟨hmove, hleft⟩ := hmoved hcode (applyMove_makeRod hconn hhold hroom)
      rw [handMove_of_open (by rw [htracker, hconn]; nofun) (by simp)] at hmove
      refine ⟨hleft, ?_, hmove ▸ handLength_lengthTaken _ heard⟩
      rw [hmove, handLength_stringLength]
      exact Tracker.length_push (t := t) (q := { r with runs := min 65535 (r.runs + 1) }) rfl
    · obtain ⟨hmove, hleft⟩ := hmoved hcode (applyMove_breakRod hconn hhold hstack hkind)
      rw [handMove_of_open (by rw [htracker, hconn]; nofun) (by simp)] at hmove
      refine ⟨hleft, ?_, hmove ▸ handLength_lengthTaken _ heard⟩
      have hlength : t.length = Tracker.length { t with stack := below } + r.length := Tracker.length_push hstack
      rw [hmove, handLength_stringLength, hlength, add_sub_cancel_right]
      rfl
    · exact (hmoved hcode (applyMove_lay hhold hempty)).2
  · have hview : s.pumpsAs (s.offerCab f) := ⟨rfl, rfl, rfl, State.offerCab_setpoints f s⟩
    have hreported := fieldArrival_untaken hmode hin hreport
    have hparse : parseReport f.payload = some ⟨cmd.code, slot.toNat, true⟩ := by
      rw [hpayload]
      exact parseReport_of (by decide)
    have hcompleted : fieldArrival f s = completeCommand ⟨cmd.code, slot.toNat, true⟩ (s.offerCab f) := by
      rw [hreported, handlerReport_ok (s := s.offerCab f) hmode hparse]
      exact if_pos (Tracker.matchesReport_iff.mpr ⟨cmd, hcmd, rfl, hslot⟩)
    have hmoved : ∀ {code : HandlerCode} {u : Tracker}, cmd.code = code →
        applyMove code slot.toNat { s.tracker with command := none } = some u → (fieldArrival f s).tracker = u := by
      intro code u hcode hmove
      rw [hcompleted, completeCommand_of_move (s := s.offerCab f) (by rw [hcode]; exact hmove), handMove_tracker]
      rfl
    refine ⟨fieldArrival f s, exec_fieldFrame_bytes hlen s, ?_, fun hcode hconn => ?_, fun hcode hconn => ?_⟩
    · rw [hreported]
      exact handlerReport_connHanded f.payload hmode hview rfl
    · rw [hmoved hcode (applyMove_breakHead hconn)]
      dsimp only
      split <;> nofun
    · rw [hmoved hcode (applyMove_makeHead hconn)]

/-! ### The handler timer (R69) -/

section Timer

variable {s : State} {p : PendingCommand}

theorem exec_handlerTimeout_stopped (h : s.tracker.command = none) : exec .handlerTimeout s = .next (transmit s) := by
  have hexec : exec .handlerTimeout s = finish (onExpiry s.handlerDue expireHandler s) := rfl
  rw [hexec, State.handlerDue, h]
  rfl

theorem exec_handlerTimeout_due (h : s.tracker.command = some p) :
    exec .handlerTimeout s = .next (transmit (handlerExpiry p (s.reach p.due))) := by
  have hexec : exec .handlerTimeout s = finish (onExpiry s.handlerDue expireHandler s) := rfl
  have hcmd : (s.reach p.due).tracker.command = some p := h
  have hexpires : expireHandler (s.reach p.due) = handlerExpiry p (s.reach p.due) := by
    simp only [expireHandler, hcmd]
  rw [hexec, State.handlerDue, h, ← hexpires]
  rfl

end Timer

/-- Settles O33: a report that does not match or cannot be applied, a failed one, none at all, and the timer. -/
theorem handlerMismatchesFailuresAndTimeout : Obligations.HandlerMismatchesFailuresAndTimeout := by
  refine ⟨fun f code slot result s hlen hr hreport => ?_, fun s => ⟨exec_handlerTimeout_stopped, fun p hcmd => ?_⟩⟩
  · intro t matched conn applies heard interval
    have htracker : heard.tracker = s.tracker := heard_tracker f s
    have hawake : s.mode ≠ .starting → heard.mode ≠ .starting := fun hmode =>
      condition_awake (s := s.offerCab f) hmode hr f
    have hstarting : s.mode = .starting → heard.mode = .starting := fun hmode =>
      (congrArg Management.mode (condition_starting (s := s.offerCab f) f hmode .mgmt (by decide))).trans hmode
    have hnow : heard.now = s.now := (condition_modesOnly f (s.offerCab f)).now
    have hreported := fun hmode => fieldArrival_reported hmode hr hreport
    have harrived := fieldArrival_tracker hreport
    have hmatch : ∀ {p ok}, t.command = some p → (matched p ↔ heard.tracker.matchesReport ⟨code, slot.toNat, ok⟩ = true) := by
      intro p ok hcmd
      rw [Tracker.matchesReport_iff, htracker]
      exact ⟨fun h => ⟨p, hcmd, h⟩, fun ⟨q, hq, h⟩ => Option.some.inj (hcmd.symm.trans hq) ▸ h⟩
    refine ⟨fieldArrival f s, exec_fieldFrame_bytes hlen s, fun hin => condition_of_none hin, fun hmode => ?_,
      fun hbad => ?_, fun hpayload => ?_, fun hpayload => ?_⟩
    · rw [hreported hmode]
      exact handlerReport_connHanded f.payload (hawake hmode) (State.pumpsAs_refl heard) rfl
    · rw [harrived, handlerReport_malformed (parseReport_of_malformed hbad)]
      exact congrArg (fun t : Tracker => { t with frameErrors := min 65535 (t.frameErrors + 1) }) htracker
    · have hparse : parseReport f.payload = some ⟨code, slot.toNat, true⟩ := by
        rw [hpayload]
        exact parseReport_of (by decide)
      have hmismatched : ∀ {cause}, s.mode ≠ .starting → okReport ⟨code, slot.toNat, true⟩ heard = mismatch code cause heard →
          (fieldArrival f s).tracker = { t with tallyUncertain := true, conn := conn } ∧
          (fieldArrival f s).recorder = interval ∧ notified s (fieldArrival f s) .tallyMismatch code.code cause := by
        intro cause hmode hok
        rw [hreported hmode, handlerReport_ok (hawake hmode) hparse, hok]
        refine ⟨?_, ?_, (mismatch_notified code cause heard).congr hnow.symm rfl⟩
        · rw [mismatch_tracker_eq, htracker]
          rfl
        · rw [mismatch_recorder cause (hawake hmode), htracker]
      refine ⟨fun hmode => ?_, fun hmode hcmd => hmismatched hmode ?_, fun p hmode hcmd hno => hmismatched hmode ?_,
        fun p hmode hcmd hyes hnot => ?_⟩
      · rw [harrived, handlerReport_inStarting (hstarting hmode) hparse, if_pos rfl, setTallyUncertain_tracker, htracker]
      · rw [okReport_of_other fun h => ?_, htracker, hcmd]
        · rfl
        · obtain ⟨p, hp, -⟩ := Tracker.matchesReport_iff.mp h
          rw [htracker, hcmd] at hp
          cases hp
      · rw [okReport_of_other fun h => hno ((hmatch hcmd).mpr h), htracker, hcmd]
        rfl
      · have hnone : applyMove code slot.toNat { heard.tracker with command := none } = none := by
          rw [htracker]
          exact applyMove_of_not (t := { t with command := none }) hnot
        have hok : okReport ⟨code, slot.toNat, true⟩ heard = mismatch code 3 (clearCommand heard) :=
          (if_pos ((hmatch hcmd).mp hyes)).trans (completeCommand_of_none hnone)
        rw [hreported hmode, handlerReport_ok (hawake hmode) hparse, hok]
        refine ⟨?_, ?_, (mismatch_notified code 3 (clearCommand heard)).congr hnow.symm rfl⟩
        · rw [mismatch_tracker_eq]
          have hclear : (clearCommand heard).tracker = { t with command := none } :=
            congrArg (fun t : Tracker => { t with command := none }) htracker
          rw [hclear]
          rfl
        · rw [mismatch_recorder (s := clearCommand heard) 3 (hawake hmode)]
          have htally : heard.tracker.tallyUncertain = t.tallyUncertain := congrArg Tracker.tallyUncertain htracker
          exact if_congr (by exact htally ▸ Iff.rfl) rfl rfl
    · have hparse : parseReport f.payload = some ⟨code, slot.toNat, false⟩ := by
        rw [hpayload]
        exact parseReport_of (by decide)
      refine ⟨fun hmode => ?_, fun hmode => ⟨?_, fun p hcmd hyes => ?_, fun hno => ?_⟩⟩
      · rw [harrived, handlerReport_inStarting (hstarting hmode) hparse, if_neg nofun, htracker]
      all_goals rw [hreported hmode, handlerReport_failed (hawake hmode) hparse]
      · exact (failedReport_notified _ heard).congr hnow.symm rfl
      · rw [failedReport_tracker, if_pos ((hmatch hcmd).mp hyes), htracker]
      · rw [failedReport_tracker, if_neg fun h => ?_, htracker]
        obtain ⟨p, hp, hyes⟩ := Tracker.matchesReport_iff.mp h
        rw [htracker] at hp
        rcases hno with hnone | ⟨q, hq, hnot⟩
        · cases hnone.symm.trans hp
        · obtain rfl := Option.some.inj (hq.symm.trans hp)
          exact hnot hyes
  · refine ⟨_, exec_handlerTimeout_due hcmd, ?_, ?_, State.raise_notified _ _ _ _ _ rfl, ?_⟩
    · exact raise_keeps _ _ _ _ .tracker (by decide)
    · exact raise_mgmt _ _ _ _
    · unfold handlerExpiry
      simp

end Sys2Proof.Machine
end

section
/-! The expiry of a balance period: the next period, and the balance of the one that ends (R18, R22, R23). -/

namespace Sys2Proof.Machine

/-! ### The expiry (R18, R92) -/

section Expiry

variable {s : State} {due : Nat}

/-- The part at a period's expiry once Pump Control has judged both pumps (R48). -/
def State.expired (due : Nat) (s : State) : State :=
  judgePeriod 1 s.circ.strokes2 (judgePeriod 0 s.circ.strokes1 (s.reach due))

/-- The part once the period is worked and the next one has begun, before the tests. -/
def State.worked (due : Nat) (s : State) : State :=
  endMovementPeriod (beginPeriod (workPeriod (s.expired due)))

theorem exec_periodExpiry_due (h : s.circ.periodDue = some due) :
    exec .periodExpiry s = .next (transmit (react (s.worked due))) := by
  have hexec : exec .periodExpiry s = finish (onExpiry s.circ.periodDue endPeriod s) := rfl
  rw [hexec, h]
  rfl

theorem State.expired_eq (due : Nat) (s : State) : s.expired due = { s with
    pumpCtl := (s.expired due).pumpCtl, trunk := (s.expired due).trunk
    mgmt := { s.mgmt with clock := max s.mgmt.clock due } } :=
  State.eq_of_keeps_pumps (s := s.reach due) (by unfold State.expired; simp)

theorem State.expired_keeps (due : Nat) (s : State) : keepsAllBut [.pumpCtl, .trunk, .mgmt] s (s.expired due) := by
  unfold State.expired
  simp

theorem State.expired_circ : (s.expired due).circ = s.circ := s.expired_keeps due .circ (by decide)
theorem State.expired_tables : (s.expired due).tables = s.tables := s.expired_keeps due .tables (by decide)
theorem State.expired_inputs : (s.expired due).inputs = s.inputs := s.expired_keeps due .inputs (by decide)
theorem State.expired_recorder : (s.expired due).recorder = s.recorder := s.expired_keeps due .recorder (by decide)

theorem State.expired_mgmt : (s.expired due).mgmt = { s.mgmt with clock := max s.mgmt.clock due } := by
  rw [s.expired_eq due]

theorem State.worked_keeps (due : Nat) (s : State) :
    keepsAllBut [.circ, .pumpCtl, .depth, .recorder, .billing, .trunk, .mgmt] s (s.worked due) := by
  unfold State.worked State.expired
  simp

/-- The period's work at the monitor: the window and the circulation state. -/
def State.circWorked (s : State) : Circulation := (if s.pumped then pumpedPeriod s else noPumpPeriod s).circ

theorem workPeriod_circ (s : State) : (workPeriod s).circ = s.circWorked :=
  (handPeriodResult_keeps _ _ _ _ .circ (by decide)).trans (notifyState_keeps _ _ _ .circ (by decide))

/-- The next period begins in the same event (R18, R21). -/
theorem State.worked_circ (due : Nat) (s : State) : (s.worked due).circ = { (s.expired due).circWorked with
    strokes1 := 0, strokes2 := 0, flowSum := 0, flowCount := 0, periodHeld := false
    pits := s.takePits, periodDue := some (max s.mgmt.clock due + 1000 * s.settings.period) } := by
  have hkeeps := workPeriod_keeps (s.expired due)
  have htables : (workPeriod (s.expired due)).tables = s.tables := by
    rw [hkeeps .tables (by decide), s.expired_tables]
  have hinputs : (workPeriod (s.expired due)).inputs = s.inputs := by
    rw [hkeeps .inputs (by decide), s.expired_inputs]
  have hmgmt : (workPeriod (s.expired due)).mgmt = { s.mgmt with clock := max s.mgmt.clock due } := by
    rw [hkeeps .mgmt (by decide), s.expired_mgmt]
  have hbegun : (s.worked due).circ = { (workPeriod (s.expired due)).circ with
      strokes1 := 0, strokes2 := 0, flowSum := 0, flowCount := 0, periodHeld := false
      pits := (workPeriod (s.expired due)).takePits
      periodDue := some ((workPeriod (s.expired due)).mgmt.clock +
        1000 * (workPeriod (s.expired due)).tables.settings.period) } := rfl
  rw [hbegun, workPeriod_circ, State.takePits_congr htables hinputs, hmgmt, htables]
  rfl

/-- The head's movement over the period is recorded (R92). -/
theorem State.worked_depth (due : Nat) (s : State) : (s.worked due).depth = { s.depth with
    periodHead := some s.depth.head, lastMovement := s.depth.periodHead.map fun h => |s.depth.head - h| } := by
  have hdepth : (workPeriod (s.expired due)).depth = s.depth := by
    rw [workPeriod_keeps _ .depth (by decide), s.expired_eq due]
  have hended : (s.worked due).depth = { (workPeriod (s.expired due)).depth with
      lastMovement := (workPeriod (s.expired due)).depth.movement
      periodHead := some (workPeriod (s.expired due)).depth.head } := rfl
  rw [hended, hdepth]
  rfl

theorem react_movement (t : State) : (react t).depth.periodHead = t.depth.periodHead ∧
    (react t).depth.lastMovement = t.depth.lastMovement := by
  obtain ⟨i, a, due, h⟩ := react_depth t
  rw [h, advanceHole_depth]
  exact ⟨rfl, rfl⟩

end Expiry

/-! ### The balance (R22, R23) -/

section Balance

variable {s : State}

/-- The return-flow mean of the period, where FLOW_OUT has one (R20). -/
def State.flowMean (s : State) : Nat :=
  (max 0 (min (s.circ.flowSum.fdiv (s.circ.flowCount : Int)) 20000)).toNat

theorem State.pumpFlow_eq (p : PumpId) (n : Nat) (s : State) : s.pumpFlow p n =
    if (s.tables.pumps[p]).node = 0 then 0
    else n * (s.tables.pumps[p]).displacement * (s.tables.pumps[p]).efficiency := by
  unfold State.pumpFlow
  by_cases hnode : (s.tables.pumps[p]).node = 0
  · rw [if_neg fun hused => (s.used_iff p).mp hused hnode, if_pos hnode]
  · rw [if_pos ((s.used_iff p).mpr hnode), if_neg hnode]
    rfl

theorem Circulation.qavg_of (h : s.circ.flowCount ≠ 0) : s.circ.qavg = some s.flowMean := if_neg h

theorem State.goodMean_of (hfresh : s.inputs[inFlowOut].state = .fresh) (hcount : s.circ.flowCount ≠ 0) :
    s.goodMean = some s.flowMean :=
  (if_pos ((s.fresh_iff inFlowOut).mpr hfresh)).trans (Circulation.qavg_of hcount)

theorem State.goodMean_of_not (h : ¬(s.inputs[inFlowOut].state = .fresh ∧ s.circ.flowCount ≠ 0)) :
    s.goodMean = none := by
  unfold State.goodMean
  by_cases hfresh : s.inputs[inFlowOut].state = .fresh
  · have hcount : s.circ.flowCount = 0 := not_not.mp fun hcount => h ⟨hfresh, hcount⟩
    rw [if_pos ((s.fresh_iff inFlowOut).mpr hfresh)]
    exact if_pos hcount
  · rw [if_neg fun h' => hfresh ((s.fresh_iff inFlowOut).mp h')]

/-- The change of volume of the pit set over the period (R23). -/
def State.pitSum (s : State) : Int := (s.pitSet.map fun q =>
  s.pitVolume q.1 ((s.inputs[pitInput q.1].smoothed).getD 0) - s.pitVolume q.1 q.2).sum

theorem State.pitChange_eq (s : State) : s.pitChange = if s.pitSet = [] then none else some s.pitSum := by
  unfold State.pitChange
  simp only [List.isEmpty_iff]
  rfl

theorem State.flowOut_of_mean {q : Nat} (h : s.goodMean = some q) : s.flowOut =
    ⟨(s.flowOutSum q / 3 : Nat), s.flowOutSum q % 3, some q, false, false⟩ := by
  simp only [State.flowOut, h]

theorem State.flowOut_of_pits (h : s.goodMean = none) (hpits : s.pitSet ≠ []) : s.flowOut =
    ⟨s.vin + s.pitSum, s.circ.carryOut, s.circ.heldMean, false, true⟩ := by
  have hchange := s.pitChange_eq
  rw [if_neg hpits] at hchange
  simp only [State.flowOut, h, hchange]

theorem State.flowOut_of_heldMean {m : Nat} (h : s.goodMean = none) (hpits : s.pitSet = [])
    (hmean : s.circ.heldMean = some m) : s.flowOut =
    ⟨(s.flowOutSum m / 3 : Nat), s.flowOutSum m % 3, some m, true, false⟩ := by
  have hchange := s.pitChange_eq
  rw [if_pos hpits] at hchange
  simp only [State.flowOut, h, hchange, hmean]

theorem State.flowOut_of_nothing (h : s.goodMean = none) (hpits : s.pitSet = []) (hmean : s.circ.heldMean = none) :
    s.flowOut = ⟨s.vin, s.circ.carryOut, none, true, false⟩ := by
  have hchange := s.pitChange_eq
  rw [if_pos hpits] at hchange
  simp only [State.flowOut, h, hchange, hmean]

end Balance

end Sys2Proof.Machine
end

section
/-! A pumped period: its record, the window it joins and the move of the state (R22 to R24, R30, R31). -/

namespace Sys2Proof.Machine

/-! ### The monitor after a pumped period (R24, R30, R31) -/

section Joined

variable {s : State} {due : Nat}

/-- The monitor once the period's record has joined, before the state moves. -/
def State.circJoined (s : State) : Circulation := (joinPeriod s).circ

theorem State.circJoined_window (s : State) : s.circJoined.window =
    (if s.settings.window ≤ s.circ.window.length then s.circ.window.tail else s.circ.window) ++ [s.periodRecord] := by
  have hjoin : s.circJoined.window = joinWindow s.settings.window s.circ.window s.periodRecord := rfl
  rw [hjoin, joinWindow]
  split <;> rfl

/-- What a pumped period leaves whatever state it finds. -/
theorem pumpedPeriod_always (s : State) : (pumpedPeriod s).circ.heldMean = s.flowOut.heldMean ∧
    (pumpedPeriod s).circ.sumR = ((pumpedPeriod s).circ.window.map PeriodRecord.balance).sum := by
  unfold pumpedPeriod movePumped
  repeat' split
  all_goals exact ⟨rfl, rfl⟩

/-- Unless it refills a blind window, the record joins the one that stands (R24, R31). -/
theorem pumpedPeriod_joins (h : s.circ.state ≠ .blind ∨ s.periodRecord.held = true) :
    (pumpedPeriod s).circ.window = s.circJoined.window ∧ (pumpedPeriod s).circ.carryIn = s.flowInSum % 100 ∧
    (pumpedPeriod s).circ.held = s.circJoined.held ∧ (pumpedPeriod s).circ.carryOut = s.flowOut.carry := by
  unfold pumpedPeriod movePumped
  split
  case h_3 hblind =>
    rw [if_pos (h.elim (absurd hblind) id)]
    exact ⟨rfl, rfl, rfl, rfl⟩
  all_goals
    repeat' split
    all_goals exact ⟨rfl, rfl, rfl, rfl⟩

theorem pumpedPeriod_refills (hblind : s.circ.state = .blind) (hheld : s.periodRecord.held = false) :
    (pumpedPeriod s).circ = { s.circJoined.cleared.setWindow [s.periodRecord] with state := .filling } := by
  unfold pumpedPeriod movePumped
  simp only [hblind, hheld]
  rfl

theorem pumpedPeriod_rises (hstate : s.circ.state = .pumpsOff ∨ s.circ.state = .flowing) (hempty : s.circ.window = [])
    (hw : 2 ≤ s.settings.window) : (pumpedPeriod s).circ = { s.circJoined with flowing := 0, state := .filling } := by
  have hlength : s.circJoined.window.length = 1 := by
    rw [s.circJoined_window, hempty]
    simp
  have hroom : (joinPeriod s).windowFull = false := decide_eq_false (by
    have hwindow : (joinPeriod s).circ.window.length = 1 := hlength
    have hsettings : (joinPeriod s).settings = s.settings := rfl
    rw [hwindow, hsettings]
    omega)
  unfold pumpedPeriod movePumped
  rcases hstate with h | h
  · simp only [h, hroom]
    rfl
  · simp only [h, hroom]
    rfl

theorem pumpedPeriod_stays (hblind : s.circ.state = .blind) (hheld : s.periodRecord.held = true) :
    (pumpedPeriod s).circ = s.circJoined := by
  unfold pumpedPeriod movePumped
  simp only [hblind, hheld]
  rfl

/-- The state a running window moves to once the record has joined (R30, R31). -/
def State.stateJoined (s : State) : CircState :=
  if 3 ≤ s.circJoined.held then .blind
  else if s.settings.window ≤ s.circJoined.window.length then
    evaluate s.tables.thresholds[s.recorder.currentClass] s.circ.state s.circJoined.sumR s.circJoined.sumIn
      s.circJoined.sumOut
  else .filling

theorem setCircState_circ (st : CircState) (t : State) : (setCircState st t).circ = { t.circ with state := st } := rfl

theorem joinPeriod_judged (before : CircState) (s : State) : (joinPeriod s).judged before =
    evaluate s.tables.thresholds[s.recorder.currentClass] before s.circJoined.sumR s.circJoined.sumIn
      s.circJoined.sumOut := rfl

theorem joinPeriod_windowFull (s : State) : (joinPeriod s).windowFull = true ↔
    s.settings.window ≤ s.circJoined.window.length := decide_eq_true_iff

theorem movePumped_filling (r : PeriodRecord) (t : State) : movePumped .filling r t =
    if 3 ≤ t.circ.held then setCircState .blind t
    else if t.windowFull = true then setCircState (t.judged .filling) t else t := rfl

theorem movePumped_evaluated {st : CircState} (h : st.evaluated = true) (r : PeriodRecord) (t : State) :
    movePumped st r t = if 3 ≤ t.circ.held then setCircState .blind t else setCircState (t.judged st) t := by
  unfold movePumped
  cases st <;> simp [CircState.evaluated] at h ⊢

theorem pumpedPeriod_moves (hstate : s.circ.state = .filling ∨ s.circ.state.evaluated = true)
    (hfull : s.circ.state.evaluated = true → s.settings.window ≤ s.circJoined.window.length) :
    (pumpedPeriod s).circ = { s.circJoined with state := s.stateJoined } := by
  have hjoined : (joinPeriod s).circ = s.circJoined := rfl
  unfold pumpedPeriod State.stateJoined
  rw [← joinPeriod_judged]
  by_cases hheld : 3 ≤ s.circJoined.held
  · have hblind : movePumped s.circ.state s.periodRecord (joinPeriod s) = setCircState .blind (joinPeriod s) := by
      rcases hstate with h | h
      · rw [h, movePumped_filling, hjoined, if_pos hheld]
      · rw [movePumped_evaluated h, hjoined, if_pos hheld]
    rw [hblind, if_pos hheld, setCircState_circ, hjoined]
  · rw [if_neg hheld]
    by_cases hwindow : s.settings.window ≤ s.circJoined.window.length
    · have hjudged : movePumped s.circ.state s.periodRecord (joinPeriod s) =
          setCircState ((joinPeriod s).judged s.circ.state) (joinPeriod s) := by
        rcases hstate with h | h
        · rw [h, movePumped_filling, hjoined, if_neg hheld, if_pos ((joinPeriod_windowFull s).mpr hwindow)]
        · rw [movePumped_evaluated h, hjoined, if_neg hheld]
      rw [hjudged, if_pos hwindow, setCircState_circ, hjoined]
    · have hfilling : s.circ.state = .filling := hstate.resolve_right fun h => hwindow (hfull h)
      have hsame : s.circJoined = { s.circJoined with state := .filling } := by
        rw [← hfilling]
        rfl
      rw [if_neg hwindow, ← hsame, hfilling, movePumped_filling, hjoined, if_neg hheld,
        if_neg fun h => hwindow ((joinPeriod_windowFull s).mp h), hjoined]

end Joined

/-! ### The expiry of a pumped period -/

section Expired

variable {s : State} {due : Nat}

theorem State.expired_periodRecord : (s.expired due).periodRecord = s.periodRecord := by
  rw [s.expired_eq due]
  rfl

theorem State.expired_circJoined : (s.expired due).circJoined = s.circJoined := by
  rw [s.expired_eq due]
  rfl

theorem State.expired_stateJoined : (s.expired due).stateJoined = s.stateJoined := by
  rw [s.expired_eq due]
  rfl

theorem State.expired_flowOut : (s.expired due).flowOut = s.flowOut := by
  rw [s.expired_eq due]
  rfl

theorem State.expired_flowInSum : (s.expired due).flowInSum = s.flowInSum := by
  rw [s.expired_eq due]
  rfl

theorem State.expired_settings : (s.expired due).settings = s.settings := congrArg Tables.settings State.expired_tables

theorem State.expired_circWorked_pumped (hpumped : 0 < s.circ.strokes1 + s.circ.strokes2) :
    (s.expired due).circWorked = (pumpedPeriod (s.expired due)).circ := by
  have h : (s.expired due).pumped = true := decide_eq_true (by rwa [State.expired_circ])
  rw [State.circWorked, if_pos h]

end Expired

/-- Settles O44: the period's record, its place in the window, and the move of the state that finds it there. -/
theorem pumpedPeriodJoinsTheWindow : Obligations.PumpedPeriodJoinsTheWindow := by
  intro due s hlaw hmode hdue hpumped c pumpIn T U qavg volume fromFlow joined held
  obtain ⟨hw, -, -, hlength, -, -, -, hfull, hoff, -⟩ := hlaw
  have hT : s.flowInSum = T := by
    rw [State.flowInSum, State.pumpFlow_eq, State.pumpFlow_eq]
  have hwindow : s.circJoined.window = joined s.periodRecord := s.circJoined_window
  have hheld : s.circJoined.held = held s.periodRecord := rfl
  obtain ⟨hmean, hsum⟩ := pumpedPeriod_always (s.expired due)
  have hjoins := pumpedPeriod_joins (s := s.expired due)
  rw [State.expired_circ, State.expired_periodRecord, State.expired_circJoined, State.expired_flowInSum,
    State.expired_flowOut] at hjoins
  rw [State.expired_flowOut] at hmean
  have hcirc : (react (s.worked due)).circ = _ := (react_circ _).trans (s.worked_circ due)
  rw [State.expired_circWorked_pumped hpumped] at hcirc
  obtain ⟨hhead, hmovement⟩ := react_movement (s.worked due)
  rw [s.worked_depth] at hhead hmovement
  have hkept := s.worked_keeps due
  refine ⟨react (s.worked due), s.periodRecord, exec_periodExpiry_due hdue, congrArg (· / 100) hT,
    fun ⟨hfresh, hcount⟩ => ?_, fun hnot hpits => ?_, fun hnot hpits => ?_, fun hstate => ?_, fun hblind hfree => ?_,
    ?_, fun hstate => ?_, fun hblind hstays => ?_, fun hstate => ?_, ?_, ?_, ?_, ?_, ?_, ?_, ?_, hhead, hmovement, ?_, ?_, ?_⟩
  · have hflow := State.flowOut_of_mean (State.goodMean_of hfresh hcount)
    refine ⟨congrArg FlowOut.vout hflow, ?_, congrArg FlowOut.pitDerived hflow, ?_⟩
    · rw [State.periodRecord, hflow]
      rfl
    · rw [hcirc, hmean, hflow]
      rfl
  · have hflow := State.flowOut_of_pits (State.goodMean_of_not hnot) hpits
    refine ⟨congrArg FlowOut.pitDerived hflow, ?_, ?_, ?_⟩
    · rw [State.periodRecord, hflow]
      rfl
    · rw [← hT]
      exact congrArg FlowOut.vout hflow
    · rw [hcirc, hmean, hflow]
  · have hgood := State.goodMean_of_not hnot
    cases hheldMean : c.heldMean with
    | some m =>
      have hflow := State.flowOut_of_heldMean hgood hpits hheldMean
      refine ⟨?_, congrArg FlowOut.pitDerived hflow, fun m' hm => ?_, nofun, ?_⟩
      · rw [State.periodRecord, hflow]
        rfl
      · obtain rfl := Option.some.inj hm
        exact congrArg FlowOut.vout hflow
      · rw [hcirc, hmean, hflow]
    | none =>
      have hflow := State.flowOut_of_nothing hgood hpits hheldMean
      refine ⟨?_, congrArg FlowOut.pitDerived hflow, nofun, fun _ => congrArg FlowOut.vout hflow, ?_⟩
      · rw [State.periodRecord, hflow]
        rfl
      · rw [hcirc, hmean, hflow]
  · obtain ⟨hjoinedWindow, hcarryIn, hcount, hcarry⟩ := hjoins hstate
    rw [hcirc]
    refine ⟨hjoinedWindow.trans hwindow, hcarryIn.trans (congrArg (· % 100) hT), hcount.trans hheld,
      fun ⟨hfresh, hflowCount⟩ => ?_, fun hnot hpits => ?_, fun hnot hpits => ⟨fun m hm => ?_, fun hm => ?_⟩⟩
    · refine hcarry.trans ?_
      rw [State.flowOut_of_mean (State.goodMean_of hfresh hflowCount)]
      rfl
    · refine hcarry.trans ?_
      rw [State.flowOut_of_pits (State.goodMean_of_not hnot) hpits]
    · refine hcarry.trans ?_
      rw [State.flowOut_of_heldMean (State.goodMean_of_not hnot) hpits hm]
      rfl
    · refine hcarry.trans ?_
      rw [State.flowOut_of_nothing (State.goodMean_of_not hnot) hpits hm]
  · have hrefills := pumpedPeriod_refills (s := s.expired due) (by rwa [State.expired_circ])
      (by rwa [State.expired_periodRecord])
    rw [State.expired_periodRecord] at hrefills
    rw [hcirc, hrefills]
    exact ⟨rfl, rfl, rfl, rfl, rfl⟩
  · rw [hcirc]
    exact hsum
  · have hrises := pumpedPeriod_rises (s := s.expired due) (by rwa [State.expired_circ])
      (by rw [State.expired_circ]; exact hoff hstate) (by rw [State.expired_settings]; omega)
    rw [hcirc, hrises]
    exact ⟨rfl, rfl⟩
  · have hkeeps := pumpedPeriod_stays (s := s.expired due) (by rwa [State.expired_circ])
      (by rwa [State.expired_periodRecord])
    rw [hcirc, hkeeps, State.expired_circJoined]
    exact hblind
  · have hstays : s.circ.state.evaluated = true → s.settings.window ≤ s.circJoined.window.length := fun h => by
      have hlen : c.window.length = s.settings.window := hfull h
      rw [hwindow]
      dsimp only [joined]
      rw [if_pos (by exact hlen.ge), List.length_append, List.length_tail, List.length_singleton]
      omega
    have hmoves := pumpedPeriod_moves (s := s.expired due) (by rwa [State.expired_circ])
      (by rwa [State.expired_circ, State.expired_settings, State.expired_circJoined])
    rw [State.expired_circJoined, State.expired_stateJoined] at hmoves
    have hmoved : (react (s.worked due)).circ.state = s.stateJoined := by rw [hcirc, hmoves]
    have hsums : (react (s.worked due)).circ.sumR = s.circJoined.sumR ∧
        (react (s.worked due)).circ.sumIn = s.circJoined.sumIn ∧
        (react (s.worked due)).circ.sumOut = s.circJoined.sumOut := by
      rw [hcirc, hmoves]
      exact ⟨rfl, rfl, rfl⟩
    obtain ⟨hsumR, hsumIn, hsumOut⟩ := hsums
    rw [hmoved, hsumR, hsumIn, hsumOut, ← hheld, ← hwindow, State.stateJoined]
    refine ⟨fun hthree => if_pos hthree, fun hlow hroom => ?_, fun hlow hfull => ?_⟩
    · rw [if_neg hlow.not_ge, if_neg hroom.not_ge]
    · rw [if_neg hlow.not_ge, if_pos hfull]
  · rw [hcirc]
  · rw [hcirc]
  · rw [hcirc]
  · rw [hcirc]
  · rw [hcirc]
  · refine pitsTaken_of ?_
    rw [hcirc, State.takePits_congr ((react_tables _).trans (hkept .tables (by decide)))
      ((react_inputs _).trans (hkept .inputs (by decide)))]
  · rw [hcirc]
  · exact (react_inputs _).trans (hkept .inputs (by decide))
  · exact (react_tables _).trans (hkept .tables (by decide))
  · exact (react_tracker _).trans (hkept .tracker (by decide))

end Sys2Proof.Machine
end

section
/-! A no-pump period: the clearing, and the flowing and return tests (R27 to R29). -/

namespace Sys2Proof.Machine

/-! ### The notice of a change of state (R33) -/

section Notice

variable {s : State} {due q : Nat} {old : CircState}

theorem notifyState_of_same (h : s.circ.state = old) : notifyState old q s = s := if_pos h

section Change

variable (hne : s.circ.state ≠ old)
include hne

theorem notifyState_loss (h : s.circ.state = .loss) : notifyState old q s = s.raise .loss 0 s.lossRate := by
  unfold notifyState
  rw [if_neg hne]
  simp only [h]

theorem notifyState_totalLoss (h : s.circ.state = .totalLoss) : notifyState old q s = s.raise .loss 2 s.lossRate := by
  unfold notifyState
  rw [if_neg hne]
  simp only [h]

theorem notifyState_gain (h : s.circ.state = .gain) : notifyState old q s = s.raise .gain 0 s.lossRate := by
  unfold notifyState
  rw [if_neg hne]
  simp only [h]

theorem notifyState_flowing (h : s.circ.state = .flowing) : notifyState old q s = s.raise .gain 1 q := by
  unfold notifyState
  rw [if_neg hne]
  simp only [h]

theorem notifyState_other (h : s.circ.state ∉ [CircState.loss, .totalLoss, .gain, .flowing]) :
    notifyState old q s = s.raise .circulationState 0 s.circ.state.code := by
  unfold notifyState
  rw [if_neg hne]
  split
  case h_5 => rfl
  all_goals
    next hstate =>
    rw [hstate] at h
    simp at h

end Change

/-- The part at a period's expiry with the period's work done at the monitor. -/
def State.monitored (s : State) : State := if s.pumped then pumpedPeriod s else noPumpPeriod s

theorem State.monitored_circ (s : State) : s.monitored.circ = s.circWorked := rfl

theorem State.monitored_keeps (s : State) : keepsAllBut [.circ] s s.monitored := by
  unfold State.monitored
  split <;> simp

theorem State.worked_trunk (due : Nat) (s : State) : (s.worked due).trunk =
    (notifyState s.circ.state (s.circ.qavg.getD 0) (s.expired due).monitored).trunk := by
  have hhanded : (s.worked due).trunk = (workPeriod (s.expired due)).trunk := rfl
  rw [hhanded, ← State.expired_circ (s := s) (due := due)]
  exact handPeriodResult_keeps _ _ _ _ .trunk (by decide)

/-- A notice of the period's work stands when the tests are made. -/
theorem State.worked_notified {kind : NoticeKind} {subject : Nat} {value : Int}
    (h : notifyState s.circ.state (s.circ.qavg.getD 0) (s.expired due).monitored =
      (s.expired due).monitored.raise kind subject value) (hk : ¬kind.ofTests) :
    notified s (react (s.worked due)) kind subject value := by
  have hnow : (s.expired due).monitored.now = s.now := by
    rw [State.now, (s.expired due).monitored_keeps .mgmt (by decide), State.expired_mgmt]
    rfl
  refine ((State.raise_notified s (s.expired due).monitored kind subject value hnow).congr rfl ?_).react (.inr hk)
  rw [State.worked_trunk, h]

end Notice

/-! ### The tests of three periods (R27 to R29) -/

section Tests

variable {s : State} {due : Nat}

/-- A test of three periods at the count `n`: the third moves the state (R28, R29). -/
def Circulation.counted (n : Nat) (next : CircState) (c : Circulation) : Circulation :=
  if 3 ≤ n then { c with state := next, flowing := 0 } else { c with flowing := n }

theorem countedTest_circ (n : Nat) (next : CircState) (s : State) :
    (if 3 ≤ n then s.onCirc fun c => { c with state := next, flowing := 0 }
      else s.onCirc fun c => { c with flowing := n }).circ = s.circ.counted n next := by
  unfold Circulation.counted
  split <;> rfl

theorem flowingTest_circ (s : State) : (flowingTest s).circ =
    s.circ.counted (if s.countsFlowing then s.circ.flowing + 1 else 0) .flowing := countedTest_circ _ .flowing s

theorem returnTest_circ_of_mean {q : Nat} (h : s.goodMean = some q) : (returnTest s).circ =
    s.circ.counted (if q < s.settings.noiseFloor then s.circ.flowing + 1 else 0) .pumpsOff := by
  unfold returnTest
  simp only [h]
  exact countedTest_circ _ .pumpsOff s

theorem returnTest_circ_of_none (h : s.goodMean = none) : (returnTest s).circ =
    s.circ.counted s.circ.flowing .pumpsOff := by
  unfold returnTest
  simp only [h]
  exact countedTest_circ _ .pumpsOff s

/-- The monitor once a no-pump period has cleared the window (R26, log 15). -/
def Circulation.emptied (c : Circulation) : Circulation := { c.cleared with flowing := c.flowing }

theorem clearNoPump_circ (s : State) : (clearNoPump s).circ = s.circ.emptied := rfl

theorem noPumpPeriod_flowing (h : s.circ.state = .flowing) : noPumpPeriod s = returnTest (clearNoPump s) := by
  simp only [noPumpPeriod, h]

theorem noPumpPeriod_pumpsOff (h : s.circ.state = .pumpsOff) : noPumpPeriod s = flowingTest (clearNoPump s) := by
  simp only [noPumpPeriod, h]

theorem noPumpPeriod_other (hoff : s.circ.state ≠ .pumpsOff) (hflowing : s.circ.state ≠ .flowing) :
    noPumpPeriod s = flowingTest ((clearNoPump s).onCirc fun c =>
      { c with state := .pumpsOff, pumpsOffAt := some s.mgmt.clock, flowing := 0 }) := by
  unfold noPumpPeriod
  split
  · exact absurd ‹_› hflowing
  · exact absurd ‹_› hoff
  · rfl

/-- A period counts toward flowing (R28). -/
theorem State.countsFlowing_iff : s.countsFlowing = true ↔
    (s.inputs[inFlowOut].state = .fresh ∧ s.circ.flowCount ≠ 0) ∧ s.settings.noiseFloor ≤ s.flowMean ∧
      ∃ t, s.circ.pumpsOffAt = some t ∧ t + 1000 * s.settings.flowback ≤ s.mgmt.clock := by
  by_cases hgood : s.inputs[inFlowOut].state = .fresh ∧ s.circ.flowCount ≠ 0
  · rw [and_iff_right hgood]
    simp only [State.countsFlowing, State.goodMean_of hgood.1 hgood.2]
    cases s.circ.pumpsOffAt <;> simp [and_comm]
  · simp only [State.countsFlowing, State.goodMean_of_not hgood, Bool.and_false]
    exact iff_of_false nofun fun h => hgood h.1

/-- What a no-pump period leaves whatever state it finds. -/
theorem noPumpPeriod_always (s : State) : ∃ st mark n, (noPumpPeriod s).circ =
    { s.circ.cleared with state := st, pumpsOffAt := mark, flowing := n } := by
  unfold noPumpPeriod
  dsimp only
  split
  · obtain ⟨n, st, h, -⟩ := returnTest_cases (clearNoPump s)
    exact ⟨_, _, _, h⟩
  · obtain ⟨n, st, h, -⟩ := flowingTest_cases (clearNoPump s)
    exact ⟨_, _, _, h⟩
  · obtain ⟨n, st, h, -⟩ := flowingTest_cases ((clearNoPump s).onCirc fun c =>
      { c with state := .pumpsOff, pumpsOffAt := some s.mgmt.clock, flowing := 0 })
    exact ⟨_, _, _, h⟩

theorem Circulation.counted_of_more {n : Nat} {next : CircState} {c : Circulation} (h : n < 3) :
    c.counted n next = { c with flowing := n } := if_neg h.not_ge

theorem Circulation.counted_of_third {n : Nat} {next : CircState} {c : Circulation} (h : 3 ≤ n) :
    c.counted n next = { c with state := next, flowing := 0 } := if_pos h

theorem Circulation.counted_mark (n : Nat) (next : CircState) (c : Circulation) :
    (c.counted n next).pumpsOffAt = c.pumpsOffAt := by
  unfold Circulation.counted
  split <;> rfl

end Tests

section Expired

variable {s : State} {due : Nat}

theorem State.expired_monitored (hidle : s.circ.strokes1 + s.circ.strokes2 = 0) :
    (s.expired due).monitored = noPumpPeriod (s.expired due) := by
  have h : (s.expired due).pumped = false := decide_eq_false (by rw [State.expired_circ, hidle]; decide)
  rw [State.monitored, if_neg (by rw [h]; nofun)]

theorem clearNoPump_goodMean (due : Nat) (s : State) : (clearNoPump (s.expired due)).goodMean = s.goodMean := by
  rw [s.expired_eq due]
  rfl

theorem clearNoPump_expired_circ (due : Nat) (s : State) : (clearNoPump (s.expired due)).circ = s.circ.emptied := by
  rw [clearNoPump_circ, State.expired_circ]

theorem clearNoPump_noiseFloor (due : Nat) (s : State) :
    (clearNoPump (s.expired due)).settings.noiseFloor = s.settings.noiseFloor := by
  rw [s.expired_eq due]
  rfl

theorem clearNoPump_counts : (clearNoPump (s.expired due)).countsFlowing = true ↔
    (s.inputs[inFlowOut].state = .fresh ∧ s.circ.flowCount ≠ 0) ∧ s.settings.noiseFloor ≤ s.flowMean ∧
      ∃ t, s.circ.pumpsOffAt = some t ∧ t + 1000 * s.settings.flowback ≤ max s.mgmt.clock due := by
  rw [State.countsFlowing_iff, s.expired_eq due]
  rfl

theorem marked_now_iff (now k : Nat) : (∃ t, some now = some t ∧ t + 1000 * k ≤ now) ↔ k = 0 := by
  simp only [Option.some.injEq, exists_eq_left']
  omega

/-- A no-pump period in any other state stops the pumps, and makes the flowing test from there (R27). -/
theorem noPumpPeriod_stops (hoff : s.circ.state ≠ .pumpsOff) (hflowing : s.circ.state ≠ .flowing) :
    (noPumpPeriod (s.expired due)).circ = { s.circ.cleared with
      state := .pumpsOff, pumpsOffAt := some (max s.mgmt.clock due)
      flowing := if (s.inputs[inFlowOut].state = .fresh ∧ s.circ.flowCount ≠ 0) ∧
        s.settings.noiseFloor ≤ s.flowMean ∧ s.settings.flowback = 0 then 1 else 0 } := by
  rw [noPumpPeriod_other (by rwa [State.expired_circ]) (by rwa [State.expired_circ]), flowingTest_circ]
  generalize hstopped : ((clearNoPump (s.expired due)).onCirc fun c =>
    { c with state := .pumpsOff, pumpsOffAt := some (s.expired due).mgmt.clock, flowing := 0 }) = t
  have hcirc : t.circ = { s.circ.cleared with
      state := .pumpsOff, pumpsOffAt := some (max s.mgmt.clock due), flowing := 0 } := by
    rw [← hstopped, s.expired_eq due]
    rfl
  have hcounts : t.countsFlowing = true ↔ (s.inputs[inFlowOut].state = .fresh ∧ s.circ.flowCount ≠ 0) ∧
      s.settings.noiseFloor ≤ s.flowMean ∧ s.settings.flowback = 0 := by
    rw [State.countsFlowing_iff, ← hstopped, s.expired_eq due]
    exact and_congr_right fun _ => and_congr_right fun _ => marked_now_iff _ _
  rw [hcirc]
  by_cases hone : (s.inputs[inFlowOut].state = .fresh ∧ s.circ.flowCount ≠ 0) ∧
      s.settings.noiseFloor ≤ s.flowMean ∧ s.settings.flowback = 0
  · rw [if_pos (hcounts.mpr hone), if_pos hone, Circulation.counted_of_more (by exact (by decide : 0 + 1 < 3))]
  · rw [if_neg fun h => hone (hcounts.mp h), if_neg hone, Circulation.counted_of_more (by decide)]

end Expired

/-- Settles O45: the window is emptied, and each state makes its test of three periods. -/
theorem noPumpPeriodClearsTheWindow : Obligations.NoPumpPeriodClearsTheWindow := by
  intro due s hmode hdue hidle c now qavg good counts
  have hmonitored := State.expired_monitored (due := due) hidle
  have hworked : (s.expired due).circWorked = (noPumpPeriod (s.expired due)).circ := by
    rw [← State.monitored_circ, hmonitored]
  have hcirc : (react (s.worked due)).circ = _ := (react_circ _).trans (s.worked_circ due)
  rw [hworked] at hcirc
  obtain ⟨st, mark, n, hcleared⟩ := noPumpPeriod_always (s.expired due)
  have hall := hcirc
  rw [hcleared, State.expired_circ] at hall
  have hkept := s.worked_keeps due
  have hnotified : ∀ {kind : NoticeKind} {subject : Nat} {value : Int},
      notifyState c.state (c.qavg.getD 0) (noPumpPeriod (s.expired due)) =
        (noPumpPeriod (s.expired due)).raise kind subject value → ¬kind.ofTests →
      notified s (react (s.worked due)) kind subject value := fun h hk =>
    State.worked_notified (by rwa [hmonitored]) hk
  have hoff : ∀ {t : State}, c.state ≠ .pumpsOff → t.circ.state = .pumpsOff →
      notifyState c.state (c.qavg.getD 0) t = t.raise .circulationState 0 0 := by
    intro t hne h
    rw [notifyState_other (by rwa [h, ne_comm]) (by rw [h]; decide), h]
    rfl
  refine ⟨react (s.worked due), exec_periodExpiry_due hdue, ?_, ?_, ?_, ?_, ?_, ?_, ?_, ?_, ?_, ?_, ?_, ?_, ?_, ?_, ?_,
    fun hstate => ?_, fun hstate => ?_, fun hnotOff hnotFlowing => ?_⟩
  case refine_14 =>
    refine pitsTaken_of ?_
    rw [hcirc, State.takePits_congr ((react_tables _).trans (hkept .tables (by decide)))
      ((react_inputs _).trans (hkept .inputs (by decide)))]
  case refine_16 =>
    have hwork : (noPumpPeriod (s.expired due)).circ =
        c.emptied.counted (if (clearNoPump (s.expired due)).countsFlowing then c.flowing + 1 else 0) .flowing := by
      rw [noPumpPeriod_pumpsOff (by rwa [State.expired_circ]), flowingTest_circ, clearNoPump_expired_circ]
      rfl
    rw [hwork] at hcirc
    refine ⟨?_, fun hcounts hfew => ?_, fun hcounts hthird => ?_, fun hnot => ?_⟩
    · rw [hcirc]
      exact Circulation.counted_mark _ _ _
    · rw [hcirc, if_pos (clearNoPump_counts.mpr hcounts), Circulation.counted_of_more (by omega)]
      exact ⟨hstate, rfl⟩
    · rw [if_pos (clearNoPump_counts.mpr hcounts), Circulation.counted_of_third (by omega)] at hwork hcirc
      obtain ⟨⟨-, hcount⟩, -, -⟩ := hcounts
      refine ⟨by rw [hcirc], by rw [hcirc], hnotified ?_ (by simp [NoticeKind.ofTests])⟩
      rw [Circulation.qavg_of hcount, notifyState_flowing (by rw [hwork, hstate]; nofun) (by rw [hwork])]
      rfl
    · rw [hcirc, if_neg fun h => hnot (clearNoPump_counts.mp h), Circulation.counted_of_more (by decide)]
      exact ⟨hstate, rfl⟩
  case refine_17 =>
    have hflowing : noPumpPeriod (s.expired due) = returnTest (clearNoPump (s.expired due)) :=
      noPumpPeriod_flowing (by rwa [State.expired_circ])
    have hgood : ∀ {n : Nat}, s.inputs[inFlowOut].state = .fresh → c.flowCount ≠ 0 →
        (if qavg < s.settings.noiseFloor then c.flowing + 1 else 0) = n →
        (noPumpPeriod (s.expired due)).circ = c.emptied.counted n .pumpsOff := by
      intro n hfresh hcount hn
      rw [hflowing, returnTest_circ_of_mean ((clearNoPump_goodMean due s).trans (State.goodMean_of hfresh hcount)),
        clearNoPump_expired_circ, clearNoPump_noiseFloor, ← hn]
      rfl
    refine ⟨?_, fun ⟨hfresh, hcount⟩ hlow hfew => ?_, fun ⟨hfresh, hcount⟩ hlow hthird => ?_,
      fun ⟨hfresh, hcount⟩ hhigh => ?_, fun hnot hfew => ?_⟩
    · have hcount : ∃ n, (noPumpPeriod (s.expired due)).circ = c.emptied.counted n .pumpsOff := by
        by_cases h : good
        · exact ⟨_, hgood h.1 h.2 rfl⟩
        · rw [hflowing, returnTest_circ_of_none ((clearNoPump_goodMean due s).trans (State.goodMean_of_not h)),
            clearNoPump_expired_circ]
          exact ⟨_, rfl⟩
      obtain ⟨n, hn⟩ := hcount
      rw [hcirc, hn]
      exact Circulation.counted_mark _ _ _
    · rw [hcirc, hgood hfresh hcount (if_pos hlow), Circulation.counted_of_more (by omega)]
      exact ⟨hstate, rfl⟩
    · have hwork := hgood hfresh hcount (if_pos hlow)
      rw [Circulation.counted_of_third (by omega)] at hwork
      rw [hwork] at hcirc
      refine ⟨by rw [hcirc], by rw [hcirc], hnotified (hoff ?_ ?_) (by simp [NoticeKind.ofTests])⟩
      · rw [hstate]
        nofun
      · rw [hwork]
    · rw [hcirc, hgood hfresh hcount (if_neg hhigh.not_gt), Circulation.counted_of_more (by decide)]
      exact ⟨hstate, rfl⟩
    · rw [hcirc, hflowing, returnTest_circ_of_none ((clearNoPump_goodMean due s).trans (State.goodMean_of_not hnot)),
        clearNoPump_expired_circ, Circulation.counted_of_more (n := s.circ.emptied.flowing) hfew]
      exact ⟨hstate, rfl⟩
  case refine_18 =>
    have hwork := noPumpPeriod_stops (due := due) hnotOff hnotFlowing
    rw [hcirc, hwork]
    exact ⟨rfl, rfl, if_congr Iff.rfl rfl rfl, hnotified (hoff hnotOff (by rw [hwork])) (by simp [NoticeKind.ofTests])⟩
  all_goals exact hall ▸ rfl

end Sys2Proof.Machine
end

section
/-! What a period's expiry hands on (R25, R33, R35, R36, R48, R100, R139). -/

namespace Sys2Proof.Machine

/-! ### The depth unit's tests leave the lost mud and the conditions of an advance -/

section Tests

variable {s t : State}

theorem addPieces_lostMud (bands : List Band) (extra : Nat) (pieces : List (Int × Int)) (a : Accumulators) :
    (pieces.foldl (addPiece bands extra) a).lostMud = a.lostMud := by
  induction pieces generalizing a with
  | nil => rfl
  | cons piece rest ih =>
    refine (ih _).trans ?_
    rfl

theorem addFootage_lostMud (s : State) (lo hi : Int) (cls : Nat) (a : Accumulators) :
    (addFootage s lo hi cls a).lostMud = a.lostMud := by
  unfold addFootage
  split
  · rfl
  · exact addPieces_lostMud _ _ _ a

theorem billFootage_lostMud (top bottom : Int) (cls : Nat) (s : State) :
    (billFootage top bottom cls s).billing.acc.lostMud = s.billing.acc.lostMud := by
  unfold billFootage
  split
  · rfl
  · exact addFootage_lostMud _ _ _ _ _

theorem closeInterval_lostMud (bottom : Int) (added : FlagSet) (s : State) :
    (closeInterval bottom added s).billing.acc.lostMud = s.billing.acc.lostMud := by
  have happend : ∀ r, (appendRecord r s).billing = s.billing := fun r => appendRecord_keeps r s .billing (by decide)
  unfold closeInterval
  split
  · next i _ =>
    unfold handOnRecord
    dsimp only
    split
    · exact (billFootage_lostMud _ _ _ _).trans (congrArg (fun b : Billing => b.acc.lostMud) (happend _))
    · exact congrArg (fun b : Billing => b.acc.lostMud) (happend _)
  · rfl

theorem boundaryLoop_lostMud (n : Nat) (s : State) :
    (boundaryLoop n s).billing.acc.lostMud = s.billing.acc.lostMud := by
  induction n generalizing s with
  | zero => rfl
  | succ n ih =>
    unfold boundaryLoop
    split
    · rw [ih, reopen_keeps _ _ _ .billing (by decide), closeInterval_lostMud]
    · rfl

theorem react_lostMud (s : State) : (react s).billing.acc.lostMud = s.billing.acc.lostMud := by
  have hadvance : (advanceHole s).billing.acc.lostMud = s.billing.acc.lostMud := by
    unfold advanceHole
    split
    · unfold onHoleAdvance boundaryCheck
      rw [boundaryLoop_lostMud, testOverdue_keeps _ .billing (by decide)]
      rfl
    · rfl
  rw [← hadvance, react, reindicate_keeps _ .billing (by decide)]

/-- The movement of a period is no part of the on-bottom condition (R86). -/
theorem State.onBottom_of_movement {head movement : Option Int} (htables : t.tables = s.tables)
    (hinputs : t.inputs = s.inputs)
    (hdepth : t.depth = { s.depth with periodHead := head, lastMovement := movement }) : t.onBottom = s.onBottom := by
  obtain ⟨_, _, _, _, _, _, _, _, _, _, _, _⟩ := t
  dsimp only at htables hinputs hdepth
  subst htables hinputs hdepth
  rfl

theorem react_stays {head movement : Option Int} (htables : t.tables = s.tables) (hinputs : t.inputs = s.inputs)
    (hdepth : t.depth = { s.depth with periodHead := head, lastMovement := movement })
    (h : s.onBottom = false ∨ s.depth.bit ≤ s.depth.hole) :
    (react t).recorder = t.recorder ∧ (react t).banks = t.banks ∧ (react t).billing = t.billing := by
  have hstill : react t = reindicate t := by
    refine react_of_notAdvance (.inr ?_)
    rw [State.onBottom_of_movement htables hinputs hdepth, hdepth]
    exact h
  rw [hstill]
  exact ⟨reindicate_keeps t .recorder (by decide), reindicate_keeps t .banks (by decide),
    reindicate_keeps t .billing (by decide)⟩

end Tests

/-! ### The judged pumps (R48) -/

section Pumps

variable {s : State} {p q : PumpId} {strokes due : Nat}

/-- The count of misses of a pump with its period's strokes (R48). -/
def Pump.missed (strokes period : Nat) (u : Pump) : Nat :=
  if doesNotFollow u.commanded (strokes * 60 / period) strokes then u.notFollowing + 1 else 0

/-- A pump after its measured rate is judged: the third miss sets its count to 0 (R48). -/
def Pump.judged (strokes period : Nat) (u : Pump) : Pump := { u with
  measured := some (strokes * 60 / period)
  notFollowing := if 3 ≤ u.missed strokes period then 0 else u.missed strokes period }

theorem judgePeriod_eq (p : PumpId) (strokes : Nat) (s : State) : judgePeriod p strokes s =
    if s.commanding = true ∧ s.used p = true then
      if 3 ≤ (s.pump p).missed strokes s.settings.period then
        (s.onPump p (Pump.judged strokes s.settings.period)).raise .pumpNotFollowing (p.val + 1)
          (strokes * 60 / s.settings.period : Nat)
      else s.onPump p (Pump.judged strokes s.settings.period)
    else s := rfl

theorem judgePeriod_pump : (judgePeriod p strokes s).pump q =
    if p = q ∧ s.commanding = true ∧ s.used p = true then (s.pump p).judged strokes s.settings.period
    else s.pump q := by
  have hraise : ∀ (t : State) (k : NoticeKind) (n : Nat) (v : Int), (t.raise k n v).pump q = t.pump q := fun t k n v =>
    congrArg (fun c : PumpControl => c.pumps[q]) (raise_pumpCtl t k n v)
  rw [judgePeriod_eq]
  by_cases h : s.commanding = true ∧ s.used p = true
  · have hjudged : (s.onPump p (Pump.judged strokes s.settings.period)).pump q =
        if p = q ∧ s.commanding = true ∧ s.used p = true then (s.pump p).judged strokes s.settings.period
        else s.pump q := by simp [State.onPump_pump, h]
    rw [if_pos h]
    split
    · rw [hraise, hjudged]
    · exact hjudged
  · rw [if_neg h, if_neg fun hall => h hall.2]

theorem judgePeriod_notified (h : s.commanding = true ∧ s.used p = true)
    (hthird : 3 ≤ (s.pump p).missed strokes s.settings.period) : notified s (judgePeriod p strokes s)
      .pumpNotFollowing (p.val + 1) (strokes * 60 / s.settings.period : Nat) := by
  rw [judgePeriod_eq, if_pos h, if_pos hthird]
  exact State.raise_notified _ _ _ _ _ rfl

/-- The second pump's test leaves a notice of the first (R161). -/
theorem notified.judgePeriod {u : State} {kind : NoticeKind} {subject : Nat} {value : Int}
    (h : notified u s kind subject value) (hne : kind.isUrgent = true ∨ subject ≠ p.val + 1) :
    notified u (judgePeriod p strokes s) kind subject value := by
  rw [judgePeriod_eq]
  split
  · split
    · exact h.raise (hne.imp_right fun hne heq => hne heq.2.symm)
    · exact h
  · exact h

theorem judgePeriod_view (p : PumpId) (strokes : Nat) (s : State) :
    (judgePeriod p strokes s).commanding = s.commanding ∧ (∀ q, (judgePeriod p strokes s).used q = s.used q) ∧
    (judgePeriod p strokes s).settings = s.settings ∧ (judgePeriod p strokes s).now = s.now := by
  have htables : (judgePeriod p strokes s).tables = s.tables := judgePeriod_keeps p strokes s .tables (by decide)
  have hmgmt : (judgePeriod p strokes s).mgmt = s.mgmt := judgePeriod_keeps p strokes s .mgmt (by decide)
  refine ⟨?_, fun q => State.used_congr q htables, congrArg Tables.settings htables, ?_⟩
  · rw [State.commanding, State.mode, hmgmt]
    rfl
  · rw [State.now, hmgmt]
    rfl

/-- The strokes a pump counted in the period. -/
def Circulation.strokesOf (p : PumpId) (c : Circulation) : Nat := if p = 0 then c.strokes1 else c.strokes2

theorem State.expired_pump (due : Nat) (s : State) (p : PumpId) : (s.expired due).pump p =
    if s.commanding = true ∧ s.used p = true then (s.pump p).judged (s.circ.strokesOf p) s.settings.period
    else s.pump p := by
  have hreach : (s.reach due).commanding = s.commanding ∧ (s.reach due).settings = s.settings ∧
      (∀ q, (s.reach due).used q = s.used q) ∧ ∀ q, (s.reach due).pump q = s.pump q :=
    ⟨rfl, rfl, fun _ => rfl, fun _ => rfl⟩
  obtain ⟨hcommanding, hsettings, hused, hpump⟩ := hreach
  obtain ⟨hcommanding1, hused1, hsettings1, -⟩ := judgePeriod_view 0 s.circ.strokes1 (s.reach due)
  rw [State.expired, judgePeriod_pump, hcommanding1, hused1, hsettings1, judgePeriod_pump, judgePeriod_pump, hcommanding,
    hused, hsettings, hused, hpump]
  fin_cases p
  · simp [Circulation.strokesOf, hpump]
  · simp [Circulation.strokesOf, hpump]

theorem State.expired_notified (h : s.commanding = true ∧ s.used p = true)
    (hthird : 3 ≤ (s.pump p).missed (s.circ.strokesOf p) s.settings.period) :
    notified s (s.expired due) .pumpNotFollowing (p.val + 1) (s.circ.strokesOf p * 60 / s.settings.period : Nat) := by
  obtain ⟨hcommanding, hused, hsettings, hnow⟩ := judgePeriod_view 0 s.circ.strokes1 (s.reach due)
  match p with
  | 0 =>
    have hfirst := judgePeriod_notified (s := s.reach due) (p := 0) (strokes := s.circ.strokes1) h hthird
    exact (notified.congr hfirst rfl rfl).judgePeriod (.inr (by decide))
  | 1 =>
    have hother : (judgePeriod 0 s.circ.strokes1 (s.reach due)).pump 1 = s.pump 1 := by
      rw [judgePeriod_pump, if_neg (by simp)]
      rfl
    have hsecond := judgePeriod_notified (s := judgePeriod 0 s.circ.strokes1 (s.reach due)) (p := 1)
      (strokes := s.circ.strokes2) (by rw [hcommanding, hused]; exact h) (by rw [hother, hsettings]; exact hthird)
    rw [hsettings] at hsecond
    exact hsecond.congr hnow.symm rfl

end Pumps

end Sys2Proof.Machine
end

section
/-! The result of a period at the interval, the meter and the notices (R25, R33, R35, R36, R48, R100, R139). -/

namespace Sys2Proof.Machine

/-! ### The hand-off (R35, R36, R100, R139) -/

section HandOff

variable {s : State} {due : Nat}

/-- What the hand-off of a period's result reads. -/
def State.noticed (due : Nat) (s : State) : State :=
  notifyState (s.expired due).circ.state ((s.expired due).circ.qavg.getD 0) (s.expired due).monitored

theorem State.noticed_keeps (due : Nat) (s : State) :
    keepsAllBut [.circ, .pumpCtl, .trunk, .mgmt] s (s.noticed due) := by
  refine keepsAllBut_trans (keepsAllBut_mono (s.expired_keeps due) (by simp)) ?_
  exact keepsAllBut_trans (keepsAllBut_mono (State.monitored_keeps _) (by simp))
    (keepsAllBut_mono (notifyState_keeps _ _ _) (by simp))

theorem State.worked_state (due : Nat) (s : State) :
    (react (s.worked due)).circ.state = (s.expired due).monitored.circ.state := by
  rw [react_circ, s.worked_circ]
  rfl

theorem State.noticed_state (due : Nat) (s : State) :
    (s.noticed due).circ.state = (react (s.worked due)).circ.state := by
  rw [State.worked_state, State.noticed, notifyState_keeps _ _ _ .circ (by decide)]

theorem State.expired_pumped (due : Nat) (s : State) :
    (s.expired due).pumped = decide (0 < s.circ.strokes1 + s.circ.strokes2) := by
  rw [State.pumped, State.expired_circ]

theorem State.workPeriod_expired (due : Nat) (s : State) : workPeriod (s.expired due) =
    handPeriodResult (decide (0 < s.circ.strokes1 + s.circ.strokes2)) s.periodRecord s.circ.periodHeld
      (s.noticed due) := by
  rw [← State.expired_pumped due s, ← State.expired_periodRecord (due := due),
    ← congrArg Circulation.periodHeld (State.expired_circ (s := s) (due := due))]
  rfl

theorem addLostMud_recorder (volume : Nat) (t : State) : (addLostMud volume t).recorder = t.recorder :=
  addLostMud_keeps volume t .recorder (by decide)

/-- The period's result at the recorder (R35, R100). -/
theorem handPeriodResult_recorder (pumped : Bool) (r : PeriodRecord) (mark : Bool) (t : State) :
    (handPeriodResult pumped r mark t).recorder = (onPeriodResult (if pumped = true then r.balance.toNat else 0)
      (if pumped = true then (-r.balance).toNat else 0) (if pumped = true then r.held else mark) t.circ.state
      t).recorder := by
  cases pumped
  · rfl
  · unfold handPeriodResult
    dsimp only
    rw [if_pos rfl, if_pos rfl, if_pos rfl, if_pos rfl]
    split
    · exact addLostMud_recorder _ _
    · rfl

/-- The period's lost mud at the meter (R139). -/
theorem handPeriodResult_lostMud (pumped : Bool) (r : PeriodRecord) (mark : Bool) (t : State) :
    (handPeriodResult pumped r mark t).billing.acc.lostMud =
      if t.job.state = .opened ∧ pumped = true ∧ 0 < r.balance ∧
        (t.circ.state = .loss ∨ t.circ.state = .totalLoss) then
        min (2 ^ 48 - 1) (t.billing.acc.lostMud + r.balance.toNat)
      else t.billing.acc.lostMud := by
  unfold handPeriodResult
  dsimp only
  by_cases hp : pumped = true
  · rw [if_pos hp]
    by_cases hloss : 0 < r.balance ∧ (t.circ.state = .loss ∨ t.circ.state = .totalLoss)
    · rw [if_pos hloss]
      unfold addLostMud
      by_cases hjob : t.job.state = .opened
      · rw [if_pos (by exact hjob), if_pos ⟨hjob, hp, hloss⟩]
        rfl
      · rw [if_neg (by exact hjob), if_neg fun h => hjob h.1]
        rfl
    · rw [if_neg hloss, if_neg fun h => hloss h.2.2]
      rfl
  · rw [if_neg hp, if_neg fun h => hp h.2.1]
    rfl

theorem State.worked_recorder (due : Nat) (s : State) :
    (s.worked due).recorder = (workPeriod (s.expired due)).recorder :=
  (endMovementPeriod_keeps _ .recorder (by decide)).trans (beginPeriod_keeps _ .recorder (by decide))

theorem State.worked_billing (due : Nat) (s : State) :
    (s.worked due).billing = (workPeriod (s.expired due)).billing :=
  (endMovementPeriod_keeps _ .billing (by decide)).trans (beginPeriod_keeps _ .billing (by decide))

theorem State.worked_pumpCtl (due : Nat) (s : State) : (s.worked due).pumpCtl = (s.expired due).pumpCtl :=
  (endMovementPeriod_keeps _ .pumpCtl (by decide)).trans
    ((beginPeriod_keeps _ .pumpCtl (by decide)).trans (workPeriod_keeps _ .pumpCtl (by decide)))

theorem State.worked_recorder_of_none (h : s.recorder.interval = none) : (s.worked due).recorder = s.recorder := by
  have hrecorder : (s.noticed due).recorder = s.recorder := s.noticed_keeps due .recorder (by decide)
  rw [State.worked_recorder, State.workPeriod_expired, handPeriodResult_recorder, onPeriodResult,
    State.onInterval_of_none (by rw [hrecorder, h]), hrecorder]

theorem State.worked_interval {i : Interval} (h : s.recorder.interval = some i) :
    let pumped := 0 < s.circ.strokes1 + s.circ.strokes2
    let st := (react (s.worked due)).circ.state
    (s.worked due).recorder = { s.recorder with interval := some { i with
      loss := min 4294967295 (i.loss + if pumped then s.periodRecord.balance.toNat else 0)
      gain := min 4294967295 (i.gain + if pumped then (-s.periodRecord.balance).toNat else 0)
      flags := i.flags |||
        (if (pumped ∧ s.periodRecord.held = true) ∨ (¬pumped ∧ s.circ.periodHeld = true) then 8#10 else 0) |||
        (if st = .loss ∨ st = .totalLoss then 1#10 else 0) |||
        (if st = .gain then 2#10 else 0) |||
        (if st = .flowing then 4#10 else 0) } } := by
  intro pumped st
  have hrecorder : (s.noticed due).recorder = s.recorder := s.noticed_keeps due .recorder (by decide)
  rw [State.worked_recorder, State.workPeriod_expired, handPeriodResult_recorder, onPeriodResult,
    State.onInterval_of (by rw [hrecorder, h]), hrecorder, State.noticed_state]
  have hheld : (if 0 < s.circ.strokes1 + s.circ.strokes2 then s.periodRecord.held else s.circ.periodHeld) = true ↔
      (pumped ∧ s.periodRecord.held = true) ∨ (¬pumped ∧ s.circ.periodHeld = true) := by
    by_cases hpumped : pumped
    · rw [if_pos hpumped]
      simp [hpumped]
    · rw [if_neg hpumped]
      simp [hpumped]
  simp only [decide_eq_true_eq, flagIf_eq, Bool.or_eq_true, beq_iff_eq, hheld]
  rfl

end HandOff

/-! ### The rate and the notices (R25, R33) -/

section Notices

variable {s : State} {due : Nat}

theorem lossRateOf_of_ne {n : Nat} (r : Int) (p : Nat) (h : n ≠ 0) : lossRateOf r n p =
    max (-99999) (min (Int.sign r * ((2 * (r * 36).natAbs + 10 * n * p) / (2 * (10 * n * p)) : Nat)) 99999) := by
  have hsign : (r * 36).sign = r.sign := by rw [Int.sign_mul]; exact mul_one _
  rw [lossRateOf, if_neg h, clampZ, roundAway, hsign]

/-- The loss rate at the end of the event is the one the notice carries. -/
theorem State.worked_lossRate (due : Nat) (s : State) :
    (react (s.worked due)).lossRate = (s.expired due).monitored.lossRate := by
  have htables : (s.expired due).monitored.tables = s.tables :=
    ((s.expired due).monitored_keeps .tables (by decide)).trans State.expired_tables
  have htables' : (react (s.worked due)).tables = s.tables :=
    (react_tables _).trans (s.worked_keeps due .tables (by decide))
  rw [State.lossRate, State.lossRate, State.settings, State.settings, htables, htables', react_circ, s.worked_circ]
  rfl

theorem doesNotFollow_iff (c m n : Nat) : doesNotFollow c m n = true ↔
    (0 < c ∧ c < ((m : Int) - c).natAbs * 5) ∨ (c = 0 ∧ 0 < n) := by
  simp [doesNotFollow]

/-- The kinds of notice that a period's expiry can send after the pumps are judged. -/
def NoticeKind.ofPeriod (k : NoticeKind) : Prop := k = .loss ∨ k = .gain ∨ k = .circulationState ∨ k.ofTests

theorem State.period_trunk (due : Nat) (s : State) :
    Trunk.Moved NoticeKind.ofPeriod false (s.expired due).trunk (react (s.worked due)).trunk := by
  have hmark : NoticeKind.ofPeriod .bankFillMark := .inr (.inr (.inr (.inl rfl)))
  have hready : NoticeKind.ofPeriod .bankReady := .inr (.inr (.inr (.inr (.inl rfl))))
  have hexhausted : NoticeKind.ofPeriod .banksExhausted := .inr (.inr (.inr (.inr (.inr (.inl rfl)))))
  have hactivity : NoticeKind.ofPeriod .activity := .inr (.inr (.inr (.inr (.inr (.inr rfl)))))
  refine react_moved hmark hready hexhausted hactivity ?_
  rw [State.worked_trunk]
  refine notifyState_moved (.inl rfl) (.inr (.inl rfl)) (.inr (.inr (.inl rfl))) ?_
  rw [(s.expired due).monitored_keeps .trunk (by decide)]
  exact .refl

theorem State.expired_trunk (due : Nat) (s : State) :
    Trunk.Moved (· = .pumpNotFollowing) false s.trunk (s.expired due).trunk :=
  judgePeriod_moved rfl (judgePeriod_moved rfl .refl)

end Notices

/-- Settles O47: the notice, the interval, the meter and the pumps each take their part of the period's result. -/
theorem periodResultIsHandedOn : Obligations.PeriodResultIsHandedOn := by
  intro due s hlaw hmode hdue pumped
  have hkept := s.worked_keeps due
  have htables : (s.worked due).tables = s.tables := hkept .tables (by decide)
  have hinputs : (s.worked due).inputs = s.inputs := hkept .inputs (by decide)
  have hstate := s.worked_state due
  have hchanged : (react (s.worked due)).circ.state ≠ s.circ.state →
      (s.expired due).monitored.circ.state ≠ s.circ.state := fun hne => hstate ▸ hne
  refine ⟨s.worked due, react (s.worked due), exec_periodExpiry_due hdue, rfl, hkept, s.worked_depth due,
    fun hstays => ?_, fun hsame n hn hkind => ?_, fun hne => ⟨fun h => ?_, fun h => ?_, fun h => ?_, fun h => ?_⟩,
    fun hwindow => ?_, fun hnone => State.worked_recorder_of_none hnone, fun i hi => State.worked_interval hi, ?_,
    fun p => ?_⟩
  · obtain ⟨hrecorder, hbanks, hbilling⟩ := react_stays htables hinputs (s.worked_depth due) hstays
    exact ⟨hrecorder, hbanks.trans (hkept .banks (by decide)), hbilling⟩
  · have htests := (react_trunk _).mem_urgent hn (by rcases hkind with h | h <;> simp [h, NoticeKind.ofTests])
    rw [State.worked_trunk, notifyState_of_same (hstate ▸ hsame), State.monitored_keeps _ .trunk (by decide)] at htests
    exact (s.expired_trunk due).mem_urgent htests (by rcases hkind with h | h <;> simp [h])
  · rw [State.worked_lossRate]
    exact State.worked_notified (notifyState_loss (hchanged hne) (hstate.symm.trans h)) (by simp [NoticeKind.ofTests])
  · rw [State.worked_lossRate]
    exact State.worked_notified (notifyState_totalLoss (hchanged hne) (hstate.symm.trans h)) (by simp [NoticeKind.ofTests])
  · rw [State.worked_lossRate]
    exact State.worked_notified (notifyState_gain (hchanged hne) (hstate.symm.trans h)) (by simp [NoticeKind.ofTests])
  · rw [hstate] at h ⊢
    exact State.worked_notified (notifyState_other (hchanged hne) h) (by simp [NoticeKind.ofTests])
  · have hsettings : (react (s.worked due)).settings = s.settings :=
      congrArg Tables.settings ((react_tables _).trans htables)
    rw [State.lossRate, lossRateOf_of_ne _ _ hwindow, hsettings]
  · have hbilling : (s.noticed due).billing = s.billing := s.noticed_keeps due .billing (by decide)
    have hjob : (s.noticed due).job = s.job := congrArg Billing.job hbilling
    rw [react_lostMud, State.worked_billing, State.workPeriod_expired, handPeriodResult_lostMud, State.noticed_state,
      hbilling, hjob]
    simp only [decide_eq_true_eq]
    rfl
  · have hpump : (react (s.worked due)).pumpCtl.pumps[p] = (s.expired due).pump p := by
      rw [react_pumpCtl, State.worked_pumpCtl]
      rfl
    rw [State.expired_pump] at hpump
    intro u n m misses
    have hmisses : doesNotFollow u.commanded m n = true ↔ misses := doesNotFollow_iff _ _ _
    have hmissed : (s.pump p).missed n s.settings.period = if misses then u.notFollowing + 1 else 0 :=
      if_congr hmisses rfl rfl
    have hmodes : ∀ {mode : Mode}, mode ≠ .starting → mode ≠ .monitor → (mode == .supervised || mode == .standby) = true := by
      intro mode
      cases mode <;> simp
    refine ⟨fun hidle => ?_, fun hmonitor hnode => ?_⟩
    · rw [hpump]
      refine if_neg fun ⟨hcommanding, hused⟩ => ?_
      rcases hidle with hidle | hidle
      · simp [State.commanding, hidle] at hcommanding
      · exact (s.used_iff p).mp hused hidle
    · have hjudges : s.commanding = true ∧ s.used p = true := ⟨hmodes hmode hmonitor, (s.used_iff p).mpr hnode⟩
      rw [if_pos hjudges, Pump.judged] at hpump
      have hstrokes : s.circ.strokesOf p = n := rfl
      rw [hstrokes, hmissed] at hpump
      refine ⟨fun hnot => ?_, fun hyes hfew => ?_, fun hyes hthird => ⟨?_, ?_⟩⟩
      · rw [hpump, if_neg hnot]
        rfl
      · rw [hpump, if_pos hyes, if_neg (by omega)]
        rfl
      · rw [hpump, if_pos hyes, if_pos (by omega)]
        rfl
      · have hthree : 3 ≤ (s.pump p).missed (s.circ.strokesOf p) s.settings.period := by
          rw [hstrokes, hmissed, if_pos hyes]
          omega
        exact (State.expired_notified (due := due) hjudges hthree).after (s.period_trunk due)
          (.inr (by simp [NoticeKind.ofPeriod, NoticeKind.ofTests]))

end Sys2Proof.Machine
end
